-- ==== Sys2Proof/Word.lean ====
section
/-! DEFINITION. The byte and word types of the line, the plain integer arithmetic of the manual's
Conventions (saturating, clamped), and fixed-size tables with total access. -/

namespace Sys2Proof

/-- One byte as it travels on the works line (chapter 12). -/
abbrev Byte := BitVec 8

/-- A station number as one byte: 0 is broadcast, 1 to 250 valid, 251 to 255 invalid. -/
abbrev Station := BitVec 8

/-- A run of bytes, first byte first. -/
abbrev Bytes := List Byte

/-- The works minute: a 32-bit running count (Conventions, Units and ranges). -/
abbrev Minute := BitVec 32

/-- A count raised by 1, saturating at its upper limit (Conventions, Arithmetic). -/
def satInc (limit n : Nat) : Nat := min limit (n + 1)

/-- "Clamped to" a range (Conventions, Arithmetic). -/
def clampInt (lo hi x : Int) : Int := max lo (min x hi)

/-- The entry numbers 0 to n - 1 of a table, ascending. -/
def indexes (n : Nat) : List (Fin n) :=
  (List.range n).filterMap fun i => if h : i < n then some ⟨i, h⟩ else none

/-- A table of `n` entries, all equal. -/
def tableOf (n : Nat) {α : Type} (x : α) : Vector α n := Vector.replicate n x

/-- The entry of a table at an index. -/
def tget {α : Type} {n : Nat} (v : Vector α n) (i : Fin n) : α := v[i.val]

/-- A table with one entry replaced. -/
def tset {α : Type} {n : Nat} (v : Vector α n) (i : Fin n) (x : α) : Vector α n := v.set i.val x

/-- A table with every entry changed alike. -/
def tmap {α β : Type} {n : Nat} (f : α → β) (v : Vector α n) : Vector β n :=
  ⟨⟨v.toList.map f⟩, by simp⟩

@[simp] theorem tget_tset_self {α : Type} {n : Nat} (v : Vector α n) (i : Fin n) (x : α) :
    tget (tset v i x) i = x := by
  simp [tget, tset]

theorem tget_tset_ne {α : Type} {n : Nat} (v : Vector α n) {i j : Fin n} (x : α) (h : j ≠ i) :
    tget (tset v i x) j = tget v j := by
  have hv : i.val ≠ j.val := fun e => h (Fin.ext e.symm)
  simp [tget, tset, hv]

theorem tget_tset {α : Type} {n : Nat} (v : Vector α n) (i j : Fin n) (x : α) :
    tget (tset v i x) j = if j = i then x else tget v j := by
  by_cases h : j = i
  · subst h; simp
  · simp [tget_tset_ne v x h, h]

@[simp] theorem tget_tableOf {α : Type} (n : Nat) (x : α) (i : Fin n) :
    tget (tableOf n x) i = x := by
  simp [tget, tableOf]

@[simp] theorem tget_tmap {α β : Type} {n : Nat} (f : α → β) (v : Vector α n) (i : Fin n) :
    tget (tmap f v) i = f (tget v i) := by
  cases v with
  | mk a h =>
    cases a with
    | mk l => simp [tget, tmap]

theorem mem_indexes {n : Nat} (i : Fin n) : i ∈ indexes n := by
  simp only [indexes, List.mem_filterMap, List.mem_range]
  exact ⟨i.val, i.isLt, by simp⟩

end Sys2Proof
end

