-- ==== Sys2Proof/Config.lean ====
section
/-! DEFINITION. What the model fixes from outside the manual, the free values the manual leaves open,
and the sizes of the part's stores. -/

namespace Sys2Proof.Config

/-- Depth of each forward queue (R146). -/
abbrev forwardDepth : Nat := 8
/-- Depth of each urgent insert lane (09, section 9.3). -/
abbrev urgentDepth : Nat := 4
/-- Depth of each normal insert lane (R147). -/
abbrev normalDepth : Nat := 16
/-- Depth of the management intake queue (R143). -/
abbrev intakeDepth : Nat := 4
/-- Depth of the notice queue (R159). -/
abbrev noticeDepth : Nat := 32
/-- Depth of the waiting-order queue (R127). -/
abbrev waitingDepth : Nat := 16
/-- Most waiting orders of one crane (R127). -/
abbrev waitingPerCrane : Nat := 4
/-- Piece records (R88). -/
abbrev pieceRecords : Nat := 2048
/-- Longest payload (12.1). -/
abbrev maxPayload : Nat := 192
/-- Highest maturity, hundredths of degree-hours (R37). -/
abbrev maxMaturity : Nat := 9999999
/-- East end of the runway, decimetres (chapter 8). -/
abbrev runwayEnd : Nat := 20000
/-- Highest heat budget and shed limit, kW (R74, R75). -/
abbrev maxBudget : Nat := 60000

/-- The value on the station strap pins in `State.reset`.
DESIGN CHOICE (log entry 1): the manual lets every station 1 to 250 be strapped. Unsafe: a statement
that used this number would hold of one strapping only. -/
def strapAtReset : Station := 1#8

/-- FREE VALUE (log entry 2): a byte the part must send and whose value the manual does not state
(the tag, crane or bed byte of an answer to a payload too short to carry it). It has no body, so no
proof can see it; it is read at the state's own counter. -/
opaque freeByte : Nat → Byte

end Sys2Proof.Config
end

