-- ==== Sys2Proof/Syntax.lean ====
section
/-! DEFINITION. The commands of the part: one constructor of `Instr` for each row of
spec/opcode_table.json, with its operands. -/

namespace Sys2Proof

/-- The two line ports (chapter 9). -/
inductive Port where
  | pPort
  | fPort
  deriving DecidableEq, Repr

/-- A frame of the works line: the six header bytes and the payload (12.1). The length byte and the
check sequence are functions of these (R169) and are written when the frame is put on the wire. -/
structure Frame where
  dst : Station
  src : Station
  kind : Byte
  seq : Byte
  flags : Byte
  payload : Bytes
  deriving DecidableEq, Repr, Inhabited

/-- The two events that end a start before its last step (R165, R167). -/
inductive StopKind where
  | powerLoss
  | resetn
  deriving DecidableEq, Repr

/-- Where a start is cut off: how many of the steps of R167 are done, 0 to 4, and by what. Steps 5 and 6
are not parted, since an interrupted cold start leaves the latch set (R167; log entry 14). -/
structure StartCut where
  steps : Nat
  stop : StopKind
  deriving DecidableEq, Repr

/-- What a start finds: the value on the station strap pins (R150) and, where main power or RESETn cuts
the start off, the cut (R167, log entry 14). -/
structure StartPins where
  strap : Station
  cut : Option StartCut := none
  deriving DecidableEq, Repr

/-- The commands the part takes, one per row of the table. Operands (log entry 3): the three receive
rows carry the run of bytes that ended on the port; a row that acts on a frame the line unit has
handed over, or on a management request, carries that frame; a timer row names the bed, crane or
order whose timer ran out; a row that begins a start carries what the start finds. -/
inductive Instr where
  /-- FRAME_RECEIVE_P (R143). -/
  | frameReceiveP (run : Bytes)
  /-- FRAME_RECEIVE_F (R144). -/
  | frameReceiveF (run : Bytes)
  /-- FRAME_ERROR (R141). -/
  | frameError (port : Port) (run : Bytes)
  /-- OUTPUT_ARBITER (R149). -/
  | outputArbiter (port : Port)
  /-- SAMPLE (R24). -/
  | sample (f : Frame)
  /-- HEAT_ACK (R83). -/
  | heatAck (f : Frame)
  /-- PANEL_STRESSED (R10). -/
  | panelStressed (f : Frame)
  /-- PANEL_CAST_DONE (R11). -/
  | panelCastDone (f : Frame)
  /-- PANEL_DETENSION_ASK (R12). -/
  | panelDetensionAsk (f : Frame)
  /-- PANEL_DETENSIONED (R14). -/
  | panelDetensioned (f : Frame)
  /-- PANEL_BED_CLEAR (R17). -/
  | panelBedClear (f : Frame)
  /-- ORDER (R124). -/
  | order (f : Frame)
  /-- REPORT_POSITION (R121). -/
  | reportPosition (f : Frame)
  /-- REPORT_STARTED (R130). -/
  | reportStarted (f : Frame)
  /-- REPORT_LIFTED (R131). -/
  | reportLifted (f : Frame)
  /-- REPORT_COMPLETE (R132). -/
  | reportComplete (f : Frame)
  /-- REPORT_ABORTED (R133). -/
  | reportAborted (f : Frame)
  /-- HOOK_SCAN (R134). -/
  | hookScan (f : Frame)
  /-- WORKS_MINUTE_EXPIRY (R13). -/
  | worksMinuteExpiry
  /-- PROBE_MINUTE (R27). -/
  | probeMinute
  /-- CURING_MINUTE (R54). -/
  | curingMinute
  /-- PIECE_MINUTE (R95). -/
  | pieceMinute
  /-- REFRESH_EXPIRY (R81). -/
  | refreshExpiry (bed : Fin 24)
  /-- ACK_WAIT_EXPIRY (R84). -/
  | ackWaitExpiry (bed : Fin 24)
  /-- SILENCE_EXPIRY (R120). -/
  | silenceExpiry (crane : Fin 4)
  /-- WAIT_EXPIRY (R129). -/
  | waitExpiry (crane : Fin 4) (tag : Nat)
  /-- ORDER_LAPSE (R129). -/
  | orderLapse (crane : Fin 4)
  /-- TABLE_WRITE_BED (R1). -/
  | tableWriteBed (f : Frame)
  /-- TABLE_WRITE_PROBE_MAP (R22). -/
  | tableWriteProbeMap (f : Frame)
  /-- TABLE_WRITE_MIX (R40). -/
  | tableWriteMix (f : Frame)
  /-- TABLE_WRITE_SCHEDULE (R50). -/
  | tableWriteSchedule (f : Frame)
  /-- TABLE_WRITE_AREA (R103). -/
  | tableWriteArea (f : Frame)
  /-- TABLE_WRITE_SERVICE (R106). -/
  | tableWriteService (f : Frame)
  /-- TABLE_WRITE_CRANE (R119). -/
  | tableWriteCrane (f : Frame)
  /-- TABLE_WRITE_REGION (R119). -/
  | tableWriteRegion (f : Frame)
  /-- TABLE_WRITE_BAY (R119). -/
  | tableWriteBay (f : Frame)
  /-- TABLE_WRITE_PARAMETER (R154). -/
  | tableWriteParameter (f : Frame)
  /-- TABLE_READ (R153). -/
  | tableRead (f : Frame)
  /-- TABLES_READY (R155). -/
  | tablesReady (f : Frame)
  /-- BED_ORDER (R6). -/
  | bedOrder (f : Frame)
  /-- BED_CANCEL (R7). -/
  | bedCancel (f : Frame)
  /-- BED_ABANDON (R8). -/
  | bedAbandon (f : Frame)
  /-- BED_PAUSE (R57). -/
  | bedPause (f : Frame)
  /-- BED_RESUME (R58). -/
  | bedResume (f : Frame)
  /-- BED_COOL (R59). -/
  | bedCool (f : Frame)
  /-- READ_BED (R19). -/
  | readBed (f : Frame)
  /-- SET_BUDGET (R74). -/
  | setBudget (f : Frame)
  /-- SHED (R75). -/
  | shed (f : Frame)
  /-- CRANE_RELEASE (R136). -/
  | craneRelease (f : Frame)
  /-- READ_CRANE (R137). -/
  | readCrane (f : Frame)
  /-- CENSUS_BEGIN (R112). -/
  | censusBegin (f : Frame)
  /-- CENSUS_END (R112). -/
  | censusEnd (f : Frame)
  /-- PIECE_DECLARE (R96). -/
  | pieceDeclare (f : Frame)
  /-- PIECE_SET_MATURITY (R97). -/
  | pieceSetMaturity (f : Frame)
  /-- PIECE_DROP (R98). -/
  | pieceDrop (f : Frame)
  /-- READ_PIECE (R99). -/
  | readPiece (f : Frame)
  /-- READ_SLOT (R111). -/
  | readSlot (f : Frame)
  /-- PROBE_FORCE (R26). -/
  | probeForce (f : Frame)
  /-- READ_FLAGS (R157). -/
  | readFlags (f : Frame)
  /-- READ_CLEAR_FLAGS (R157). -/
  | readClearFlags (f : Frame)
  /-- SET_CAUSE (R158). -/
  | setCause (f : Frame)
  /-- READ_COUNTERS (R162). -/
  | readCounters (f : Frame)
  /-- RESTART (R163). -/
  | restart (f : Frame) (pins : StartPins)
  /-- CLEAR_ALL (R163). -/
  | clearAll (f : Frame) (pins : StartPins)
  /-- UNKNOWN_REQUEST (R152). -/
  | unknownRequest (f : Frame)
  /-- POWER_LOSS (R165). -/
  | powerLoss
  /-- RESETN_ASSERT (R165). -/
  | resetnAssert
  /-- BACKUP_FALL (R165). -/
  | backupFall
  /-- POWER_UP (R166). -/
  | powerUp (pins : StartPins)
  /-- RESETN_RELEASE (R166). -/
  | resetnRelease (pins : StartPins)
  deriving DecidableEq, Repr

end Sys2Proof
end

