-- ==== Sys2Proof/Machine/State.lean ====
section
/-! DEFINITION. The state of the part, block by block (00_scope, Block overview), its start values, and
the reasons a step can stop. -/

namespace Sys2Proof.Machine

/-! ### Casting beds (chapter 1) -/

/-- The bed states (1.3), in the order of their codes (12.4). -/
inductive BedState where
  | vacant | stressed | curing | releasable | releasing | stripping | clearing
  deriving DecidableEq, Repr

/-- How a cure goes on after a warm start (1.2, R168). -/
inductive ResumePolicy where
  | resume | hold | cool
  deriving DecidableEq, Repr

/-- A bed table entry (1.1). A cleared entry has absent stations (R1). -/
structure BedEntry where
  spanStart : Nat := 0
  spanEnd : Nat := 0
  panel : Option Station := none
  heater : Option Station := none
  channel : Fin 8 := 0
  ratedPower : Nat := 0
  coolArea : Option (Fin 16) := none
  enabled : Bool := false
  deriving DecidableEq, Repr

/-- One line of a bed's order (1.2). -/
structure OrderLine where
  line : Nat
  mark : Nat
  mix : Fin 16
  cls : Fin 8
  length : Nat
  weight : Nat
  deriving DecidableEq, Repr

/-- A bed's cast order but for its line list, which the bed record holds beside it (1.2). -/
structure CastOrder where
  schedule : Fin 16
  heatClass : Fin 4
  policy : ResumePolicy
  override : Option Nat
  deriving DecidableEq, Repr

/-- The bed flags (R3), in the order of 1.2. -/
structure BedFlags where
  castWithoutOrder : Bool := false
  permitless : Bool := false
  premature : Bool := false
  outage : Bool := false
  clamped : Bool := false
  loadOver : Bool := false
  deriving DecidableEq, Repr

/-- The bed record less its thermal part (1.2). -/
structure BedRec where
  state : BedState := .vacant
  order : Option CastOrder := none
  lines : List OrderLine := []
  castSeen : Option Minute := none
  permit : Nat := 0
  flags : BedFlags := {}
  deriving DecidableEq, Repr

/-- The bed unit: bed table, bed records, permit window (R12) and duplicate detension count (R16). -/
structure BedUnit where
  table : Vector BedEntry 24 := tableOf 24 {}
  recs : Vector BedRec 24 := tableOf 24 {}
  permitWindow : Nat := 15
  duplicates : Nat := 0
  deriving DecidableEq, Repr

/-! ### Probes (chapter 2) -/

/-- What a probe measures (2.1). -/
inductive ProbeRole where
  | bed | area | yard
  deriving DecidableEq, Repr

/-- A probe map entry (2.1). Bed, bed slot and area are held as written, whatever the role. -/
structure ProbeEntry where
  station : Station := 0
  channel : Fin 8 := 0
  role : ProbeRole := .bed
  bed : Nat := 0
  bedSlot : Nat := 0
  area : Nat := 0
  enabled : Bool := false
  deriving DecidableEq, Repr

/-- FRESH or STALE (2.2). -/
inductive ProbeState where
  | fresh | stale
  deriving DecidableEq, Repr

/-- A probe record (2.2), with the values R23 clears it to. -/
structure ProbeRec where
  value : Option Int := none
  age : Nat := 255
  jumps : Nat := 0
  forced : Bool := false
  state : ProbeState := .stale
  deriving DecidableEq, Repr

/-- The probe unit: map, records, stale limit (R28), stale survey indication (R28), malformed count
(R24). -/
structure ProbeUnit where
  map : Vector ProbeEntry 128 := tableOf 128 {}
  recs : Vector ProbeRec 128 := tableOf 128 {}
  staleLimit : Nat := 3
  survey : Bool := true
  malformed : Nat := 0
  deriving DecidableEq, Repr

/-! ### Curing (chapters 3 and 4) -/

/-- A mix table entry (3.3); an absent entry is held cleared (R40). -/
structure Mix where
  present : Bool := false
  datum : Int := 0
  points : List (Nat × Nat) := []
  release : Nat := 0
  dispatch : Nat := 0
  maxTemp : Int := 0
  deriving DecidableEq, Repr

/-- The fields of a schedule entry beside Present (4.1). A schedule copy holds these and no Present field
of its own (4.2, R51; DEDUCED, log entry 36). -/
structure Recipe where
  presetMinutes : Nat := 0
  presetFloor : Int := 0
  rampRate : Nat := 0
  tmax : Int := 0
  holdMax : Nat := 0
  coolRate : Nat := 0
  stripDelta : Int := 0
  coolMax : Nat := 0
  lagLimit : Int := 0
  kp : Nat := 0
  ki : Nat := 0
  heatCap : Nat := 0
  deriving DecidableEq, Repr

/-- A schedule table entry: `none` is an absent entry, held cleared (R50). -/
abbrev Schedule := Option Recipe

/-- The phases of a cure (4.5). -/
inductive Phase where
  | preset | ramp | hold | cool | soak
  deriving DecidableEq, Repr

/-- Whether the schedule is held (4.2). -/
inductive PauseState where
  | running | paused
  deriving DecidableEq, Repr

/-- A pause or resume waiting for the next curing minute (4.2). -/
inductive PendingPause where
  | none | pause | resume
  deriving DecidableEq, Repr

/-- The thermal part of a bed record (4.2), with its cold-start values (R72). The schedule copy `recipe`
holds no Present field (DEDUCED, log entry 36). -/
structure Thermal where
  recipe : Recipe := {}
  maturity : Nat := 0
  remainder : Nat := 0
  margin : Option Int := none
  phase : Phase := .preset
  clock : Nat := 0
  target : Int := 0
  rampStart : Option Int := none
  coolStart : Option Int := none
  stall : Bool := false
  prevError : Option Int := none
  demand : Nat := 0
  blindCount : Nat := 0
  withheld : Bool := false
  overheat : Bool := false
  pause : PauseState := .running
  waiting : PendingPause := .none
  coolPending : Bool := false
  deriving DecidableEq, Repr

/-- The curing unit: mix table (3.3), schedule table (4.1), thermal parts (4.2). -/
structure CuringUnit where
  mixes : Vector Mix 16 := tableOf 16 {}
  schedules : Vector Schedule 16 := tableOf 16 none
  thermal : Vector Thermal 24 := tableOf 24 {}
  deriving DecidableEq, Repr

/-! ### Heat supply (chapter 5) -/

/-- The heater states (5.2). -/
inductive HeaterState where
  | idle | driven | stopping
  deriving DecidableEq, Repr

/-- An acknowledgement wait (5.2): the awaited duty, the seconds left, and the sequence of the HEAT
frame whose echo is awaited (R82 asks for which frame the wait is). -/
structure AckWait where
  duty : Nat
  left : Nat
  seq : Byte
  deriving DecidableEq, Repr

/-- The heat record of a bed (5.2), with its cold-start values (R85). -/
structure HeatRec where
  request : Nat := 0
  grant : Nat := 0
  duty : Nat := 0
  state : HeaterState := .idle
  short : Bool := false
  refresh : Nat := 0
  wait : Option AckWait := none
  misses : Nat := 0
  lastAck : Option Byte := none
  deriving DecidableEq, Repr

/-- The heat supply unit (chapter 5). -/
structure HeatUnit where
  budget : Nat := 0
  shedLimit : Nat := Config.maxBudget
  recs : Vector HeatRec 24 := tableOf 24 {}
  seq : Byte := 0
  strayAcks : Nat := 0
  deriving DecidableEq, Repr

/-! ### Pieces (chapter 6) -/

/-- The piece states (6.3), in the order of their codes (12.4). -/
inductive PieceState where
  | ordered | onBed | onHook | inStock | atLarge
  deriving DecidableEq, Repr

/-- Where a piece is (6.1). -/
inductive Location where
  | none
  | bed (b : Fin 24)
  | crane (c : Fin 4)
  | slot (n : Fin 1024) (level : Nat)
  deriving DecidableEq, Repr

/-- A piece's own maturity account with its strength estimate (R43). -/
structure Account where
  maturity : Nat
  remainder : Nat
  estimate : Nat
  deriving DecidableEq, Repr

/-- The piece flags (R94). -/
structure PieceFlags where
  premature : Bool := false
  unrated : Bool := false
  unscanned : Bool := false
  outage : Bool := false
  loadOver : Bool := false
  deriving DecidableEq, Repr

/-- A piece record in use (6.1), with its record number. -/
structure Piece where
  number : Nat
  mark : Nat
  state : PieceState
  mix : Fin 16
  cls : Fin 8
  length : Nat
  weight : Nat
  origin : Option (Fin 24 × Nat)
  castStamp : Option Minute
  location : Location
  account : Option Account
  ready : Bool
  flags : PieceFlags
  deriving DecidableEq, Repr

/-- The piece unit: the records in use, in rising record number. The mark directory is the map these
records carry, from mark to record number (R88, log entry 4). -/
structure PieceUnit where
  recs : List Piece := []
  deriving DecidableEq, Repr

/-! ### Stock (chapter 7) -/

/-- A stock area's entry (7.1) with its census state and counts (R112). -/
structure Area where
  firstSlot : Nat := 0
  count : Nat := 0
  base : Nat := 0
  pitch : Nat := 0
  heightLimit : Nat := 0
  classes : BitVec 8 := 0
  dispatchOnly : Bool := false
  inCensus : Bool := false
  confirmed : Nat := 0
  relocated : Nat := 0
  created : Nat := 0
  failed : Nat := 0
  deriving DecidableEq, Repr

/-- A slot (7.2): the marks of its stack, bottom first, and its claim count. -/
structure Slot where
  stack : List Nat := []
  claims : Nat := 0
  deriving DecidableEq, Repr

/-- The stock unit (chapter 7). `inService` is the service map (7.3). -/
structure StockUnit where
  areas : Vector Area 16 := tableOf 16 {}
  slots : Vector Slot 1024 := tableOf 1024 {}
  inService : Vector Bool 128 := tableOf 128 true
  buried : Nat := 0
  deriving DecidableEq, Repr

/-! ### Runway (chapter 8) -/

/-- A closed runway interval, decimetres. -/
structure Interval where
  lo : Nat
  hi : Nat
  deriving DecidableEq, Repr

/-- A crane table entry (8.1); a crane whose station is absent is not in use. -/
structure CraneEntry where
  station : Option Station := none
  hookReader : Option Station := none
  clearance : Nat := 0
  deriving DecidableEq, Repr

/-- The kinds of region (8.1). -/
inductive RegionKind where
  | closed | noLoad
  deriving DecidableEq, Repr

/-- A region table entry (8.1). -/
structure Region where
  start : Nat := 0
  stop : Nat := 0
  kind : RegionKind := .closed
  enabled : Bool := false
  deriving DecidableEq, Repr

/-- Crane presence (8.2). -/
inductive Presence where
  | unknown | reporting | lost
  deriving DecidableEq, Repr

/-- Crane control (8.2). -/
inductive Control where
  | free | ordered | halted
  deriving DecidableEq, Repr

/-- The reasons of a halt (8.2, 12.3). -/
inductive HaltReason where
  | overrun | lateStart | hookMismatch | unscanned | stockFullRecords
  deriving DecidableEq, Repr

/-- The source of a CARRY (8.4). -/
inductive Source where
  | bed (b : Fin 24)
  | slot (n : Fin 1024)
  | hook
  deriving DecidableEq, Repr

/-- The destination of a CARRY (8.4). -/
inductive Place where
  | slot (n : Fin 1024)
  | bay (k : Fin 4)
  deriving DecidableEq, Repr

/-- What an order asks (8.4). -/
inductive Task where
  | travel (position : Nat)
  | carry (src : Source) (dst : Place)
  deriving DecidableEq, Repr

/-- The states of an order record (8.4). -/
inductive OrderState where
  | waiting | admitted | active
  deriving DecidableEq, Repr

/-- The binding of a census order (R113). -/
inductive Binding where
  | unbound
  | bound (mark : Nat)
  | failed
  deriving DecidableEq, Repr

/-- An order record (8.4). `binding` is present for a census order only; the source piece place is the
task's source. -/
structure CraneOrder where
  frame : Frame
  crane : Fin 4
  tag : Nat
  mark : Option Nat
  markLine : Option (Fin 16 × Fin 8)
  task : Task
  state : OrderState := .waiting
  waitTimer : Nat := 0
  startTimer : Nat := 0
  span : Option Interval := none
  loadedSpan : Option Interval := none
  lifted : Bool := false
  scanned : Bool := false
  scanSeen : Bool := false
  loadOver : Bool := false
  binding : Option Binding := none
  stamp : Station × Byte := (0, 0)
  deriving DecidableEq, Repr

/-- The state of a crane (8.2). -/
structure Crane where
  presence : Presence := .unknown
  silence : Nat := 0
  position : Option Nat := none
  envelope : Option Interval := none
  control : Control := .free
  lastHalt : Option HaltReason := none
  reservation : Option Interval := none
  current : Option CraneOrder := none
  hook : Option Nat := none
  deriving DecidableEq, Repr

/-- The runway unit (chapter 8). `opportunities` counts the admission opportunities handed over and not
yet taken (R128); it is a field of the model's own (log entry 5) and 0 between commands. -/
structure RunwayUnit where
  table : Vector CraneEntry 4 := tableOf 4 {}
  cranes : Vector Crane 4 := tableOf 4 {}
  regions : Vector Region 8 := tableOf 8 {}
  bays : Vector (Option Nat) 4 := tableOf 4 none
  waiting : List CraneOrder := []
  grantNumber : Byte := 0
  startWindow : Nat := 30
  waitLimit : Nat := 120
  strayReports : Nat := 0
  opportunities : Nat := 0
  deriving DecidableEq, Repr

/-! ### The works line (chapter 9) -/

/-- The receive errors (R140). -/
inductive RxError where
  | gap | length | crc | destination
  deriving DecidableEq, Repr

/-- The record of a first-error latch (R142). -/
structure Latch where
  error : RxError
  source : Option Byte
  kind : Option Byte
  deriving DecidableEq, Repr

/-- One port of the line unit: its forward queue and insert lanes, oldest (head) first, the frame in
transmission, the arbiter's run count (R149), the error counts, fault limit (R141) and latch (R142). -/
structure PortUnit where
  forward : List Frame := []
  urgent : List Frame := []
  normal : List Frame := []
  sending : Option Frame := none
  run : Nat := 0
  total : Nat := 0
  consecutive : Nat := 0
  faultLimit : Nat := 4
  latch : Option Latch := none
  deriving DecidableEq, Repr

/-- The line unit (chapter 9). `handed` holds the frames handed over to a block and not yet acted on;
it is a field of the model's own (log entry 3). -/
structure LineUnit where
  portP : PortUnit := {}
  portF : PortUnit := {}
  intake : List Frame := []
  handed : List Frame := []
  undelivered : Nat := 0
  stray : Nat := 0
  seq : Byte := 0
  deriving DecidableEq, Repr

/-! ### Management and notices (chapter 10) -/

/-- The causes, in the order of the cause table (10.4). -/
inductive Cause where
  | probeFault | probeStale | bedBlind | heatWithheld | overheat | heaterSilent | rampStalled
  | budgetShort | bedReleasable | permitLapsed | prematureRelease | permitless | castWithoutOrder
  | loadOverStressed | orderLapsed | lateStart | craneOverrun | craneLost | hookMismatch
  | unknownComplete | pieceReady | dispatched | pieceAtLarge | lineFault | forwardOverflow
  | insertOverflow | noticeOverflow | start
  deriving DecidableEq, Repr

/-- The subject of a raising (R156). `unit` is numbered 1 to 11 in the order of the block overview. -/
inductive Subject where
  | part
  | unit (n : Nat)
  | bed (b : Fin 24)
  | probe (i : Fin 128)
  | crane (c : Fin 4)
  | mark (m : Nat)
  | port (q : Port)
  deriving DecidableEq, Repr

/-- What the notice unit holds of one cause (10.4). -/
structure CauseState where
  flag : Bool := false
  masked : Bool := false
  cls : Fin 4 := 0
  deriving DecidableEq, Repr

/-- A notice record (R156). -/
structure Notice where
  cause : Cause
  cls : Fin 4
  subject : Subject
  value : Int
  second : Nat
  minute : Minute
  deriving DecidableEq, Repr

/-- The notice unit (10.4 to 10.6): causes by their place in the table, the queue, oldest first, and the
level of the ATTN pin. -/
structure NoticeUnit where
  causes : Vector CauseState 28
  queue : List Notice := []
  attn : Bool := false
  deriving DecidableEq, Repr

/-- The management unit: the configured indication and the notice station (R155). The parameters stand
with the blocks that use them (R154). -/
structure MgmtUnit where
  configured : Bool := false
  noticeStation : Option Station := none
  deriving DecidableEq, Repr

/-! ### Start supervisor (chapter 11) -/

/-- The kinds of start (chapter 11). -/
inductive StartKind where
  | cold | warm | passThrough
  deriving DecidableEq, Repr

/-- The start supervisor: the station strap value read at the last start, the start kind, the
BACKUP_LOST latch, the levels of the main supply and of RESETn, the works minute and its timer. -/
structure Supervisor where
  station : Station := 0
  kind : StartKind := .cold
  backupLost : Bool := false
  powered : Bool := true
  resetHeld : Bool := false
  worksMinute : Minute := 0
  minuteTimer : Nat := 0
  deriving DecidableEq, Repr

/-! ### The whole part -/

/-- The default class of each cause (10.4, R158). NOTICE_OVERFLOW has no class; 0 stands there and
nothing reads it. -/
def Cause.defaultClass : Cause → Fin 4
  | .probeFault => 1 | .probeStale => 1 | .bedBlind => 2 | .heatWithheld => 2 | .overheat => 3
  | .heaterSilent => 2 | .rampStalled => 1 | .budgetShort => 1 | .bedReleasable => 1
  | .permitLapsed => 1 | .prematureRelease => 3 | .permitless => 2 | .castWithoutOrder => 2
  | .loadOverStressed => 3 | .orderLapsed => 1 | .lateStart => 2 | .craneOverrun => 3
  | .craneLost => 2 | .hookMismatch => 3 | .unknownComplete => 1 | .pieceReady => 0
  | .dispatched => 0 | .pieceAtLarge => 2 | .lineFault => 2 | .forwardOverflow => 1
  | .insertOverflow => 1 | .noticeOverflow => 0 | .start => 2

/-- The causes in table order (10.4); cause code n is entry n - 1 (12.3). -/
def Cause.all : List Cause :=
  [.probeFault, .probeStale, .bedBlind, .heatWithheld, .overheat, .heaterSilent, .rampStalled,
   .budgetShort, .bedReleasable, .permitLapsed, .prematureRelease, .permitless, .castWithoutOrder,
   .loadOverStressed, .orderLapsed, .lateStart, .craneOverrun, .craneLost, .hookMismatch,
   .unknownComplete, .pieceReady, .dispatched, .pieceAtLarge, .lineFault, .forwardOverflow,
   .insertOverflow, .noticeOverflow, .start]

/-- The place of a cause in the table, from 0. -/
def Cause.place : Cause → Fin 28
  | .probeFault => 0 | .probeStale => 1 | .bedBlind => 2 | .heatWithheld => 3 | .overheat => 4
  | .heaterSilent => 5 | .rampStalled => 6 | .budgetShort => 7 | .bedReleasable => 8
  | .permitLapsed => 9 | .prematureRelease => 10 | .permitless => 11 | .castWithoutOrder => 12
  | .loadOverStressed => 13 | .orderLapsed => 14 | .lateStart => 15 | .craneOverrun => 16
  | .craneLost => 17 | .hookMismatch => 18 | .unknownComplete => 19 | .pieceReady => 20
  | .dispatched => 21 | .pieceAtLarge => 22 | .lineFault => 23 | .forwardOverflow => 24
  | .insertOverflow => 25 | .noticeOverflow => 26 | .start => 27

/-- A cause after a cold start: unmasked but for PIECE_READY, of its default class, flag clear (R158). -/
def Cause.coldState (c : Cause) : CauseState :=
  { flag := false, masked := c = .pieceReady, cls := c.defaultClass }

/-- The cause table after a cold start (R158). -/
def coldCauses : Vector CauseState 28 := ⟨⟨Cause.all.map Cause.coldState⟩, rfl⟩

/-- The whole state of the part: one field per block of the block overview, the model's own counter of
free values read (log entry 2), and the queue of waiting commands. -/
structure State where
  line : LineUnit
  probe : ProbeUnit
  curing : CuringUnit
  heat : HeatUnit
  bed : BedUnit
  piece : PieceUnit
  stock : StockUnit
  runway : RunwayUnit
  mgmt : MgmtUnit
  notice : NoticeUnit
  sup : Supervisor
  freeCount : Nat
  pending : List Instr
  deriving DecidableEq, Repr

/-- The state of a part whose every block is at its cold-start value, before START is raised. -/
def State.cold (station : Station) : State :=
  { line := {}, probe := {}, curing := {}, heat := {}, bed := {}, piece := {}, stock := {},
    runway := {}, mgmt := {}, notice := { causes := coldCauses },
    sup := { station := station, kind := .cold }, freeCount := 0, pending := [] }

/-- The part right after a completed cold start (R167) with the strap at `Config.strapAtReset`: every
block at its cold-start values (R20, R33, R49, R72, R85, R100, R116, R138, R151, R154, R164), START
raised with the value COLD, its notice in the queue, ATTN driven (R164). -/
def State.reset : State :=
  { State.cold Config.strapAtReset with
    notice :=
      { causes := tset coldCauses Cause.start.place { flag := true, masked := false, cls := 2 }
        queue := [{ cause := .start, cls := 2, subject := .part, value := 0, second := 0, minute := 0 }]
        attn := true } }

/-- The faults of the machine. There is none: the manual names no event that stops the part (log
entry 6), and every command of every state has a next state. -/
inductive Fault where
  deriving DecidableEq, Repr

/-- The refusals of the machine. -/
inductive Refusal where
  /-- Raised by an arm of `exec` for a command without a meaning. No arm raises it in this model. Safe:
  a refused command has no next state. -/
  | notModelled (mnemonic : String)
  deriving DecidableEq, Repr

/-- The outcome of a step of this part. -/
abbrev Out := Host.Outcome State Fault Refusal

end Sys2Proof.Machine
end

