-- ==== Sys2Proof/Machine/Layout.lean ====
section
/-! DEFINITION. Frame and record layouts (chapter 12): kind codes, the check sequence, the receive checks,
and the encoding of every field and enumeration the part sends. -/

namespace Sys2Proof.Machine

/-! ### Kind and request codes -/

/-- Kind codes (12.1). -/
abbrev kSample : Byte := 0x01#8
abbrev kHeat : Byte := 0x02#8
abbrev kHeatAck : Byte := 0x03#8
abbrev kBedPanel : Byte := 0x04#8
abbrev kPanelAnswer : Byte := 0x05#8
abbrev kOrder : Byte := 0x06#8
abbrev kOrderAnswer : Byte := 0x07#8
abbrev kCraneReport : Byte := 0x08#8
abbrev kHalt : Byte := 0x09#8
abbrev kHookScan : Byte := 0x0A#8
abbrev kMgmt : Byte := 0x0B#8
abbrev kMgmtReply : Byte := 0x0C#8
abbrev kNotice : Byte := 0x0D#8

/-- Request codes (12.4). -/
abbrev qTableWrite : Byte := 0x01#8
abbrev qTableRead : Byte := 0x02#8
abbrev qTablesReady : Byte := 0x03#8
abbrev qBedOrder : Byte := 0x10#8
abbrev qBedCancel : Byte := 0x11#8
abbrev qBedAbandon : Byte := 0x12#8
abbrev qBedPause : Byte := 0x13#8
abbrev qBedResume : Byte := 0x14#8
abbrev qBedCool : Byte := 0x15#8
abbrev qReadBed : Byte := 0x16#8
abbrev qCraneRelease : Byte := 0x1E#8
abbrev qReadCrane : Byte := 0x1F#8
abbrev qSetBudget : Byte := 0x20#8
abbrev qShed : Byte := 0x21#8
abbrev qCensusBegin : Byte := 0x28#8
abbrev qCensusEnd : Byte := 0x29#8
abbrev qPieceDeclare : Byte := 0x2A#8
abbrev qPieceSetMaturity : Byte := 0x2B#8
abbrev qPieceDrop : Byte := 0x2C#8
abbrev qReadPiece : Byte := 0x2D#8
abbrev qReadSlot : Byte := 0x2E#8
abbrev qProbeForce : Byte := 0x32#8
abbrev qReadFlags : Byte := 0x3C#8
abbrev qReadClearFlags : Byte := 0x3D#8
abbrev qSetCause : Byte := 0x3E#8
abbrev qReadCounters : Byte := 0x3F#8
abbrev qRestart : Byte := 0x46#8
abbrev qClearAll : Byte := 0x47#8

/-- Every request code of the part (12.4). -/
def requestCodes : List Byte :=
  [qTableWrite, qTableRead, qTablesReady, qBedOrder, qBedCancel, qBedAbandon, qBedPause, qBedResume,
   qBedCool, qReadBed, qCraneRelease, qReadCrane, qSetBudget, qShed, qCensusBegin, qCensusEnd,
   qPieceDeclare, qPieceSetMaturity, qPieceDrop, qReadPiece, qReadSlot, qProbeForce, qReadFlags,
   qReadClearFlags, qSetCause, qReadCounters, qRestart, qClearAll]

/-- Table names of TABLE_WRITE and TABLE_READ (12.4, R153). -/
abbrev tBed : Byte := 1#8
abbrev tProbeMap : Byte := 2#8
abbrev tMix : Byte := 3#8
abbrev tSchedule : Byte := 4#8
abbrev tArea : Byte := 5#8
abbrev tService : Byte := 6#8
abbrev tCrane : Byte := 7#8
abbrev tRegion : Byte := 8#8
abbrev tBay : Byte := 9#8
abbrev tParameter : Byte := 10#8

/-- The ten table names (R153). -/
def tableNames : List Byte :=
  [tBed, tProbeMap, tMix, tSchedule, tArea, tService, tCrane, tRegion, tBay, tParameter]

/-- Statuses of a management reply (Conventions, Management replies), in order from OK 0 (12.4). -/
inductive Status where
  | ok | busy | badArg | notFound | inUse | full | state | notConfigured | denied | unknownRequest
  deriving DecidableEq, Repr

/-- The code of a status (12.4). -/
def Status.code : Status → Byte
  | .ok => 0 | .busy => 1 | .badArg => 2 | .notFound => 3 | .inUse => 4 | .full => 5 | .state => 6
  | .notConfigured => 7 | .denied => 8 | .unknownRequest => 9

/-- Refusal codes of an order (12.3). -/
inductive RefusalCode where
  | notConfigured | badOrder | unknownCrane | craneHalted | hookOccupied | closedRegion
  | pieceUnknown | pieceNotHere | bedNotStripping | notDispatchable | slotUnknown
  | slotOutOfService | areaDispatchOnly | classNotAccepted | stackFull | queueFull | waitExpired
  deriving DecidableEq, Repr

/-- The code of a refusal (12.3). -/
def RefusalCode.code : RefusalCode → Byte
  | .notConfigured => 1 | .badOrder => 2 | .unknownCrane => 3 | .craneHalted => 4
  | .hookOccupied => 5 | .closedRegion => 6 | .pieceUnknown => 7 | .pieceNotHere => 8
  | .bedNotStripping => 9 | .notDispatchable => 10 | .slotUnknown => 11 | .slotOutOfService => 12
  | .areaDispatchOnly => 13 | .classNotAccepted => 14 | .stackFull => 15 | .queueFull => 16
  | .waitExpired => 17

/-! ### Field encoding (R170) -/

/-- One byte. -/
def byteOf (n : Nat) : Byte := BitVec.ofNat 8 n

/-- A one-byte field. -/
def enc1 (n : Nat) : Bytes := [byteOf n]

/-- A two-byte unsigned field, most significant byte first. -/
def enc2 (n : Nat) : Bytes := [byteOf (n / 256), byteOf n]

/-- A four-byte field, most significant byte first. -/
def enc4 (n : Nat) : Bytes :=
  [byteOf (n / 16777216), byteOf (n / 65536), byteOf (n / 256), byteOf n]

/-- A two-byte signed field, two's complement. -/
def encS2 (x : Int) : Bytes := enc2 (x % 65536).toNat

/-- A four-byte signed field, two's complement. A mark below 2^32 gives its unsigned pattern. -/
def encS4 (x : Int) : Bytes := enc4 (x % 4294967296).toNat

/-- An optional one-byte field: FFh when absent. -/
def encOpt1 : Option Nat → Bytes
  | some n => enc1 n
  | none => [0xFF#8]

/-- An optional two-byte unsigned field: FFFFh when absent. -/
def encOpt2 : Option Nat → Bytes
  | some n => enc2 n
  | none => enc2 0xFFFF

/-- An optional two-byte signed field: 8000h when absent. -/
def encOptS2 : Option Int → Bytes
  | some x => encS2 x
  | none => enc2 0x8000

/-- An optional station: 0 when absent. -/
def encStation : Option Station → Bytes
  | some s => [s]
  | none => [0#8]

/-- An optional mark: 0 when absent. -/
def encMark : Option Nat → Bytes
  | some m => enc4 m
  | none => enc4 0

/-- A works minute. -/
def encMinute (m : Minute) : Bytes := enc4 m.toNat

/-- An optional works minute: FFFFFFFFh when absent. -/
def encOptMinute : Option Minute → Bytes
  | some m => encMinute m
  | none => enc4 0xFFFFFFFF

/-- Set-or-clear indications packed into one byte, the first listed in bit 0. -/
def packFlags : List Bool → Nat
  | [] => 0
  | b :: rest => (if b then 1 else 0) + 2 * packFlags rest

/-- The byte of packed indications. -/
def encFlags (l : List Bool) : Bytes := enc1 (packFlags l)

/-- A mix and a product class of one record, in one byte. -/
def encMixClass (mix : Fin 16) (cls : Fin 8) : Bytes := enc1 (mix.val * 16 + cls.val)

/-- A two-byte unsigned field read. -/
def dec2 (a b : Byte) : Nat := a.toNat * 256 + b.toNat

/-- A four-byte unsigned field read. -/
def dec4 (a b c d : Byte) : Nat := ((a.toNat * 256 + b.toNat) * 256 + c.toNat) * 256 + d.toNat

/-- A two-byte signed field read. -/
def decS2 (a b : Byte) : Int := if dec2 a b < 32768 then dec2 a b else (dec2 a b : Int) - 65536

/-- An index below `n`, or none when out of range. -/
def idx? (n : Nat) (i : Nat) : Option (Fin n) := if h : i < n then some ⟨i, h⟩ else none

/-- A yes-or-no byte: 0 or 1. -/
def bool? (b : Byte) : Option Bool := if b = 0#8 then some false else if b = 1#8 then some true else none

/-- A valid station, 1 to 250. -/
def validStation (s : Station) : Bool := decide (1 ≤ s.toNat ∧ s.toNat ≤ 250)

/-! ### Header, check sequence, receive checks -/

/-- One bit of the CRC-16 with generator 1021h (R169). -/
def crcBit (c : BitVec 16) : BitVec 16 := if c.msb then (c <<< 1) ^^^ 0x1021#16 else c <<< 1

/-- One byte of the CRC, most significant bit first (R169). -/
def crcByte (c : BitVec 16) (b : Byte) : BitVec 16 :=
  crcBit (crcBit (crcBit (crcBit (crcBit (crcBit (crcBit (crcBit (c ^^^ (b.setWidth 16 <<< 8)))))))))

/-- The CRC-16 of a run of bytes, from FFFFh, not inverted (R169). -/
def crc16 (l : Bytes) : BitVec 16 := l.foldl crcByte 0xFFFF#16

/-- The check sequence as sent: high byte first (R169). -/
def crcBytes (l : Bytes) : Bytes := enc2 (crc16 l).toNat

/-- The six header bytes (12.1). -/
def headerOf (f : Frame) : Bytes :=
  [f.dst, f.src, f.kind, f.seq, f.flags, byteOf f.payload.length]

/-- A frame on the wire: header, payload, check sequence (R169). -/
def wireOf (f : Frame) : Bytes :=
  headerOf f ++ f.payload ++ crcBytes (headerOf f ++ f.payload)

/-- The receive checks on a run of bytes that has ended (R140): the good frame, or the first failure. -/
def judge (run : Bytes) : Except RxError Frame :=
  match run with
  | dst :: src :: kind :: seq :: flags :: len :: rest =>
    let n := len.toNat
    if rest.length < n + 2 then .error .gap
    else if n > Config.maxPayload ∨ rest.length > n + 2 then .error .length
    else if crcBytes (run.take (6 + n)) ≠ rest.drop n then .error .crc
    else if dst.toNat > 250 then .error .destination
    else .ok { dst := dst, src := src, kind := kind, seq := seq, flags := flags, payload := rest.take n }
  | _ => .error .gap

/-- Bit 0 of the flags: the ring mark (12.1). -/
def ringMark (f : Frame) : Bool := f.flags.getLsbD 0

/-- A frame with the ring mark set, its other flag bits as they were (R145). -/
def withRingMark (f : Frame) : Frame := { f with flags := f.flags ||| 1#8 }

/-! ### Enumeration codes (12.3, 12.4) -/

def ProbeRole.code : ProbeRole → Nat
  | .bed => 0 | .area => 1 | .yard => 2
def ProbeRole.ofCode (n : Nat) : Option ProbeRole :=
  if n = 0 then some .bed else if n = 1 then some .area else if n = 2 then some .yard else none
def ProbeState.code : ProbeState → Nat
  | .fresh => 0 | .stale => 1
def ResumePolicy.code : ResumePolicy → Nat
  | .resume => 0 | .hold => 1 | .cool => 2
def ResumePolicy.ofCode (n : Nat) : Option ResumePolicy :=
  if n = 0 then some .resume else if n = 1 then some .hold else if n = 2 then some .cool else none
def BedState.code : BedState → Nat
  | .vacant => 0 | .stressed => 1 | .curing => 2 | .releasable => 3 | .releasing => 4
  | .stripping => 5 | .clearing => 6
def Phase.code : Phase → Nat
  | .preset => 0 | .ramp => 1 | .hold => 2 | .cool => 3 | .soak => 4
def PauseState.code : PauseState → Nat
  | .running => 0 | .paused => 1
def PendingPause.code : PendingPause → Nat
  | .none => 0 | .pause => 1 | .resume => 2
def HeaterState.code : HeaterState → Nat
  | .idle => 0 | .driven => 1 | .stopping => 2
def PieceState.code : PieceState → Nat
  | .ordered => 0 | .onBed => 1 | .onHook => 2 | .inStock => 3 | .atLarge => 4
def RegionKind.code : RegionKind → Nat
  | .closed => 0 | .noLoad => 1
def RegionKind.ofCode (n : Nat) : Option RegionKind :=
  if n = 0 then some .closed else if n = 1 then some .noLoad else none
def Presence.code : Presence → Nat
  | .unknown => 0 | .reporting => 1 | .lost => 2
def Control.code : Control → Nat
  | .free => 0 | .ordered => 1 | .halted => 2
def HaltReason.code : HaltReason → Nat
  | .overrun => 1 | .lateStart => 2 | .hookMismatch => 3 | .unscanned => 4 | .stockFullRecords => 5
def OrderState.code : OrderState → Nat
  | .waiting => 0 | .admitted => 1 | .active => 2
def RxError.code : RxError → Nat
  | .gap => 1 | .length => 2 | .crc => 3 | .destination => 4
def portCode : Port → Nat
  | .pPort => 0 | .fPort => 1
def StartKind.code : StartKind → Nat
  | .cold => 0 | .warm => 1 | .passThrough => 2

/-- The cause of a cause code, 1 to 28 (12.3). -/
def Cause.ofCode (n : Nat) : Option Cause := if n = 0 then none else Cause.all[n - 1]?

/-- The subject kind and subject of a NOTICE (12.3). -/
def Subject.enc : Subject → Bytes
  | .part => enc1 0 ++ enc4 0
  | .unit n => enc1 0 ++ enc4 n
  | .bed b => enc1 1 ++ enc4 b.val
  | .probe i => enc1 2 ++ enc4 i.val
  | .crane c => enc1 3 ++ enc4 c.val
  | .mark m => enc1 4 ++ enc4 m
  | .port q => enc1 5 ++ enc4 (portCode q)

/-- The payload of a NOTICE frame (12.3). -/
def Notice.enc (n : Notice) : Bytes :=
  enc1 (n.cause.place.val + 1) ++ enc1 n.cls.val ++ n.subject.enc ++ encS4 n.value ++ enc4 n.second
    ++ encMinute n.minute

end Sys2Proof.Machine
end

