-- ==== Sys2Proof/Machine/Ops.lean ====
section
/-! DEFINITION. The named reads and updates of the state, and when the part takes a command. -/

namespace Sys2Proof.Machine

/-! ### Reads -/

/-- The bed table entry of a bed (R1). -/
def State.bedEntry (s : State) (b : Fin 24) : BedEntry := tget s.bed.table b
/-- The bed record of a bed (1.2). -/
def State.bedRec (s : State) (b : Fin 24) : BedRec := tget s.bed.recs b
/-- The thermal part of a bed (4.2). -/
def State.thermal (s : State) (b : Fin 24) : Thermal := tget s.curing.thermal b
/-- The heat record of a bed (5.2). -/
def State.heatRec (s : State) (b : Fin 24) : HeatRec := tget s.heat.recs b
/-- A probe map entry (2.1). -/
def State.probeEntry (s : State) (i : Fin 128) : ProbeEntry := tget s.probe.map i
/-- A probe record (2.2). -/
def State.probeRec (s : State) (i : Fin 128) : ProbeRec := tget s.probe.recs i
/-- A mix table entry (3.3). -/
def State.mix (s : State) (m : Fin 16) : Mix := tget s.curing.mixes m
/-- A schedule table entry (4.1). -/
def State.schedule (s : State) (n : Fin 16) : Schedule := tget s.curing.schedules n
/-- A stock area (7.1). -/
def State.area (s : State) (a : Fin 16) : Area := tget s.stock.areas a
/-- A slot (7.2). -/
def State.slot (s : State) (n : Fin 1024) : Slot := tget s.stock.slots n
/-- Whether a service group is in service (7.3). -/
def State.inService (s : State) (g : Fin 128) : Bool := tget s.stock.inService g
/-- A crane table entry (8.1). -/
def State.craneEntry (s : State) (c : Fin 4) : CraneEntry := tget s.runway.table c
/-- The state of a crane (8.2). -/
def State.crane (s : State) (c : Fin 4) : Crane := tget s.runway.cranes c
/-- A region table entry (8.1). -/
def State.region (s : State) (r : Fin 8) : Region := tget s.runway.regions r
/-- The position of a bay (8.1). -/
def State.bay (s : State) (k : Fin 4) : Option Nat := tget s.runway.bays k
/-- What the notice unit holds of a cause (10.4). -/
def State.cause (s : State) (c : Cause) : CauseState := tget s.notice.causes c.place
/-- One port of the line unit (chapter 9). -/
def State.port (s : State) : Port → PortUnit
  | .pPort => s.line.portP
  | .fPort => s.line.portF
/-- The part's own station: the strap value read at the last start (R150). -/
def State.station (s : State) : Station := s.sup.station

/-! ### Updates -/

/-- Replaces a bed table entry. -/
def setBedEntry (b : Fin 24) (e : BedEntry) (s : State) : State :=
  { s with bed := { s.bed with table := tset s.bed.table b e } }
/-- Changes a bed record. -/
def modBedRec (b : Fin 24) (f : BedRec → BedRec) (s : State) : State :=
  { s with bed := { s.bed with recs := tset s.bed.recs b (f (s.bedRec b)) } }
/-- Changes a thermal part. -/
def modThermal (b : Fin 24) (f : Thermal → Thermal) (s : State) : State :=
  { s with curing := { s.curing with thermal := tset s.curing.thermal b (f (s.thermal b)) } }
/-- Changes a heat record. -/
def modHeat (b : Fin 24) (f : HeatRec → HeatRec) (s : State) : State :=
  { s with heat := { s.heat with recs := tset s.heat.recs b (f (s.heatRec b)) } }
/-- Replaces a probe map entry. -/
def setProbeEntry (i : Fin 128) (e : ProbeEntry) (s : State) : State :=
  { s with probe := { s.probe with map := tset s.probe.map i e } }
/-- Changes a probe record. -/
def modProbe (i : Fin 128) (f : ProbeRec → ProbeRec) (s : State) : State :=
  { s with probe := { s.probe with recs := tset s.probe.recs i (f (s.probeRec i)) } }
/-- Replaces a mix table entry. -/
def setMix (i : Fin 16) (m : Mix) (s : State) : State :=
  { s with curing := { s.curing with mixes := tset s.curing.mixes i m } }
/-- Replaces a schedule table entry. -/
def setSchedule (i : Fin 16) (e : Schedule) (s : State) : State :=
  { s with curing := { s.curing with schedules := tset s.curing.schedules i e } }
/-- Changes a stock area. -/
def modArea (a : Fin 16) (f : Area → Area) (s : State) : State :=
  { s with stock := { s.stock with areas := tset s.stock.areas a (f (s.area a)) } }
/-- Changes a slot. -/
def modSlot (n : Fin 1024) (f : Slot → Slot) (s : State) : State :=
  { s with stock := { s.stock with slots := tset s.stock.slots n (f (s.slot n)) } }
/-- Sets the service state of a group. -/
def setService (g : Fin 128) (b : Bool) (s : State) : State :=
  { s with stock := { s.stock with inService := tset s.stock.inService g b } }
/-- Replaces a crane table entry. -/
def setCraneEntry (c : Fin 4) (e : CraneEntry) (s : State) : State :=
  { s with runway := { s.runway with table := tset s.runway.table c e } }
/-- Changes the state of a crane. -/
def modCrane (c : Fin 4) (f : Crane → Crane) (s : State) : State :=
  { s with runway := { s.runway with cranes := tset s.runway.cranes c (f (s.crane c)) } }
/-- Changes a crane's current order, if it has one. -/
def modCurrent (c : Fin 4) (f : CraneOrder → CraneOrder) (s : State) : State :=
  modCrane c (fun k => { k with current := k.current.map f }) s
/-- Replaces a region table entry. -/
def setRegion (r : Fin 8) (e : Region) (s : State) : State :=
  { s with runway := { s.runway with regions := tset s.runway.regions r e } }
/-- Replaces a bay table entry. -/
def setBay (k : Fin 4) (e : Option Nat) (s : State) : State :=
  { s with runway := { s.runway with bays := tset s.runway.bays k e } }
/-- Replaces the waiting-order queue. -/
def setWaiting (l : List CraneOrder) (s : State) : State :=
  { s with runway := { s.runway with waiting := l } }
/-- Changes what the notice unit holds of a cause. -/
def modCause (c : Cause) (f : CauseState → CauseState) (s : State) : State :=
  { s with notice := { s.notice with causes := tset s.notice.causes c.place (f (s.cause c)) } }
/-- Replaces the notice queue. -/
def setNoticeQueue (l : List Notice) (s : State) : State :=
  { s with notice := { s.notice with queue := l } }
/-- Changes one port of the line unit. -/
def modPort (q : Port) (f : PortUnit → PortUnit) (s : State) : State :=
  match q with
  | .pPort => { s with line := { s.line with portP := f s.line.portP } }
  | .fPort => { s with line := { s.line with portF := f s.line.portF } }
/-- Replaces the records in use. -/
def setPieces (l : List Piece) (s : State) : State := { s with piece := { recs := l } }

/-- An admission opportunity is handed to the runway unit (R128). An event with several of the changes of
R128 hands over one for each: the model's choice (DESIGN CHOICE, log entry 42). -/
def noteOpportunity (s : State) : State :=
  { s with runway := { s.runway with opportunities := s.runway.opportunities + 1 } }

/-- The works minute, counted up at its expiry; its timer starts again (R13, R167). -/
def advanceMinute (s : State) : State :=
  { s with sup := { s.sup with worksMinute := s.sup.worksMinute + 1, minuteTimer := 0 } }

/-- A free byte is read: the model's counter goes on (log entry 2). -/
def takeFree (s : State) : State := { s with freeCount := s.freeCount + 1 }

/-! ### Piece records -/

/-- A lookup in the mark directory (R88). -/
def State.findPiece (s : State) (m : Nat) : Option Piece := s.piece.recs.find? fun p => p.mark = m

/-- Changes the record of a mark. -/
def modPiece (m : Nat) (f : Piece → Piece) (s : State) : State :=
  setPieces (s.piece.recs.map fun p => if p.mark = m then f p else p) s

/-- Removes the record of a mark and the mark from the directory (R93). -/
def erasePiece (m : Nat) (s : State) : State :=
  setPieces (s.piece.recs.filter fun p => p.mark ≠ m) s

/-- The lowest-numbered free record, counted up from `n` along the records in use (R87). -/
def lowestFree (n : Nat) : List Piece → Nat
  | [] => n
  | p :: rest => if p.number = n then lowestFree (n + 1) rest else n

/-- A record put among those in use, in rising record number. -/
def insertPiece (p : Piece) : List Piece → List Piece
  | [] => [p]
  | q :: rest => if p.number < q.number then p :: q :: rest else q :: insertPiece p rest

/-- A record created in the lowest-numbered free record (R87). -/
def createPiece (p : Piece) (s : State) : State :=
  setPieces (insertPiece { p with number := lowestFree 0 s.piece.recs } s.piece.recs) s

/-- A free record exists (R87). -/
def State.hasFreeRecord (s : State) : Bool := s.piece.recs.length < Config.pieceRecords

/-! ### When the part takes a command -/

/-- The part is powered and not held in RESETn: the line is carried (R165). -/
def State.operating (s : State) : Bool := s.sup.powered && !s.sup.resetHeld

/-- The part operates and is not in pass-through: its blocks act (R150, R166). -/
def State.running (s : State) : Bool := s.operating && s.sup.kind != .passThrough

/-- A command of a block: it has its effect while the part runs, and none while the part is stopped or
in pass-through (R150, R165). -/
def whenRunning (body : State → State) (s : State) : Out :=
  .next (if s.running then body s else s)

/-- A request taken from the head of the management intake queue, where it stands there (R152, log
entry 3). -/
def takeIntake (f : Frame) (s : State) : State :=
  if s.line.intake.head? = some f then { s with line := { s.line with intake := s.line.intake.tail } }
  else s

/-- A frame that was handed over is taken by its block (log entry 3). -/
def takeHanded (f : Frame) (s : State) : State :=
  { s with line := { s.line with handed := s.line.handed.erase f } }

/-- A fold over the indexes of a table, ascending. -/
def forEach {n : Nat} (act : Fin n → State → State) (s : State) : State :=
  (indexes n).foldl (fun t i => act i t) s

end Sys2Proof.Machine
end

