-- ==== Sys2Proof/Machine/Flags.lean ====
section
/-! DEFINITION. The notice unit: raising causes, the notice queue, sending notices, the ATTN level, and the
conditions that hold flags (10.4 to 10.6). -/

namespace Sys2Proof.Machine

/-- The ATTN pin is driven while a cause that is unmasked and of class 2 or 3 has its flag set;
NOTICE_OVERFLOW has no class (R161). -/
def attnLevel (causes : Vector CauseState 28) : Bool :=
  Cause.all.any fun c =>
    c ≠ .noticeOverflow && (tget causes c.place).flag && !(tget causes c.place).masked
      && decide (2 ≤ (tget causes c.place).cls.val)

/-- The ATTN level recomputed (R161). -/
def updateAttn (s : State) : State :=
  { s with notice := { s.notice with attn := attnLevel s.notice.causes } }

/-- The lowest class present in a queue, from `c` down. -/
def lowestClass (c : Fin 4) (l : List Notice) : Fin 4 :=
  l.foldl (fun a n => if n.cls < a then n.cls else a) c

/-- The queue without the youngest record of a class (R160). -/
def dropYoungest (c : Fin 4) (l : List Notice) : List Notice :=
  (l.reverse.eraseP fun n => n.cls = c).reverse

/-- A notice record arriving at the queue, and whether a record was discarded (R159, R160). -/
def queueNotice (n : Notice) (q : List Notice) : List Notice × Bool :=
  if q.length < Config.noticeDepth then (q ++ [n], false)
  else
    let low := lowestClass 3 q
    if low < n.cls then (dropYoungest low q ++ [n], true) else (q, true)

/-- The record to send first: of the highest class, the oldest (R159). -/
def firstNotice : List Notice → Option Notice
  | [] => none
  | n :: rest =>
    match firstNotice rest with
    | none => some n
    | some m => if n.cls < m.cls then some m else some n

/-- The port P normal lane holds a NOTICE frame (R147). -/
def State.noticeInLane (s : State) : Bool := s.line.portP.normal.any fun f => f.kind = kNotice

/-- The line unit's sequence counter, risen by 1 for a HALT or NOTICE built (R147, log entry 7). -/
def nextLineSeq (s : State) : State := { s with line := { s.line with seq := s.line.seq + 1 } }

/-- The NOTICE frame of a record (R147, R159, 12.3). -/
def noticeFrame (s : State) (dst : Station) (n : Notice) : Frame :=
  { dst := dst, src := s.station, kind := kNotice, seq := s.line.seq, flags := 0, payload := n.enc }

/-- A record offered as a NOTICE frame when the notice station is present, the lane holds no NOTICE frame
and has room (R159). -/
def offerNotice (s : State) : State :=
  match s.mgmt.noticeStation, firstNotice s.notice.queue with
  | some dst, some n =>
    if s.noticeInLane || decide (Config.normalDepth ≤ s.line.portP.normal.length) then s
    else
      let t := nextLineSeq (setNoticeQueue (s.notice.queue.erase n) s)
      modPort .pPort (fun u => { u with normal := u.normal ++ [noticeFrame t dst n] }) t
  | _, _ => s

/-- A raised cause recorded: its flag set and, where it is unmasked, a notice record put into the queue;
NOTICE_OVERFLOW set where a record was discarded; ATTN recomputed (R156, R160, R161). -/
def recordCause (c : Cause) (sub : Subject) (v : Int) (second : Nat) (s : State) : State :=
  let s1 := modCause c (fun k => { k with flag := true }) s
  if c = .noticeOverflow ∨ (s.cause c).masked then updateAttn s1
  else
    let n : Notice :=
      { cause := c, cls := (s.cause c).cls, subject := sub, value := v, second := second
        minute := s.sup.worksMinute }
    let q := queueNotice n s1.notice.queue
    let s2 := setNoticeQueue q.1 s1
    let s3 := if q.2 then modCause .noticeOverflow (fun k => { k with flag := true }) s2 else s2
    updateAttn s3

/-- A cause raised with a second value (R156); the notice unit then offers a record where it can
(R159). -/
def raise2 (c : Cause) (sub : Subject) (v : Int) (second : Nat) (s : State) : State :=
  offerNotice (recordCause c sub v second s)

/-- A cause raised (R156). -/
def raise (c : Cause) (sub : Subject) (v : Int) (s : State) : State := raise2 c sub v 0 s

/-! ### Lanes -/

/-- A normal lane has room (R147). -/
def State.laneRoom (s : State) (q : Port) : Bool := (s.port q).normal.length < Config.normalDepth

/-- A frame offered to a normal lane: it enters at the young end, or is dropped with INSERT_OVERFLOW
where the lane is full (R147). -/
def offerNormal (q : Port) (f : Frame) (s : State) : State :=
  if s.laneRoom q then modPort q (fun u => { u with normal := u.normal ++ [f] }) s
  else raise .insertOverflow (.port q) f.kind.toNat s

/-- A frame put on a forward queue, or dropped with FORWARD_OVERFLOW where the queue is full; `q` is the
queue's output port (R146). -/
def putForward (q : Port) (f : Frame) (s : State) : State :=
  if (s.port q).forward.length < Config.forwardDepth then
    modPort q (fun u => { u with forward := u.forward ++ [f] }) s
  else raise .forwardOverflow (.port q) f.kind.toNat s

/-- A frame of the part's own for port F: built with the ring mark set (R145). -/
def ringFrame (s : State) (dst : Station) (kind seq : Byte) (payload : Bytes) : Frame :=
  { dst := dst, src := s.station, kind := kind, seq := seq, flags := 1, payload := payload }

/-- A frame of the part's own for port P: the ring mark clear (R145). -/
def plantFrame (s : State) (dst : Station) (kind seq : Byte) (payload : Bytes) : Frame :=
  { dst := dst, src := s.station, kind := kind, seq := seq, flags := 0, payload := payload }

/-- The MGMT_REPLY to a request, on the port P normal lane (R152, 12.4). -/
def reply (f : Frame) (code : Byte) (st : Status) (contents : Bytes) (s : State) : State :=
  offerNormal .pPort (plantFrame s f.src kMgmtReply f.seq (code :: st.code :: contents)) s

end Sys2Proof.Machine
end

