-- ==== Sys2Proof/Machine/Probe.lean ====
section
/-! DEFINITION. The probe unit: derived temperatures, blindness, screening of readings, ageing, and the
meanings of SAMPLE, PROBE_MINUTE and PROBE_FORCE (chapter 2). -/

namespace Sys2Proof.Machine

/-! ### Derived temperatures -/

/-- The value of a probe that is enabled and FRESH. -/
def State.freshValue (s : State) (i : Fin 128) : Option Int :=
  if (s.probeEntry i).enabled && (s.probeRec i).state = .fresh then (s.probeRec i).value else none

/-- The values of a bed's FRESH probes (R30). -/
def State.bedValues (s : State) (b : Fin 24) : List Int :=
  (indexes 128).filterMap fun i =>
    if (s.probeEntry i).role = .bed && (s.probeEntry i).bed = b.val then s.freshValue i else none

/-- The cold temperature of a bed: the least FRESH value; absent for a blind bed (R30). -/
def State.coldTemp (s : State) (b : Fin 24) : Option Int := (s.bedValues b).min?

/-- The hot temperature of a bed: the greatest FRESH value (R30). -/
def State.hotTemp (s : State) (b : Fin 24) : Option Int := (s.bedValues b).max?

/-- A bed with no FRESH probe is blind (R30). -/
def State.blind (s : State) (b : Fin 24) : Bool := (s.bedValues b).isEmpty

/-- The states in which a bed is watched (R31). -/
def watchedState : BedState → Bool
  | .curing => true | .releasable => true | .releasing => true | .stripping => true
  | .vacant => false | .stressed => false | .clearing => false

/-- A bed is watched (R31). -/
def State.watched (s : State) (b : Fin 24) : Bool := watchedState (s.bedRec b).state

/-- The yard ambient (R32). -/
def State.yardAmbient (s : State) : Option Int :=
  (indexes 128).findSome? fun i => if (s.probeEntry i).role = .yard then s.freshValue i else none

/-- The source of an area ambient (R32). -/
inductive AmbientSource where
  | area | yard
  deriving DecidableEq, Repr

/-- The code of an ambient source (12.4). -/
def AmbientSource.code : AmbientSource → Nat
  | .area => 0 | .yard => 1

/-- The value of an area's own probe while it is FRESH (R32). -/
def State.areaProbe (s : State) (a : Fin 16) : Option Int :=
  (indexes 128).findSome? fun i =>
    if (s.probeEntry i).role = .area && (s.probeEntry i).area = a.val then s.freshValue i else none

/-- The area ambient with its source (R32). -/
def State.areaAmbient (s : State) (a : Fin 16) : Option (Int × AmbientSource) :=
  match s.areaProbe a with
  | some v => some (v, .area)
  | none => s.yardAmbient.map fun v => (v, .yard)

/-- BED_BLIND raised for a watched bed that `before` saw and the part now does not (R31). -/
def raiseIfBlinded (before : State) (b : Fin 24) (s : State) : State :=
  if s.watched b && s.blind b && !before.blind b then raise .bedBlind (.bed b) 0 s else s

/-! ### Intake -/

/-- A reading accepted: value, age 0, jump count 0, FRESH (R25). -/
def acceptReading (i : Fin 128) (v : Int) (s : State) : State :=
  modProbe i (fun r => { r with value := some v, age := 0, jumps := 0, state := .fresh }) s

/-- A reading is out of range (R25). -/
def readingInvalid (r : ProbeRec) (v : Int) : Bool := r.forced || decide (v < -400 ∨ 1200 < v)

/-- A reading is within 100 tenths of the record's value (R25). -/
def readingNear (r : ProbeRec) (v : Int) : Bool :=
  match r.value with
  | some w => decide ((v - w).natAbs ≤ 100)
  | none => true

/-- A matched reading screened (R25). -/
def screenReading (i : Fin 128) (v : Int) (s : State) : State :=
  let r := s.probeRec i
  if readingInvalid r v then raise .probeFault (.probe i) v s
  else if r.state = .stale then acceptReading i v s
  else if readingNear r v then acceptReading i v s
  else if r.jumps < 2 then modProbe i (fun r => { r with jumps := r.jumps + 1 }) s
  else acceptReading i v s

/-- The enabled map entry of a station and channel (R24). -/
def State.probeOf (s : State) (st : Station) (ch : Nat) : Option (Fin 128) :=
  (indexes 128).find? fun i =>
    (s.probeEntry i).enabled && (s.probeEntry i).station = st && (s.probeEntry i).channel.val = ch

/-- One reading of a frame: matched and screened, or ignored (R24). -/
def takeReading (st : Station) (reading : Nat × Int) (s : State) : State :=
  match s.probeOf st reading.1 with
  | some i => screenReading i reading.2 s
  | none => s

/-- The readings of a payload, three bytes each (12.3); none where the bytes do not fit. -/
def parseReadings : Bytes → Option (List (Nat × Int))
  | [] => some []
  | ch :: hi :: lo :: rest => (parseReadings rest).map fun l => (ch.toNat, decS2 hi lo) :: l
  | _ => none

/-- The readings of a SAMPLE payload: a count of 1 to 8 and exactly that many readings (R24). -/
def parseSample : Bytes → Option (List (Nat × Int))
  | [] => none
  | n :: rest =>
    match parseReadings rest with
    | some l => if l.length = n.toNat ∧ 1 ≤ l.length ∧ l.length ≤ 8 then some l else none
    | none => none

/-- The malformed sample count rises by 1 (R24). -/
def countMalformed (s : State) : State :=
  { s with probe := { s.probe with malformed := satInc 65535 s.probe.malformed } }

/-- A SAMPLE frame taken by the probe unit (R24). -/
def takeSample (f : Frame) (s : State) : State :=
  match parseSample f.payload with
  | none => countMalformed s
  | some l => l.foldl (fun t reading => takeReading f.src reading t) s

/-- SAMPLE: a SAMPLE frame handed to the probe unit has its readings taken (R24, R25). -/
def execSample (f : Frame) (s : State) : Out :=
  whenRunning (fun t => takeSample f (takeHanded f t)) s

/-! ### The probe-unit minute -/

/-- The ages of the enabled records rise by 1, saturating at 255 (R27). -/
def ageProbes (s : State) : State :=
  forEach (fun i t =>
    if (t.probeEntry i).enabled then modProbe i (fun r => { r with age := satInc 255 r.age }) t else t) s

/-- A FRESH enabled record past the stale limit becomes STALE, with PROBE_STALE, and its bed is treated
where that left it blind (R27, R31). -/
def staleProbe (i : Fin 128) (s : State) : State :=
  let e := s.probeEntry i
  let r := s.probeRec i
  if e.enabled && r.state = .fresh && decide (s.probe.staleLimit < r.age) then
    let t := raise .probeStale (.probe i) (r.value.getD 0)
      (modProbe i (fun r => { r with state := .stale }) s)
    match e.role, idx? 24 e.bed with
    | .bed, some b => raiseIfBlinded s b t
    | _, _ => t
  else s

/-- The number of enabled STALE records (R28). -/
def State.staleCount (s : State) : Nat :=
  ((indexes 128).filter fun i => (s.probeEntry i).enabled && (s.probeRec i).state = .stale).length

/-- The stale survey indication (R28). -/
def setSurvey (b : Bool) (s : State) : State := { s with probe := { s.probe with survey := b } }

/-- The stale survey: taken once while the indication is set (R28). The subject is the probe unit, the
second of the block overview. -/
def staleSurvey (s : State) : State :=
  if s.probe.survey then
    let t := setSurvey false s
    if t.staleCount = 0 then t else raise .probeStale (.unit 2) t.staleCount t
  else s

/-- PROBE_MINUTE: the probe-unit minute expiry (R27, R28). -/
def execProbeMinute (s : State) : Out :=
  whenRunning (fun t => staleSurvey (forEach staleProbe (ageProbes t))) s

/-! ### Force-fail -/

/-- PROBE_FORCE: sets or clears a record's force-fail (R26). -/
def probeForce (f : Frame) (s : State) : State :=
  match f.payload with
  | [_, index, setting] =>
    match idx? 128 index.toNat, bool? setting with
    | some i, some b =>
      if (s.probeEntry i).enabled then
        reply f qProbeForce .ok [] (modProbe i (fun r => { r with forced := b }) s)
      else reply f qProbeForce .notFound [] s
    | _, _ => reply f qProbeForce .badArg [] s
  | _ => reply f qProbeForce .badArg [] s

/-- PROBE_FORCE (R26). -/
def execProbeForce (f : Frame) (s : State) : Out :=
  whenRunning (fun t => probeForce f (takeIntake f t)) s

end Sys2Proof.Machine
end

