-- ==== Sys2Proof/Machine/Maturity.lean ====
section
/-! DEFINITION. Maturity and strength arithmetic: the accrual step, the strength estimate, the release margin
and dispatch readiness (chapter 3). -/

namespace Sys2Proof.Machine

/-- One accrual step on an account (M, r) at temperature `temp` and datum `datum` (R35). -/
def accrue (temp datum : Int) (m r : Nat) : Nat × Nat :=
  let s := (temp - datum).toNat + r
  (min Config.maxMaturity (m + s / 6), s % 6)

/-- The estimate on the curve that goes on from the point (ma, sa) through the points left (R42). -/
def curveFrom (ma sa m : Nat) : List (Nat × Nat) → Nat
  | [] => sa
  | (mb, sb) :: rest =>
    if m < mb then sa + (m - ma) * (sb - sa) / (mb - ma) else curveFrom mb sb m rest

/-- The strength estimate of a mix at a maturity, from the implied origin (R42); 0 for an absent mix
(R48). -/
def Mix.estimate (x : Mix) (m : Nat) : Nat := if x.present then curveFrom 0 0 m x.points else 0

/-- The datum of a mix; 0 for an absent mix (R48). -/
def Mix.datumOf (x : Mix) : Int := if x.present then x.datum else 0

/-- The lines of a bed that stand for pieces: none without an order (R36, R45). -/
def State.cureLines (s : State) (b : Fin 24) : List OrderLine :=
  if (s.bedRec b).order.isSome then (s.bedRec b).lines else []

/-- The highest datum among a bed's lines; absent without lines (R38). -/
def State.bedDatum (s : State) (b : Fin 24) : Option Int :=
  ((s.cureLines b).map fun l => (s.mix l.mix).datumOf).max?

/-- The required release strength of a line (R44). -/
def State.required (s : State) (b : Fin 24) (l : OrderLine) : Nat :=
  match (s.bedRec b).order.bind (·.override) with
  | some v => v
  | none => (s.mix l.mix).release

/-- The release margin of a bed at its maturity; absent without lines (R45). -/
def State.bedMargin (s : State) (b : Fin 24) : Option Int :=
  ((s.cureLines b).map fun l =>
    ((s.mix l.mix).estimate (s.thermal b).maturity : Int) - (s.required b l : Int)).min?

/-- The held margin recomputed: present in the watched states only (R46). -/
def refreshMargin (b : Fin 24) (s : State) : State :=
  modThermal b (fun t => { t with margin := if s.watched b then s.bedMargin b else none }) s

/-- Steps 1 and 2 of a bed's treatment: its account accrues where it has a cold temperature and lines,
and the margin is recomputed (R54, R55, R36, R38). -/
def accrueBed (b : Fin 24) (s : State) : State :=
  match s.coldTemp b, s.bedDatum b with
  | some temp, some datum =>
    let a := accrue temp datum (s.thermal b).maturity (s.thermal b).remainder
    refreshMargin b (modThermal b (fun t => { t with maturity := a.1, remainder := a.2 }) s)
  | _, _ => refreshMargin b s

/-- An account of a mix: maturity and remainder with the estimate (R43). -/
def State.accountAt (s : State) (mix : Fin 16) (m r : Nat) : Account :=
  { maturity := m, remainder := r, estimate := (s.mix mix).estimate m }

/-- A record is dispatch-ready: IN_STOCK, not UNRATED, its estimate at or above its mix's dispatch
strength (R47); never while its mix is absent (R48). -/
def State.pieceReady (s : State) (p : Piece) : Bool :=
  p.state = .inStock && !p.flags.unrated && (s.mix p.mix).present &&
    (match p.account with
     | some a => decide ((s.mix p.mix).dispatch ≤ a.estimate)
     | none => false)

/-- The estimate a record holds; 0 where it holds none. -/
def Piece.estimateOf (p : Piece) : Nat :=
  match p.account with
  | some a => a.estimate
  | none => 0

/-- The maturity a record holds; 0 where it holds none. -/
def Piece.maturityOf (p : Piece) : Nat :=
  match p.account with
  | some a => a.maturity
  | none => 0

/-- The dispatch-ready indication of a mark's record recomputed, PIECE_READY raised where the record
becomes ready (R47). -/
def refreshReady (m : Nat) (s : State) : State :=
  match s.findPiece m with
  | none => s
  | some p =>
    let now := s.pieceReady p
    let t := modPiece m (fun q => { q with ready := now }) s
    if now && !p.ready then raise .pieceReady (.mark m) p.estimateOf t else t

end Sys2Proof.Machine
end

