-- ==== Sys2Proof/Machine/Heat.lean ====
section
/-! DEFINITION. The heat supply unit: the allocation, HEAT frames, acknowledgements, and the meanings of
HEAT_ACK, REFRESH_EXPIRY, ACK_WAIT_EXPIRY, SET_BUDGET and SHED (chapter 5). -/

namespace Sys2Proof.Machine

/-- The effective budget (R74, R75). -/
def State.effectiveBudget (s : State) : Nat := min s.heat.budget s.heat.shedLimit

/-- The heat class of a bed's order; 0 without an order. -/
def State.heatClass (s : State) (b : Fin 24) : Fin 4 :=
  match (s.bedRec b).order with
  | some o => o.heatClass
  | none => 0

/-- A bed is in CURING. -/
def State.curingBed (s : State) (b : Fin 24) : Bool := (s.bedRec b).state = .curing

/-- The beds in CURING in the order they are served: class 3 first, then ascending bed number (R77). -/
def State.serveOrder (s : State) : List (Fin 24) :=
  ([3, 2, 1, 0] : List (Fin 4)).flatMap fun c =>
    (indexes 24).filter fun b => s.curingBed b && s.heatClass b = c

/-- The grants of a list of beds, each the lesser of its request and what remains (R77). -/
def serve (s : State) : Nat → List (Fin 24) → List (Fin 24 × Nat)
  | _, [] => []
  | left, b :: rest =>
    let g := min (s.heatRec b).request left
    (b, g) :: serve s (left - g) rest

/-- The grant the allocation gives a bed; 0 for a bed not in CURING (R77). -/
def State.grantOf (s : State) (b : Fin 24) : Nat :=
  match (serve s s.effectiveBudget s.serveOrder).find? fun x => x.1 = b with
  | some x => x.2
  | none => 0

/-- The sum of the grants held (R74, R75). -/
def State.grantSum (s : State) : Nat := ((indexes 24).map fun b => (s.heatRec b).grant).sum

/-- The duty of a grant (5.2). -/
def State.dutyOf (s : State) (b : Fin 24) (grant : Nat) : Nat :=
  grant * 1000 / (s.bedEntry b).ratedPower

/-- The heat supply unit's sequence counter, risen by 1 for a HEAT frame built (R80, log entry 7). -/
def nextHeatSeq (s : State) : State := { s with heat := { s.heat with seq := s.heat.seq + 1 } }

/-- The HEAT frame of a bed (R80, 12.3). -/
def heatFrame (s : State) (b : Fin 24) (duty : Nat) : Frame :=
  ringFrame s ((s.bedEntry b).heater.getD 0) kHeat s.heat.seq
    (enc1 b.val ++ enc1 (s.bedEntry b).channel.val ++ enc2 duty)

/-- A HEAT frame offered for a bed: the refresh timer starts again, and where the lane accepts it the
acknowledgement wait is for it with 20 s (R80, R81). -/
def offerHeat (b : Fin 24) (duty : Nat) (s : State) : State :=
  let s1 := nextHeatSeq s
  let s2 := modHeat b (fun h =>
    { h with refresh := 60
             wait := if s1.laneRoom .fPort then some { duty := duty, left := 20, seq := s1.heat.seq }
                     else h.wait }) s1
  offerNormal .fPort (heatFrame s1 b duty) s2

/-- One bed's grant taken and its short indication revised, BUDGET_SHORT raised where it is newly short
(R77, R79). The grants are those of the inputs of `s0`. -/
def takeGrant (s0 : State) (b : Fin 24) (s : State) : State :=
  let g := s0.grantOf b
  let req := (s.heatRec b).request
  let isShort := decide (g < req)
  let t := modHeat b (fun h => { h with grant := g, short := isShort }) s
  if isShort && !(s.heatRec b).short then raise .budgetShort (.bed b) ((req : Int) - (g : Int)) t else t

/-- A DRIVEN bed whose new duty differs from its held duty, and in which direction (R80). -/
def dutyChange (s : State) (b : Fin 24) : Option (Bool × Nat) :=
  let h := s.heatRec b
  let d := s.dutyOf b h.grant
  if h.state = .driven && d ≠ h.duty then some (decide (h.duty < d), d) else none

/-- The duty changes of one direction, in ascending bed number: falling for `false`, rising for `true`. -/
def dutyChanges (s : State) (rising : Bool) : List (Fin 24 × Nat) :=
  (indexes 24).filterMap fun b =>
    match dutyChange s b with
    | some (up, d) => if up = rising then some (b, d) else none
    | none => none

/-- A changed duty taken and offered in a HEAT frame (R80). -/
def sendDuty (x : Fin 24 × Nat) (s : State) : State :=
  offerHeat x.1 x.2 (modHeat x.1 (fun h => { h with duty := x.2 }) s)

/-- The grants and short indications of a recomputation (R77, R79). Several beds newly short are raised
in ascending bed number: the model's choice (DESIGN CHOICE, log entry 19). -/
def regrant (s : State) : State := forEach (takeGrant s) s

/-- The HEAT frames a recomputation calls for: falling duties first, then rising ones (R80). -/
def heatFrames (s : State) : List (Fin 24 × Nat) := dutyChanges s false ++ dutyChanges s true

/-- The allocation recomputed, with the short indications and the HEAT frames it calls for (R78). -/
def recompute (s : State) : State :=
  let t := regrant s
  (heatFrames t).foldl (fun u x => sendDuty x u) t

/-- How many of the HEAT frames of a recomputation the port F normal lane refuses (R74, R75). -/
def refusedCount (s : State) : Nat :=
  (heatFrames (regrant s)).length - (Config.normalDepth - (regrant s).line.portF.normal.length)

/-- The curing unit hands a bed's request; a request equal to the held one changes nothing (R70, R78). -/
def handRequest (b : Fin 24) (req : Nat) (s : State) : State :=
  if (s.heatRec b).request = req then s
  else recompute (modHeat b (fun h => { h with request := req }) s)

/-- A bed enters CURING: its heater is DRIVEN with request, grant and duty 0 and 60 s to its refresh; a
wait held from a previous STOPPING is kept (R76, R78). -/
def startHeat (b : Fin 24) (s : State) : State :=
  recompute (modHeat b (fun h =>
    { h with request := 0, grant := 0, duty := 0, state := .driven, refresh := 60 }) s)

/-- A bed leaves CURING: request, grant and duty 0, the allocation recomputed, and one final HEAT frame
with duty 0 offered for the now STOPPING bed (R71, R76; log entry 8 for the order of the frames). -/
def stopHeat (b : Fin 24) (s : State) : State :=
  offerHeat b 0 (recompute (modHeat b (fun h =>
    { h with request := 0, grant := 0, duty := 0, state := .stopping }) s))

/-- A table write of a STOPPING bed's entry makes its heater IDLE and drops its wait (R76, R84). -/
def idleHeat (b : Fin 24) (s : State) : State :=
  if (s.heatRec b).state = .stopping then
    modHeat b (fun h => { h with state := .idle, wait := none, misses := 0, refresh := 0 }) s
  else s

/-- The line unit tells which bed's HEAT frame a HALT removed: the wait for that frame is dropped
(R82). -/
def dropWaitFor (f : Frame) (s : State) : State :=
  match f.payload with
  | b :: _ =>
    match idx? 24 b.toNat with
    | some b =>
      match (s.heatRec b).wait with
      | some w => if w.seq = f.seq then modHeat b (fun h => { h with wait := none }) s else s
      | none => s
    | none => s
  | [] => s

/-! ### Acknowledgement -/

/-- The stray heater acknowledgement count rises by 1 (R83). -/
def countStrayAck (s : State) : State :=
  { s with heat := { s.heat with strayAcks := satInc 65535 s.heat.strayAcks } }

/-- A HEAT_ACK taken for a bed (R83). -/
def ackBed (b : Fin 24) (duty : Nat) (seq : Byte) (s : State) : State :=
  match (s.heatRec b).wait with
  | some w =>
    if w.duty = duty then
      modHeat b (fun h =>
        if h.state = .stopping ∧ w.duty = 0 then
          { h with wait := none, misses := 0, lastAck := some seq, state := .idle, refresh := 0 }
        else { h with wait := none, misses := 0, lastAck := some seq }) s
    else countStrayAck s
  | none => countStrayAck s

/-- A HEAT_ACK frame: taken for the bed it names where source and channel fit (R83). -/
def takeHeatAck (f : Frame) (s : State) : State :=
  match f.payload with
  | [bed, channel, hi, lo, seq] =>
    match idx? 24 bed.toNat with
    | some b =>
      let e := s.bedEntry b
      if e.enabled && e.heater = some f.src && e.channel.val = channel.toNat then
        ackBed b (dec2 hi lo) seq s
      else s
    | none => s
  | _ => s

/-- HEAT_ACK (R83). -/
def execHeatAck (f : Frame) (s : State) : Out :=
  whenRunning (fun t => takeHeatAck f (takeHanded f t)) s

/-- The refresh of a bed whose refresh timer has run out; where a frame for the bed has started the timer
again, the refresh does not fall (R81). -/
def refreshBed (b : Fin 24) (s : State) : State :=
  if (s.heatRec b).refresh = 0 then
    match (s.heatRec b).state with
    | .driven => offerHeat b (s.heatRec b).duty s
    | .stopping => offerHeat b 0 s
    | .idle => s
  else s

/-- REFRESH_EXPIRY (R81). -/
def execRefreshExpiry (b : Fin 24) (s : State) : Out := whenRunning (refreshBed b) s

/-- An acknowledgement wait that has run its time out: dropped, the miss count risen by 1 and held at 3,
and HEATER_SILENT raised at the miss that brings it to 3 (R84); a wait that a later frame has replaced
has its own time to run (R80). -/
def missAck (b : Fin 24) (s : State) : State :=
  match (s.heatRec b).wait with
  | some w =>
    if w.left = 0 then
      let n := (s.heatRec b).misses
      let t := modHeat b (fun h => { h with wait := none, misses := satInc 3 n }) s
      if n = 2 then raise .heaterSilent (.bed b) w.duty t else t
    else s
  | none => s

/-- ACK_WAIT_EXPIRY (R84). -/
def execAckWaitExpiry (b : Fin 24) (s : State) : Out := whenRunning (missAck b) s

/-! ### Budget and shed limit -/

/-- The contents of a SET_BUDGET or SHED reply; the refused count in two bytes (R74, R75; DEDUCED, log
entry 21). -/
def heatFigures (refused : Nat) (s : State) : Bytes :=
  enc2 s.heat.budget ++ enc2 s.heat.shedLimit ++ enc2 s.effectiveBudget ++ enc2 s.grantSum
    ++ enc2 refused

/-- The budget replaced (R74). -/
def writeBudget (v : Nat) (s : State) : State := { s with heat := { s.heat with budget := v } }

/-- The shed limit replaced (R75). -/
def writeShed (v : Nat) (s : State) : State := { s with heat := { s.heat with shedLimit := v } }

/-- The allocation recomputed after a written ceiling, and the figures replied (R74, R75). -/
def reallocate (f : Frame) (code : Byte) (s : State) : State :=
  let t := recompute s
  reply f code .ok (heatFigures (refusedCount s) t) t

/-- SET_BUDGET (R74). -/
def setBudget (f : Frame) (s : State) : State :=
  match f.payload with
  | [_, hi, lo] =>
    if dec2 hi lo ≤ Config.maxBudget then reallocate f qSetBudget (writeBudget (dec2 hi lo) s)
    else reply f qSetBudget .badArg [] s
  | _ => reply f qSetBudget .badArg [] s

/-- SET_BUDGET (R74). -/
def execSetBudget (f : Frame) (s : State) : Out :=
  whenRunning (fun t => setBudget f (takeIntake f t)) s

/-- SHED: a limit, or FFFFh for lift, which writes 60,000 (R75, 12.4). -/
def shed (f : Frame) (s : State) : State :=
  match f.payload with
  | [_, hi, lo] =>
    if dec2 hi lo = 0xFFFF then reallocate f qShed (writeShed Config.maxBudget s)
    else if dec2 hi lo ≤ Config.maxBudget then reallocate f qShed (writeShed (dec2 hi lo) s)
    else reply f qShed .badArg [] s
  | _ => reply f qShed .badArg [] s

/-- SHED (R75). -/
def execShed (f : Frame) (s : State) : Out := whenRunning (fun t => shed f (takeIntake f t)) s

end Sys2Proof.Machine
end

