-- ==== Sys2Proof/Machine/BedState.lean ====
section
/-! DEFINITION. Changes of a bed's state and what the blocks that follow the bed do at them (R3, R4, R18, R31,
R46, R52, R71, R76), and the bed's line list (R2). -/

namespace Sys2Proof.Machine

/-- The states whose beds' spans are in the no-load set (R4). -/
def noLoadState : BedState → Bool
  | .stressed => true | .curing => true | .releasable => true | .releasing => true
  | .vacant => false | .stripping => false | .clearing => false

/-- The beds of the no-load set; a disabled entry has no span (R4). -/
def State.noLoadBed (s : State) (b : Fin 24) : Bool :=
  (s.bedEntry b).enabled && noLoadState (s.bedRec b).state

/-- The thermal part initialised at entry to CURING, the schedule copy kept (R52). -/
def initThermal (b : Fin 24) (s : State) : State :=
  refreshMargin b (modThermal b (fun t =>
    { recipe := t.recipe, target := t.recipe.presetFloor }) s)

/-- The thermal part at a bed's leaving CURING (R71). -/
def leaveThermal (b : Fin 24) (s : State) : State :=
  modThermal b (fun t =>
    { t with demand := 0, pause := .running, waiting := .none, coolPending := false
             blindCount := 0, withheld := false, overheat := false, stall := false
             prevError := none }) s

/-- The bed flags at entry to VACANT: every flag clear but CLAMPED, which follows the order (R3). -/
def vacantFlags (f : BedFlags) : BedFlags := { clamped := f.clamped }

/-- The bed record at a change of state: the permit timer is 0 outside RELEASING (R13), and the flags are
cleared at entry to VACANT (R3). -/
def enterRec (new : BedState) (r : BedRec) : BedRec :=
  { r with
    state := new
    permit := if new = .releasing then r.permit else 0
    flags := if new = .vacant then vacantFlags r.flags else r.flags }

/-- A bed enters a state: the bed record, then the curing unit, the heat supply unit and the probe unit,
and the change handed to the runway unit as an admission opportunity (R4, R18, R31, R71, R76). -/
def enterBed (b : Fin 24) (new : BedState) (s : State) : State :=
  let old := (s.bedRec b).state
  let s1 := modBedRec b (enterRec new) s
  let s2 :=
    if new = .curing then startHeat b (initThermal b s1)
    else if old = .curing then stopHeat b (refreshMargin b (leaveThermal b s1))
    else refreshMargin b s1
  let s3 :=
    if watchedState new && !watchedState old && s2.blind b then raise .bedBlind (.bed b) 0 s2 else s2
  noteOpportunity s3

/-- A line removed from a bed's list, and the bed's margin recomputed over the lines left (R2, R46). -/
def removeLine (b : Fin 24) (m : Nat) (s : State) : State :=
  refreshMargin b (modBedRec b (fun r => { r with lines := r.lines.filter fun l => l.mark ≠ m }) s)

/-- The order and its lines removed and CLAMPED cleared (R2, R3). -/
def removeOrder (b : Fin 24) (s : State) : State :=
  modBedRec b (fun r =>
    { r with order := none, lines := [], flags := { r.flags with clamped := false } }) s

end Sys2Proof.Machine
end

