-- ==== Sys2Proof/Machine/Stock.lean ====
section
/-! DEFINITION. Moves of piece records between bed, hook, stack and nowhere (chapter 6), and the slots, claims
and placement check of the stock unit (chapter 7). -/

namespace Sys2Proof.Machine

/-! ### Areas and slots -/

/-- The area a slot belongs to (R102). -/
def State.areaOf (s : State) (n : Nat) : Option (Fin 16) :=
  (indexes 16).find? fun a => decide ((s.area a).firstSlot ≤ n ∧ n < (s.area a).firstSlot + (s.area a).count)

/-- The runway position of a slot of an area (R102). -/
def slotPosition (a : Area) (n : Nat) : Nat := a.base + (n - a.firstSlot) * a.pitch

/-- The service group of a slot (R106). -/
def groupOf (n : Fin 1024) : Fin 128 := ⟨n.val / 8, by omega⟩

/-- A slot's height plus claims (R104). -/
def Slot.load (x : Slot) : Nat := x.stack.length + x.claims

/-- A product class is in a set of accepted classes: bit n stands for class n, the model's choice
(DESIGN CHOICE, log entry 38). -/
def classIn (set : BitVec 8) (c : Fin 8) : Bool := set.getLsbD c.val

/-- The placement check: the refusal code, or none where it passes (R107). -/
def State.placementCheck (s : State) (c : Fin 8) (n : Fin 1024) : Option RefusalCode :=
  match s.areaOf n.val with
  | none => some .slotUnknown
  | some a =>
    if !s.inService (groupOf n) then some .slotOutOfService
    else if (s.area a).dispatchOnly then some .areaDispatchOnly
    else if !classIn (s.area a).classes c then some .classNotAccepted
    else if (s.area a).heightLimit ≤ (s.slot n).load then some .stackFull
    else none

/-- A slot's stack has room below its area's height limit (R104, R110). -/
def State.slotRoom (s : State) (n : Fin 1024) : Bool :=
  match s.areaOf n.val with
  | some a => (s.slot n).load < (s.area a).heightLimit
  | none => false

/-- One claim taken on a slot; an admission opportunity (R104, R107). -/
def takeClaim (n : Fin 1024) (s : State) : State :=
  noteOpportunity (modSlot n (fun x => { x with claims := x.claims + 1 }) s)

/-- One claim released; an admission opportunity (R104, R105). -/
def releaseClaim (n : Fin 1024) (s : State) : State :=
  noteOpportunity (modSlot n (fun x => { x with claims := x.claims - 1 }) s)

/-! ### Piece moves -/

/-- The level of each record of a slot set to the place of its mark in the stack (R89, R104). -/
def relevel (n : Fin 1024) (s : State) : State :=
  setPieces (s.piece.recs.map fun p =>
    match p.location with
    | .slot k _ => if k = n then { p with location := .slot n ((s.slot n).stack.idxOf p.mark + 1) } else p
    | _ => p) s

/-- A mark taken out of a slot's stack; the entries above it move down (R104). -/
def unstack (n : Fin 1024) (m : Nat) (s : State) : State :=
  noteOpportunity (relevel n (modSlot n (fun x => { x with stack := x.stack.erase m }) s))

/-- A crane's hook piece changed; an admission opportunity (R128). -/
def setHook (c : Fin 4) (h : Option Nat) (s : State) : State :=
  noteOpportunity (modCrane c (fun k => { k with hook := h }) s)

/-- A record made ON_HOOK on a crane, not ready (R91). -/
def hookPiece (c : Fin 4) (m : Nat) (s : State) : State :=
  setHook c (some m)
    (modPiece m (fun p => { p with state := .onHook, location := .crane c, ready := false }) s)

/-- The bed's account taken by a record that leaves its bed for the first time (R90). -/
def takeBedAccount (b : Fin 24) (m : Nat) (s : State) : State :=
  modPiece m (fun p =>
    { p with account := some (s.accountAt p.mix (s.thermal b).maturity (s.thermal b).remainder) }) s

/-- A lift from a bed: the account copied, the record ON_HOOK, the line removed (R90). -/
def liftFromBed (b : Fin 24) (c : Fin 4) (m : Nat) (s : State) : State :=
  removeLine b m (hookPiece c m (takeBedAccount b m s))

/-- The buried pick count rises by 1 (R109). -/
def countBuried (s : State) : State :=
  { s with stock := { s.stock with buried := satInc 65535 s.stock.buried } }

/-- A pick from a slot outside census: the piece taken from the stack, counted where it was buried, and
made ON_HOOK (R91, R109). The change of the stack and that of the hook piece are an opportunity each: the
model's choice (DESIGN CHOICE, log entry 42). -/
def pickFromSlot (n : Fin 1024) (c : Fin 4) (m : Nat) (s : State) : State :=
  let t := if (s.slot n).stack.getLast? = some m then s else countBuried s
  hookPiece c m (unstack n m t)

/-- A record pushed onto a slot's stack: IN_STOCK one level above the height, readiness recomputed
(R91, R110). -/
def pushPiece (n : Fin 1024) (m : Nat) (s : State) : State :=
  let level := (s.slot n).stack.length + 1
  refreshReady m
    (modPiece m (fun p => { p with state := .inStock, location := .slot n level })
      (noteOpportunity (modSlot n (fun x => { x with stack := x.stack ++ [m] }) s)))

/-- The push at COMPLETE: the order's claim released and the piece pushed in one operation, the hook left
empty (R91, R110). The change of the hook piece is one opportunity, and the push with its claim, one row of
R104, another: the model's choice (DESIGN CHOICE, log entry 42). -/
def placePiece (n : Fin 1024) (c : Fin 4) (m : Nat) (s : State) : State :=
  pushPiece n m (setHook c none (modSlot n (fun x => { x with claims := x.claims - 1 }) s))

/-- A record made AT_LARGE: no location, not ready (R92). -/
def strandPiece (m : Nat) (s : State) : State :=
  modPiece m (fun p => { p with state := .atLarge, location := .none, ready := false }) s

/-- A record at an aborted order made AT_LARGE, with PIECE_AT_LARGE (R110, R133). -/
def strandFromHook (c : Fin 4) (m : Nat) (s : State) : State :=
  raise .pieceAtLarge (.mark m) 1 (setHook c none (strandPiece m s))

/-- A piece returned to its source slot, or made AT_LARGE where the slot has no room (R110); the hook piece
and the stack are an opportunity each (DESIGN CHOICE, log entry 42). -/
def returnPiece (n : Fin 1024) (c : Fin 4) (m : Nat) (s : State) : State :=
  if s.slotRoom n then pushPiece n m (setHook c none s) else strandFromHook c m s

/-- A dispatch: DISPATCHED raised with the estimate and final maturity, then the record freed and the hook
left empty (R93, R132); the hook piece is an opportunity beside that of the release (DESIGN CHOICE, log
entry 42). -/
def dispatchPiece (c : Fin 4) (m : Nat) (s : State) : State :=
  match s.findPiece m with
  | some p =>
    setHook c none (erasePiece m (raise2 .dispatched (.mark m) p.estimateOf p.maturityOf s))
  | none => setHook c none s

/-- A census count of an area risen by 1, saturating (R112). -/
def countConfirmed (a : Fin 16) (s : State) : State :=
  modArea a (fun x => { x with confirmed := satInc 65535 x.confirmed }) s
/-- The relocated count (R112). -/
def countRelocated (a : Fin 16) (s : State) : State :=
  modArea a (fun x => { x with relocated := satInc 65535 x.relocated }) s
/-- The created count (R112). -/
def countCreated (a : Fin 16) (s : State) : State :=
  modArea a (fun x => { x with created := satInc 65535 x.created }) s
/-- The failed count (R112). -/
def countFailed (a : Fin 16) (s : State) : State :=
  modArea a (fun x => { x with failed := satInc 65535 x.failed }) s

end Sys2Proof.Machine
end

