-- ==== Sys2Proof/Machine/Halt.lean ====
section
/-! DEFINITION. HALT frames and halting a crane (R122, R148). -/

namespace Sys2Proof.Machine

/-- The urgent lane of port F has room. -/
def State.urgentRoom (s : State) : Bool := s.line.portF.urgent.length < Config.urgentDepth

/-- A lane without its oldest HEAT frame, and that frame (R148, step 1). -/
def takeHeat (lane : List Frame) : Option (Frame × List Frame) :=
  match lane.find? fun f => f.kind = kHeat with
  | some f => some (f, lane.eraseP fun f => f.kind = kHeat)
  | none => none

/-- A full lane without the frame nearest its tail that is not a HALT, or without its tail frame where
every frame is a HALT, and the frame lost (R148, step 2). -/
def dropTail (lane : List Frame) : Option (Frame × List Frame) :=
  match lane.reverse.find? fun f => f.kind ≠ kHalt with
  | some f => some (f, (lane.reverse.eraseP fun f => f.kind ≠ kHalt).reverse)
  | none =>
    match lane.reverse with
    | f :: rest => some (f, rest.reverse)
    | [] => none

/-- The port F normal lane replaced. -/
def setNormalF (lane : List Frame) (s : State) : State :=
  modPort .fPort (fun u => { u with normal := lane }) s

/-- Room made in the port F normal lane for a HALT (R148, steps 1 and 2). -/
def makeHaltRoom (s : State) : State :=
  match takeHeat s.line.portF.normal with
  | some (f, rest) => dropWaitFor f (setNormalF rest s)
  | none =>
    if s.laneRoom .fPort then s
    else
      match dropTail s.line.portF.normal with
      | some (f, rest) => raise .insertOverflow (.port .fPort) f.kind.toNat (setNormalF rest s)
      | none => s

/-- A HALT placed at the head of the port F normal lane (R148, step 3). -/
def haltAtHead (f : Frame) (s : State) : State :=
  modPort .fPort (fun u => { u with normal := f :: u.normal }) s

/-- A HALT offered to the urgent lane of port F, or placed in the normal lane where that lane is full
(R148). -/
def offerHalt (f : Frame) (s : State) : State :=
  if s.urgentRoom then modPort .fPort (fun u => { u with urgent := u.urgent ++ [f] }) s
  else haltAtHead f (makeHaltRoom s)

/-- The tag of a crane's current order, 0 without one (R122). -/
def State.currentTag (s : State) (c : Fin 4) : Nat :=
  match (s.crane c).current with
  | some o => o.tag
  | none => 0

/-- The HALT frame of a crane (R122, R147, 12.3). -/
def haltFrame (s : State) (c : Fin 4) (r : HaltReason) : Frame :=
  ringFrame s ((s.craneEntry c).station.getD 0) kHalt s.line.seq
    (enc1 c.val ++ enc1 r.code ++ enc2 (s.currentTag c))

/-- A crane halted with a reason: the HALT frame offered, its control HALTED, the reason kept (R122). -/
def haltCrane (c : Fin 4) (r : HaltReason) (s : State) : State :=
  let s1 := nextLineSeq s
  modCrane c (fun k => { k with control := .halted, lastHalt := some r })
    (offerHalt (haltFrame s1 c r) s1)

end Sys2Proof.Machine
end

