-- ==== Sys2Proof/Machine/Runway.lean ====
section
/-! DEFINITION. The runway unit: spans, form checks, the admission trial, admission, the waiting queue and
the admission pass, and the meanings of ORDER, WAIT_EXPIRY, ORDER_LAPSE and SILENCE_EXPIRY
(8.2 to 8.6). -/

namespace Sys2Proof.Machine

/-! ### Intervals -/

/-- Two closed intervals share a position (chapter 8). -/
def Interval.overlaps (a b : Interval) : Bool := decide (a.lo ≤ b.hi ∧ b.lo ≤ a.hi)

/-- One interval lies within another (chapter 8). -/
def Interval.within (a b : Interval) : Bool := decide (b.lo ≤ a.lo ∧ a.hi ≤ b.hi)

/-- An interval that may be absent overlaps another. -/
def overlapsOpt (a : Option Interval) (b : Interval) : Bool :=
  match a with
  | some x => x.overlaps b
  | none => false

/-- An interval widened by a clearance and clamped to the runway. -/
def widen (a : Interval) (clearance : Nat) : Interval :=
  { lo := a.lo - clearance, hi := min Config.runwayEnd (a.hi + clearance) }

/-- The least interval that holds two. -/
def Interval.hull (a b : Interval) : Interval := { lo := min a.lo b.lo, hi := max a.hi b.hi }

/-- A single position. -/
def pointAt (x : Nat) : Interval := { lo := x, hi := x }

/-- The extent of a slot; absent for a slot of no area (R102, R123). -/
def State.slotExtent (s : State) (n : Fin 1024) : Option Interval :=
  (s.areaOf n.val).map fun a => pointAt (slotPosition (s.area a) n.val)

/-- The span of a bed (1.1). -/
def State.bedSpan (s : State) (b : Fin 24) : Interval :=
  { lo := (s.bedEntry b).spanStart, hi := (s.bedEntry b).spanEnd }

/-- The extent of a source, with the crane at `pos` (R123). -/
def State.sourceExtent (s : State) (pos : Nat) : Source → Option Interval
  | .bed b => some (s.bedSpan b)
  | .slot n => s.slotExtent n
  | .hook => some (pointAt pos)

/-- The extent of a destination (R123). -/
def State.placeExtent (s : State) : Place → Option Interval
  | .slot n => s.slotExtent n
  | .bay k => (s.bay k).map pointAt

/-- The extents an order names, the crane's own position apart (R123). An extent that is absent (a slot
of no area) takes no part; such an order is refused by its placement check (R107). -/
def State.taskExtents (s : State) (pos : Nat) : Task → List Interval
  | .travel p => [pointAt p]
  | .carry src dst => (s.sourceExtent pos src).toList ++ (s.placeExtent dst).toList

/-- The span of an order for a crane at `pos` (R123). -/
def State.orderSpan (s : State) (c : Fin 4) (pos : Nat) (t : Task) : Interval :=
  widen ((s.taskExtents pos t).foldl Interval.hull (pointAt pos)) (s.craneEntry c).clearance

/-- The loaded span of a CARRY; a TRAVEL has none (R123). -/
def State.orderLoaded (s : State) (c : Fin 4) (pos : Nat) (t : Task) : Option Interval :=
  match t with
  | .travel _ => none
  | .carry _ _ =>
    match s.taskExtents pos t with
    | [] => none
    | a :: rest => some (widen (rest.foldl Interval.hull a) (s.craneEntry c).clearance)

/-! ### Live orders -/

/-- A crane is in use (8.1). -/
def State.craneInUse (s : State) (c : Fin 4) : Bool := (s.craneEntry c).station.isSome

/-- The crane in use with a station. -/
def State.craneOf (s : State) (st : Station) : Option (Fin 4) :=
  (indexes 4).find? fun c => (s.craneEntry c).station = some st

/-- The crane in use with a hook reader station. -/
def State.craneOfReader (s : State) (st : Station) : Option (Fin 4) :=
  (indexes 4).find? fun c => s.craneInUse c && (s.craneEntry c).hookReader = some st

/-- The piece an order carries: the mark it names, or the mark it is bound to. -/
def CraneOrder.concerns (o : CraneOrder) (m : Nat) : Bool := o.mark = some m || o.binding = some (.bound m)

/-- A mark is the piece of an admitted or active order of a crane other than `c` (R108, R114). -/
def State.busyElsewhere (s : State) (c : Fin 4) (m : Nat) : Bool :=
  (indexes 4).any fun k =>
    k ≠ c && (match (s.crane k).current with
              | some o => o.concerns m
              | none => false)

/-- A mark is the piece named by an admitted or active order (R125, step 5; R108). -/
def State.namedLive (s : State) (m : Nat) : Bool :=
  (indexes 4).any fun k =>
    match (s.crane k).current with
    | some o => o.concerns m
    | none => false

/-- A mark is the hook piece of a crane other than `c`. -/
def State.hookElsewhere (s : State) (c : Fin 4) (m : Nat) : Bool :=
  (indexes 4).any fun k => k ≠ c && (s.crane k).hook = some m

/-- A live order has a bed as its source (R17). -/
def State.liveFromBed (s : State) (b : Fin 24) : Bool :=
  (indexes 4).any fun k =>
    match (s.crane k).current with
    | some o => (match o.task with
                 | .carry (.bed x) _ => x = b
                 | _ => false)
    | none => false

/-- An order is a census order now: its source slot's area is IN_CENSUS (R113). -/
def State.isCensus (s : State) (t : Task) : Bool :=
  match t with
  | .carry (.slot n) _ =>
    match s.areaOf n.val with
    | some a => (s.area a).inCensus
    | none => false
  | _ => false

/-- The yard is quiet (R118). -/
def State.yardQuiet (s : State) : Bool :=
  s.runway.waiting.isEmpty && (indexes 4).all fun c => (s.crane c).reservation.isNone

/-! ### The trial (R125) -/

/-- The outcome of a trial. -/
inductive Trial where
  | admitted
  | refused (code : RefusalCode)
  | wait
  deriving DecidableEq, Repr

/-- The piece tests of step 5 (R125). -/
def State.pieceTests (s : State) (o : CraneOrder) (src : Source) : Option RefusalCode :=
  let known := o.mark.bind s.findPiece
  match known with
  | some p =>
    if s.namedLive p.mark || s.hookElsewhere o.crane p.mark then some .pieceNotHere
    else
      match src with
      | .bed b => if p.state = .onBed ∧ p.location = .bed b then none else some .pieceNotHere
      | _ => none
  | none => if s.isCensus o.task then none else some .pieceUnknown

/-- Step 6: the bed of a CARRY from BED n (R125). -/
def State.bedTest (s : State) (src : Source) : Option Trial :=
  match src with
  | .bed b =>
    match (s.bedRec b).state with
    | .stripping => none
    | .releasable => some .wait
    | .releasing => some .wait
    | _ => some (.refused .bedNotStripping)
  | _ => none

/-- The pick check (R108). -/
def State.pickCheck (s : State) (m : Nat) (n : Fin 1024) : Bool :=
  (match s.findPiece m with
   | some p => p.state = .inStock && (match p.location with
                                      | .slot k _ => k = n
                                      | _ => false)
   | none => false)
  && (s.slot n).stack.getLast? = some m && !s.namedLive m

/-- Steps 7 and 8: the piece is where the order takes it from (R125). -/
def State.sourceTest (s : State) (o : CraneOrder) (src : Source) : Option RefusalCode :=
  match src with
  | .slot n =>
    if s.isCensus o.task then none
    else if (match o.mark with
             | some m => s.pickCheck m n
             | none => false) then none else some .pieceNotHere
  | .hook => if o.mark.isSome ∧ (s.crane o.crane).hook = o.mark then none else some .pieceNotHere
  | .bed _ => none

/-- The product class of an order's placement check (R107). -/
def State.orderClass (s : State) (o : CraneOrder) : Fin 8 :=
  match o.mark.bind s.findPiece with
  | some p => p.cls
  | none =>
    match o.markLine with
    | some x => x.2
    | none => 0

/-- Steps 9 and 10: the destination takes the piece (R125). -/
def State.placeTest (s : State) (o : CraneOrder) (dst : Place) : Option RefusalCode :=
  match dst with
  | .bay _ =>
    match o.mark.bind s.findPiece with
    | some p => if p.ready then none else some .notDispatchable
    | none => some .notDispatchable
  | .slot n => s.placementCheck (s.orderClass o) n

/-- Steps 5 to 10: the tests of a CARRY that concern its piece, source and destination (R125). -/
def State.carryTests (s : State) (o : CraneOrder) (src : Source) (dst : Place) : Option Trial :=
  match s.pieceTests o src with
  | some code => some (.refused code)
  | none =>
    match s.bedTest src with
    | some t => some t
    | none =>
      match s.sourceTest o src with
      | some code => some (.refused code)
      | none =>
        match s.placeTest o dst with
        | some code => some (.refused code)
        | none => none

/-- Steps 5 to 10 for any order. -/
def State.taskTests (s : State) (o : CraneOrder) : Option Trial :=
  match o.task with
  | .travel _ => none
  | .carry src dst => s.carryTests o src dst

/-- An order is a CARRY from HOOK. -/
def fromHook : Task → Bool
  | .carry .hook _ => true
  | _ => false

/-- A span overlaps an enabled region of a kind. -/
def State.overRegion (s : State) (k : RegionKind) (i : Interval) : Bool :=
  (indexes 8).any fun r =>
    (s.region r).enabled && (s.region r).kind = k
      && i.overlaps { lo := (s.region r).start, hi := (s.region r).stop }

/-- A span overlaps the reservation or the envelope of a crane other than `c` (R125, step 12). -/
def State.overOtherCrane (s : State) (c : Fin 4) (i : Interval) : Bool :=
  (indexes 4).any fun k =>
    k ≠ c && (overlapsOpt (s.crane k).reservation i || overlapsOpt (s.crane k).envelope i)

/-- A span overlaps the span of a bed in the no-load set (R125, step 13). -/
def State.overNoLoadBed (s : State) (i : Interval) : Bool :=
  (indexes 24).any fun b => s.noLoadBed b && i.overlaps (s.bedSpan b)

/-- Step 13: the loaded span crosses no-load ground. -/
def State.overNoLoad (s : State) : Option Interval → Bool
  | none => false
  | some i => s.overRegion .noLoad i || s.overNoLoadBed i

/-- Steps 4 to 13, for a crane with a position (R125). -/
def State.trialAt (s : State) (o : CraneOrder) (pos : Nat) : Trial :=
  let span := s.orderSpan o.crane pos o.task
  if s.overRegion .closed span then .refused .closedRegion
  else
    match s.taskTests o with
    | some t => t
    | none =>
      if (s.crane o.crane).control ≠ .free then .wait
      else if s.overOtherCrane o.crane span then .wait
      else if s.overNoLoad (s.orderLoaded o.crane pos o.task) then .wait
      else .admitted

/-- The admission tests of a trial (R125). -/
def State.trial (s : State) (o : CraneOrder) : Trial :=
  let k := s.crane o.crane
  if k.control = .halted then .refused .craneHalted
  else if !fromHook o.task && k.hook.isSome then .refused .hookOccupied
  else
    match k.presence, k.position with
    | .unknown, _ => .wait
    | _, none => .wait
    | _, some pos => s.trialAt o pos

/-! ### Answers and admission -/

/-- The outcomes of an ORDER_ANSWER (12.3). -/
inductive Answer where
  | admitted (grant : Byte)
  | waiting
  | refused (code : RefusalCode)
  | lapsed
  deriving DecidableEq, Repr

/-- Bytes 4 to 6 of an ORDER_ANSWER (12.3). -/
def Answer.enc : Answer → Bytes
  | .admitted g => [1#8, 0#8, g]
  | .waiting => [2#8, 0#8, 0#8]
  | .refused code => [3#8, code.code, 0#8]
  | .lapsed => [4#8, 0#8, 0#8]

/-- An ORDER_ANSWER to an ORDER frame, with the tag and crane bytes given (8.4, R147). -/
def answerTo (f : Frame) (head : Bytes) (a : Answer) (s : State) : State :=
  offerNormal .pPort (plantFrame s f.src kOrderAnswer f.seq (head ++ a.enc)) s

/-- An ORDER_ANSWER to a held order. -/
def answerOrder (o : CraneOrder) (a : Answer) (s : State) : State :=
  answerTo o.frame (enc2 o.tag ++ enc1 o.crane.val) a s

/-- The grant number advanced by 1, rolling from 255 to 1 (R126). -/
def nextGrant (g : Byte) : Byte := if g = 255#8 then 1#8 else g + 1

/-- The ORDER with its stamp written and its ring mark set (R126, R145). -/
def stampOrder (f : Frame) (station : Station) (grant : Byte) : Frame :=
  withRingMark { f with payload := f.payload.take 15 ++ [station, grant] }

/-- The order record at its admission (R126, steps 1 and 4; R113). -/
def admittedRecord (s : State) (o : CraneOrder) (pos : Nat) : CraneOrder :=
  { o with
    state := .admitted
    waitTimer := 0
    startTimer := s.runway.startWindow
    span := some (s.orderSpan o.crane pos o.task)
    loadedSpan := s.orderLoaded o.crane pos o.task
    binding := if s.isCensus o.task then some .unbound else none
    stamp := (s.station, nextGrant s.runway.grantNumber) }

/-- The destination slot of an order, where it has one. -/
def Task.destSlot : Task → Option (Fin 1024)
  | .carry _ (.slot n) => some n
  | _ => none

/-- The crane holds an admitted order: reservation, control ORDERED, current order (R126, steps 1 and
2), and the grant number advanced (step 4). -/
def holdOrder (o : CraneOrder) (pos : Nat) (s : State) : State :=
  let r := admittedRecord s o pos
  let t := modCrane o.crane (fun k =>
    { k with reservation := r.span, control := .ordered, current := some r }) s
  { t with runway := { t.runway with grantNumber := nextGrant s.runway.grantNumber } }

/-- The claim of an order on its destination slot, where it has one (R126, step 3). -/
def claimFor (t : Task) (s : State) : State :=
  match t.destSlot with
  | some n => takeClaim n s
  | none => s

/-- Admission (R126). -/
def admitOrder (o : CraneOrder) (s : State) : State :=
  let pos := (s.crane o.crane).position.getD 0
  let g := nextGrant s.runway.grantNumber
  answerOrder o (.admitted g)
    (offerNormal .fPort (stampOrder o.frame s.station g) (claimFor o.task (holdOrder o pos s)))

/-! ### The waiting queue (R127, R128) -/

/-- A waiting order leaves the queue. -/
def unqueue (o : CraneOrder) (s : State) : State :=
  setWaiting (s.runway.waiting.erase o) s

/-- One order of an admission pass: skipped while an older order of its crane still waits, else tried;
`blocked` holds the cranes with an older order still waiting (R128). -/
def passOne (acc : List (Fin 4) × State) (o : CraneOrder) : List (Fin 4) × State :=
  if acc.1.contains o.crane then acc
  else
    match acc.2.trial o with
    | .admitted => (acc.1, admitOrder o (unqueue o acc.2))
    | .refused code => (acc.1, answerOrder o (.refused code) (unqueue o acc.2))
    | .wait => (o.crane :: acc.1, acc.2)

/-- One admission pass over the waiting orders, oldest first (R128). -/
def admissionPass (s : State) : State := (s.runway.waiting.foldl passOne ([], s)).2

/-- One opportunity taken: its count lowered by 1 and one pass made (R128). -/
def takeOpportunity (s : State) : State :=
  admissionPass { s with runway := { s.runway with opportunities := s.runway.opportunities - 1 } }

/-- Opportunities taken one after the other while any is left, at most `n` (R128). -/
def takeOpportunities : Nat → State → State
  | 0, s => s
  | n + 1, s => if s.runway.opportunities = 0 then s else takeOpportunities n (takeOpportunity s)

/-- Every opportunity handed over taken, those that the passes' own claims hand over included. Each pass
uses one opportunity and each admission takes one waiting order for the one it may hand over, so their
sum bounds the passes (R128). -/
def settle (s : State) : State :=
  takeOpportunities (s.runway.opportunities + s.runway.waiting.length) s

/-! ### ORDER -/

/-- The fields of an ORDER payload (12.3). -/
structure OrderFields where
  tag : Nat
  crane : Nat
  kind : Nat
  mark : Nat
  markLine : Byte
  srcKind : Nat
  srcNumber : Nat
  dstKind : Nat
  dstNumber : Nat
  deriving DecidableEq, Repr

/-- The fields of a payload of 17 bytes; the stamp bytes are not read (12.3). -/
def parseOrder : Bytes → Option OrderFields
  | [t1, t0, c, k, m3, m2, m1, m0, ml, sk, s1, s0, dk, d1, d0, _, _] =>
    some { tag := dec2 t1 t0, crane := c.toNat, kind := k.toNat, mark := dec4 m3 m2 m1 m0
           markLine := ml, srcKind := sk.toNat, srcNumber := dec2 s1 s0
           dstKind := dk.toNat, dstNumber := dec2 d1 d0 }
  | _ => none

/-- The source of a CARRY that passes the form check: an enabled bed, a slot of an area, or HOOK
(R124). -/
def State.formSource (s : State) (x : OrderFields) : Option Source :=
  if x.srcKind = 1 then
    match idx? 24 x.srcNumber with
    | some b => if (s.bedEntry b).enabled then some (.bed b) else none
    | none => none
  else if x.srcKind = 2 then
    match idx? 1024 x.srcNumber with
    | some n => if (s.areaOf n.val).isSome then some (.slot n) else none
    | none => none
  else if x.srcKind = 3 then some .hook
  else none

/-- The destination of a CARRY that passes the form check (R124). -/
def State.formPlace (s : State) (x : OrderFields) : Option Place :=
  if x.dstKind = 2 then (idx? 1024 x.dstNumber).map .slot
  else if x.dstKind = 3 then
    match idx? 4 x.dstNumber with
    | some k => if (s.bay k).isSome then some (.bay k) else none
    | none => none
  else none

/-- The task of an ORDER that passes the form check (R124). -/
def State.formTask (s : State) (x : OrderFields) : Option Task :=
  if x.kind = 1 then
    if x.dstKind = 1 ∧ x.dstNumber ≤ Config.runwayEnd ∧ x.mark = 0 ∧ x.markLine = 0xFF#8
        ∧ x.srcKind = 0 then some (.travel x.dstNumber)
    else none
  else if x.kind = 2 then
    match s.formSource x, s.formPlace x with
    | some src, some dst => some (.carry src dst)
    | _, _ => none
  else none

/-- The mark line of an ORDER: absent, or a mix and a class with bit 3 clear and a mark beside it; the
outer `none` is a failed form check (R124, R170). -/
def formMarkLine (x : OrderFields) : Option (Option (Fin 16 × Fin 8)) :=
  if x.markLine = 0xFF#8 then some none
  else if x.mark = 0 ∨ x.markLine.getLsbD 3 then none
  else
    match idx? 16 (x.markLine.toNat / 16), idx? 8 (x.markLine.toNat % 8) with
    | some mix, some c => some (some (mix, c))
    | _, _ => none

/-- Form check 2 (R124): the task and the mark line of an ORDER in form. -/
def State.formCheck (s : State) (x : OrderFields) : Option (Task × Option (Fin 16 × Fin 8)) :=
  match s.formTask x, formMarkLine x with
  | some t, some ml => some (t, ml)
  | _, _ => none

/-- Form check 3: the crane in use that the ORDER names and is addressed to (R124). -/
def State.orderCrane (s : State) (f : Frame) (x : OrderFields) : Option (Fin 4) :=
  match idx? 4 x.crane with
  | some c => if (s.craneEntry c).station = some f.dst then some c else none
  | none => none

/-- The live order of a crane with a tag: waiting, admitted or active (R124). -/
def State.liveOrder (s : State) (c : Fin 4) (tag : Nat) : Option CraneOrder :=
  match (s.crane c).current with
  | some o => if o.tag = tag then some o
    else s.runway.waiting.find? fun w => w.crane = c && w.tag = tag
  | none => s.runway.waiting.find? fun w => w.crane = c && w.tag = tag

/-- An ORDER repeats a live order: the same source station and the same payload without its stamp bytes
(R124, R170). -/
def isRepeat (f : Frame) (o : CraneOrder) : Bool :=
  o.frame.src = f.src && o.frame.payload.take 15 = f.payload.take 15

/-- The answer to a repeat: the live order's present outcome (R124). -/
def repeatAnswer (o : CraneOrder) : Answer :=
  match o.state with
  | .waiting => .waiting
  | _ => .admitted o.stamp.2

/-- A new order at the end of its trial that is to wait: placed at the young end of the queue, or refused
QUEUE_FULL or WAIT_EXPIRED and not held (R127; log entry 9 for the order of the two refusals). -/
def enqueueOrder (o : CraneOrder) (s : State) : State :=
  let mine := s.runway.waiting.filter fun w => w.crane = o.crane
  if Config.waitingDepth ≤ s.runway.waiting.length ∨ Config.waitingPerCrane ≤ mine.length then
    answerOrder o (.refused .queueFull) s
  else if s.runway.waitLimit = 0 then answerOrder o (.refused .waitExpired) s
  else
    answerOrder o .waiting
      (setWaiting (s.runway.waiting ++ [{ o with waitTimer := s.runway.waitLimit }]) s)

/-- A new order tried: admitted, made to wait or refused; one with an older order of its crane in the
queue is never admitted at its first trial (R125, R127). -/
def tryOrder (o : CraneOrder) (s : State) : State :=
  match s.trial o with
  | .refused code => answerOrder o (.refused code) s
  | .wait => enqueueOrder o s
  | .admitted =>
    if s.runway.waiting.any fun w => w.crane = o.crane then enqueueOrder o s else admitOrder o s

/-- The tag and crane bytes of an answer to an ORDER: those of its payload, or free bytes where the
payload is too short to carry them (R170; log entry 2). -/
def answerHead (f : Frame) (s : State) : Bytes :=
  if 3 ≤ f.payload.length then f.payload.take 3
  else f.payload ++ (List.range (3 - f.payload.length)).map fun i => Config.freeByte (s.freeCount + i)

/-- An ORDER refused before it is held (R124). -/
def refuseForm (f : Frame) (code : RefusalCode) (s : State) : State :=
  let t := answerTo f (answerHead f s) (.refused code) s
  { t with freeCount := t.freeCount + (3 - f.payload.length) }

/-- An ORDER whose form checks 1 to 3 pass: a repeat is answered, another use of a live tag is BAD_ORDER,
and any other order is tried (R124, R125). -/
def takeFormed (f : Frame) (x : OrderFields) (c : Fin 4) (t : Task)
    (ml : Option (Fin 16 × Fin 8)) (s : State) : State :=
  match s.liveOrder c x.tag with
  | some o =>
    if isRepeat f o then answerTo f (answerHead f s) (repeatAnswer o) s
    else refuseForm f .badOrder s
  | none =>
    tryOrder
      { frame := f, crane := c, tag := x.tag, mark := if x.mark = 0 then none else some x.mark
        markLine := ml, task := t } s

/-- An ORDER handed to the runway unit (R124). -/
def takeOrder (f : Frame) (s : State) : State :=
  if !s.mgmt.configured then refuseForm f .notConfigured s
  else
    match parseOrder f.payload with
    | none => refuseForm f .badOrder s
    | some x =>
      match s.formCheck x with
      | none => refuseForm f .badOrder s
      | some (t, ml) =>
        match s.orderCrane f x with
        | none => refuseForm f .unknownCrane s
        | some c => takeFormed f x c t ml s

/-- ORDER (R124 to R127). -/
def execOrder (f : Frame) (s : State) : Out :=
  whenRunning (fun t => settle (takeOrder f (takeHanded f t))) s

/-! ### Expiries -/

/-- A waiting order's wait timer has run out: removed and refused WAIT_EXPIRED; an opportunity (R129). The
answer is offered before the pass that it opens: the model's choice (DESIGN CHOICE, log entry 5). -/
def expireWait (c : Fin 4) (tag : Nat) (s : State) : State :=
  match s.runway.waiting.find? fun w => w.crane = c && w.tag = tag with
  | some o =>
    if o.waitTimer = 0 then noteOpportunity (answerOrder o (.refused .waitExpired) (unqueue o s)) else s
  | none => s

/-- WAIT_EXPIRY (R129). -/
def execWaitExpiry (c : Fin 4) (tag : Nat) (s : State) : Out :=
  whenRunning (fun t => settle (expireWait c tag t)) s

/-- A crane's order ended: reservation and current order absent, control FREE or still HALTED; the
release is an opportunity (R129, R132, R133). -/
def endOrder (c : Fin 4) (s : State) : State :=
  noteOpportunity (modCrane c (fun k =>
    { k with reservation := none, current := none
             control := if k.control = .halted then .halted else .free }) s)

/-- The claim of an order on its destination slot released, where it has one (R105). -/
def releaseFor (t : Task) (s : State) : State :=
  match t.destSlot with
  | some n => releaseClaim n s
  | none => s

/-- An ADMITTED order's start timer has run out: the order lapses (R129). The answer LAPSED is offered, and
ORDER_LAPSED raised, before the pass that the release opens: the model's choice (DESIGN CHOICE, log
entries 5 and 20), and so is an opportunity each for the claim and the reservation (log entry 42). -/
def lapseOrder (c : Fin 4) (s : State) : State :=
  match (s.crane c).current with
  | some o =>
    if o.state = .admitted ∧ o.startTimer = 0 then
      raise .orderLapsed (.crane c) o.tag
        (answerOrder o .lapsed (endOrder c (releaseFor o.task s)))
    else s
  | none => s

/-- ORDER_LAPSE (R129). -/
def execOrderLapse (c : Fin 4) (s : State) : Out :=
  whenRunning (fun t => settle (lapseOrder c t)) s

/-- A REPORTING crane's silence timer has run out: the crane is LOST (R120); a report that came first has
started the timer again. -/
def loseCrane (c : Fin 4) (s : State) : State :=
  if (s.crane c).presence = .reporting ∧ (s.crane c).silence = 0 then
    noteOpportunity (raise .craneLost (.crane c) (((s.crane c).position.getD 0 : Nat) : Int)
      (modCrane c (fun k => { k with presence := .lost, silence := 0 }) s))
  else s

/-- SILENCE_EXPIRY (R120). -/
def execSilenceExpiry (c : Fin 4) (s : State) : Out :=
  whenRunning (fun t => settle (loseCrane c t)) s

end Sys2Proof.Machine
end

