-- ==== Sys2Proof/Machine/Crane.lean ====
section
/-! DEFINITION. Crane reports, the lift, census binding, completion and abort, hook scans, and the meanings of
the REPORT rows, HOOK_SCAN, CRANE_RELEASE, CENSUS_BEGIN and CENSUS_END (7.6, 7.8, 8.3, 8.7, 8.8,
8.10). -/

namespace Sys2Proof.Machine

/-! ### Reports -/

/-- The fields of a CRANE_REPORT payload (12.3). -/
structure ReportFields where
  kind : Nat
  position : Nat
  tag : Nat
  loaded : Bool
  deriving DecidableEq, Repr

/-- A CRANE_REPORT of six bytes and a kind of 1 to 5 (R170). -/
def parseReport : Bytes → Option ReportFields
  | [k, p1, p0, t1, t0, l] =>
    if 1 ≤ k.toNat ∧ k.toNat ≤ 5 then
      some { kind := k.toNat, position := dec2 p1 p0, tag := dec2 t1 t0, loaded := l ≠ 0#8 }
    else none
  | _ => none

/-- The stray crane report count rises by 1 (R131). -/
def countStrayReport (s : State) : State :=
  { s with runway := { s.runway with strayReports := satInc 65535 s.runway.strayReports } }

/-- The envelope of a position (R121). -/
def envelopeAt (clearance pos : Nat) : Interval := widen (pointAt pos) clearance

/-- The crane as a position report leaves it (R120, R121, steps 1 and 2). -/
def positionCrane (clearance pos : Nat) (k : Crane) : Crane :=
  { k with
    position := some (min Config.runwayEnd pos)
    envelope := some (envelopeAt clearance (min Config.runwayEnd pos))
    presence := .reporting
    silence := 10 }

/-- A crane's envelope overlaps the reservation of another crane (R121). -/
def State.intoReservation (s : State) (c : Fin 4) (i : Interval) : Bool :=
  (indexes 4).any fun k => k ≠ c && overlapsOpt (s.crane k).reservation i

/-- A crane that is not HALTED overruns (R121, step 3). -/
def State.overruns (s : State) (c : Fin 4) : Bool :=
  (s.crane c).control ≠ .halted &&
    (match (s.crane c).envelope with
     | none => false
     | some e =>
       match (s.crane c).reservation with
       | some r => !e.within r
       | none => s.intoReservation c e)

/-- The overrun test (R121, step 3). -/
def overrunTest (c : Fin 4) (s : State) : State :=
  if s.overruns c then
    raise .craneOverrun (.crane c) (((s.crane c).position.getD 0 : Nat) : Int) (haltCrane c .overrun s)
  else s

/-- A report applied to its crane as a position report (R121, steps 1 to 3). -/
def takePosition (c : Fin 4) (pos : Nat) (s : State) : State :=
  overrunTest c (modCrane c (positionCrane (s.craneEntry c).clearance pos) s)

/-- A CRANE_REPORT frame, with what its kind does: one from any other source than a crane in use changes
nothing (R121), one malformed is counted stray (R170; log entry 25); a changed envelope or presence is
an opportunity taken after the kind has been acted on (R121), one more beside those of the kind (DESIGN
CHOICE, log entry 42). -/
def takeReport (f : Frame) (act : Fin 4 → ReportFields → State → State) (s : State) : State :=
  match s.craneOf f.src with
  | none => s
  | some c =>
    match parseReport f.payload with
    | none => countStrayReport s
    | some r =>
      let moved := takePosition c r.position s
      let t := act c r moved
      settle (if (moved.crane c).envelope = (s.crane c).envelope
                  ∧ (moved.crane c).presence = (s.crane c).presence then t else noteOpportunity t)

/-- REPORT_POSITION (R121). -/
def execReportPosition (f : Frame) (s : State) : Out :=
  whenRunning (fun t => takeReport f (fun _ _ u => u) (takeHanded f t)) s

/-- The crane's current order carries a tag. -/
def State.hasTag (s : State) (c : Fin 4) (tag : Nat) : Bool :=
  match (s.crane c).current with
  | some o => o.tag = tag
  | none => false

/-- An ADMITTED order becomes ACTIVE and its start timer stops (R130). -/
def activate (o : CraneOrder) : CraneOrder :=
  if o.state = .admitted then { o with state := .active, startTimer := 0 } else o

/-- A late start: the crane is halted and LATE_START raised (R130). -/
def lateStart (c : Fin 4) (tag : Nat) (s : State) : State :=
  raise .lateStart (.crane c) tag (haltCrane c .lateStart s)

/-- The STARTED report's act (R130). -/
def takeStarted (c : Fin 4) (r : ReportFields) (s : State) : State :=
  if s.hasTag c r.tag then modCurrent c activate s else lateStart c r.tag s

/-- REPORT_STARTED (R121, R130). -/
def execReportStarted (f : Frame) (s : State) : Out :=
  whenRunning (fun t => takeReport f takeStarted (takeHanded f t)) s

/-! ### Census binding (R114, R115) -/

/-- The binding of a crane's current order. -/
def setBinding (c : Fin 4) (b : Binding) (s : State) : State :=
  modCurrent c (fun o => { o with binding := some b }) s

/-- HOOK_MISMATCH raised for a crane with a value (R114, R115, R134). -/
def mismatch (c : Fin 4) (v : Nat) (s : State) : State := raise .hookMismatch (.crane c) v s

/-- The area of a census order's source slot, counted in a census count. -/
def countAt (n : Fin 1024) (count : Fin 16 → State → State) (s : State) : State :=
  match s.areaOf n.val with
  | some a => count a s
  | none => s

/-- A binding that fails: FAILED, counted, the crane halted with the reason, HOOK_MISMATCH raised with the
mark (R114). -/
def failBinding (c : Fin 4) (n : Fin 1024) (r : HaltReason) (m : Nat) (s : State) : State :=
  mismatch c m (haltCrane c r (countAt n countFailed (setBinding c .failed s)))

/-- A record created in census, ON_HOOK (R87). -/
def censusPiece (s : State) (c : Fin 4) (o : CraneOrder) (m : Nat) : Piece :=
  let mix := match o.markLine with
    | some x => x.1
    | none => 0
  let cls := match o.markLine with
    | some x => x.2
    | none => 0
  { number := 0, mark := m, state := .onHook, mix := mix, cls := cls, length := 1, weight := 1
    origin := none, castStamp := none, location := .crane c
    account := some (s.accountAt mix 0 0), ready := false, flags := { unrated := true } }

/-- A binding of a mark whose record is moved to the hook (R114); the hook piece is an opportunity beside
that of the stack it was taken from (DESIGN CHOICE, log entry 42). -/
def bindMoved (c : Fin 4) (m : Nat) (s : State) : State := setBinding c (.bound m) (hookPiece c m s)

/-- The binding of a census order with source slot `n` to a mark (R114). -/
def bindMark (c : Fin 4) (o : CraneOrder) (n : Fin 1024) (m : Nat) (s : State) : State :=
  match s.findPiece m with
  | none =>
    if s.hasFreeRecord then
      setBinding c (.bound m)
        (setHook c (some m) (countAt n countCreated (createPiece (censusPiece s c o m) s)))
    else failBinding c n .stockFullRecords m s
  | some p =>
    if s.busyElsewhere c m then failBinding c n .hookMismatch m s
    else
      match p.state, p.location with
      | .inStock, .slot k _ =>
        if k = n ∧ (s.slot n).stack.getLast? = some m then
          bindMoved c m (unstack n m (countAt n countConfirmed s))
        else bindMoved c m (unstack k m (countAt n countRelocated s))
      | .atLarge, _ => bindMoved c m (countAt n countRelocated s)
      | _, _ => failBinding c n .hookMismatch m s

/-- LIFTED for an UNBOUND census order: bound to the order's own mark, or FAILED where it carries none
(R115; log entry 10 for the failed count). -/
def bindLifted (c : Fin 4) (o : CraneOrder) (n : Fin 1024) (s : State) : State :=
  match o.mark with
  | some m => bindMark c o n m s
  | none => mismatch c 0 (haltCrane c .unscanned (countAt n countFailed (setBinding c .failed s)))

/-! ### The lift (R131) -/

/-- The lift of an order by its source (R131). -/
def liftBySource (c : Fin 4) (o : CraneOrder) (src : Source) (s : State) : State :=
  match src with
  | .bed b =>
    match o.mark with
    | some m => liftFromBed b c m s
    | none => s
  | .slot n =>
    match o.binding with
    | some .unbound => bindLifted c o n s
    | some _ => s
    | none =>
      match o.mark with
      | some m => pickFromSlot n c m s
      | none => s
  | .hook => s

/-- The lift of a crane's ACTIVE CARRY taken, where its lifted indication is clear (R131). -/
def takeLift (c : Fin 4) (s : State) : State :=
  match (s.crane c).current with
  | some o =>
    match o.task with
    | .carry src _ =>
      if o.lifted then s
      else liftBySource c o src (modCurrent c (fun x => { x with lifted := true }) s)
    | .travel _ => s
  | none => s

/-- A LIFTED report of this order is stray: a TRAVEL, or a lift already taken (R131). -/
def strayLift (o : CraneOrder) : Bool :=
  match o.task with
  | .travel _ => true
  | .carry _ _ => o.lifted

/-- The LIFTED report's act (R131). -/
def takeLifted (c : Fin 4) (r : ReportFields) (s : State) : State :=
  if s.hasTag c r.tag then
    let t := modCurrent c activate s
    match (t.crane c).current with
    | some o => if strayLift o then countStrayReport t else takeLift c t
    | none => t
  else countStrayReport s

/-- REPORT_LIFTED (R121, R131). -/
def execReportLifted (f : Frame) (s : State) : Out :=
  whenRunning (fun t => takeReport f takeLifted (takeHanded f t)) s

/-! ### Completion (R132) -/

/-- The piece an order carries at its end: the order's mark, or the mark bound in census. -/
def CraneOrder.piece (o : CraneOrder) : Option Nat :=
  match o.binding with
  | none => o.mark
  | some (.bound m) => some m
  | some _ => none

/-- The scan that keeps UNSCANNED clear at COMPLETE: any scan seen for a census order, a matching one for
any other (R94, R115; R132, step 2). -/
def CraneOrder.identified (o : CraneOrder) : Bool :=
  if o.binding.isSome then o.scanSeen else o.scanned

/-- UNSCANNED set on the piece where no scan identified it (R94, R115, R132). -/
def markUnscanned (o : CraneOrder) (m : Nat) (s : State) : State :=
  if o.identified then s else modPiece m (fun p => { p with flags := { p.flags with unscanned := true } }) s

/-- The piece delivered: pushed onto the slot with the claim released, or dispatched (R132, step 3). -/
def deliver (c : Fin 4) (o : CraneOrder) (dst : Place) (s : State) : State :=
  match o.piece with
  | some m =>
    match dst with
    | .slot n => placePiece n c m (markUnscanned o m s)
    | .bay _ => dispatchPiece c m (markUnscanned o m s)
  | none => mismatch c 0 (haltCrane c .hookMismatch (releaseFor o.task s))

/-- COMPLETE of an order that is ACTIVE and whose lift has been taken (R132, steps 2 to 4). The release is
an opportunity beside those of the delivery (DESIGN CHOICE, log entry 42). -/
def finishOrder (c : Fin 4) (s : State) : State :=
  match (s.crane c).current with
  | some o =>
    match o.task with
    | .travel _ => endOrder c s
    | .carry _ dst => endOrder c (deliver c o dst s)
  | none => s

/-- The COMPLETE report's act (R132). -/
def takeComplete (c : Fin 4) (r : ReportFields) (s : State) : State :=
  if s.hasTag c r.tag then finishOrder c (takeLift c (modCurrent c activate s))
  else raise .unknownComplete (.crane c) r.tag s

/-- REPORT_COMPLETE (R121, R132). -/
def execReportComplete (f : Frame) (s : State) : Out :=
  whenRunning (fun t => takeReport f takeComplete (takeHanded f t)) s

/-! ### Abort (R133) -/

/-- The piece of an aborted order dealt with by source and hook-loaded flag, the lift taken or not
(R110, R115, R133). -/
def settleAbort (c : Fin 4) (o : CraneOrder) (src : Source) (loaded : Bool) (s : State) : State :=
  if loaded then s
  else
    match src, o.piece with
    | .bed _, some m => if o.lifted then strandFromHook c m s else s
    | .slot n, some m => if o.lifted ∨ o.binding.isSome then returnPiece n c m s else s
    | .hook, some m => strandFromHook c m s
    | _, none => s

/-- ABORTED of an order that is ACTIVE, the lift taken where the hook is loaded (R133). The released claim,
the hook piece, the stack and the release are an opportunity each (DESIGN CHOICE, log entry 42). -/
def abortOrder (c : Fin 4) (loaded : Bool) (s : State) : State :=
  match (s.crane c).current with
  | some o =>
    match o.task with
    | .travel _ => endOrder c s
    | .carry src _ => endOrder c (settleAbort c o src loaded (releaseFor o.task s))
  | none => s

/-- The ABORTED report's act (R133). -/
def takeAborted (c : Fin 4) (r : ReportFields) (s : State) : State :=
  if s.hasTag c r.tag then
    let t := modCurrent c activate s
    abortOrder c r.loaded (if r.loaded then takeLift c t else t)
  else countStrayReport s

/-- REPORT_ABORTED (R121, R133). -/
def execReportAborted (f : Frame) (s : State) : Out :=
  whenRunning (fun t => takeReport f takeAborted (takeHanded f t)) s

/-! ### Hook scans (R134, R115) -/

/-- A scan handed over for the ACTIVE order is seen, whatever its mark (R115). -/
def noteSeen (c : Fin 4) (s : State) : State := modCurrent c (fun o => { o with scanSeen := true }) s

/-- A scan of a mark that fits the order's piece: the scanned indication set (R134; log entry 17 for a
census order). -/
def noteScanned (c : Fin 4) (s : State) : State :=
  modCurrent c (fun o => { o with scanned := true }) s

/-- The scanned indication set where the current order is now bound to the mark (DEDUCED, log entry 17). -/
def noteIfBound (c : Fin 4) (m : Nat) (s : State) : State :=
  modCurrent c (fun o => if o.binding = some (.bound m) then { o with scanned := true } else o) s

/-- A scan that differs from the piece: the crane halted, HOOK_MISMATCH raised (R134). -/
def scanMismatch (c : Fin 4) (m : Nat) (s : State) : State :=
  mismatch c m (haltCrane c .hookMismatch s)

/-- A scan taken for an ACTIVE CARRY (R115, R134). -/
def scanCarry (c : Fin 4) (o : CraneOrder) (src : Source) (m : Nat) (s : State) : State :=
  match o.binding, src with
  | none, _ => if o.mark = some m then noteScanned c s else scanMismatch c m s
  | some (.bound k), _ => if k = m then noteScanned c s else scanMismatch c m s
  | some _, .slot n => noteIfBound c m (bindMark c o n m s)
  | some _, _ => s

/-- A scan acts on the crane's current order only while that is an ACTIVE CARRY (R134). -/
def scanCrane (c : Fin 4) (m : Nat) (s : State) : State :=
  match (s.crane c).current with
  | some o =>
    match o.task with
    | .carry src _ => if o.state = .active then scanCarry c o src m (noteSeen c s) else s
    | .travel _ => s
  | none => s

/-- A HOOK_SCAN frame (R134). -/
def takeScan (f : Frame) (s : State) : State :=
  match f.payload with
  | [m3, m2, m1, m0] =>
    if dec4 m3 m2 m1 m0 = 0 then s
    else
      match s.craneOfReader f.src with
      | some c => settle (scanCrane c (dec4 m3 m2 m1 m0) s)
      | none => s
  | _ => s

/-- HOOK_SCAN (R134, R115). -/
def execHookScan (f : Frame) (s : State) : Out :=
  whenRunning (fun t => takeScan f (takeHanded f t)) s

/-! ### CRANE_RELEASE -/

/-- A HALTED crane released: ORDERED with a current order, else FREE (R136). -/
def releaseCrane (c : Fin 4) (s : State) : State :=
  noteOpportunity (modCrane c (fun k =>
    { k with control := if k.current.isSome then .ordered else .free }) s)

/-- CRANE_RELEASE (R136). -/
def craneRelease (f : Frame) (s : State) : State :=
  match f.payload with
  | [_, crane] =>
    match idx? 4 crane.toNat with
    | none => reply f qCraneRelease .badArg [] s
    | some c =>
      if !s.craneInUse c then reply f qCraneRelease .notFound [] s
      else if (s.crane c).control ≠ .halted then reply f qCraneRelease .state [] s
      else reply f qCraneRelease .ok [] (settle (releaseCrane c s))
  | _ => reply f qCraneRelease .badArg [] s

/-- CRANE_RELEASE (R136). -/
def execCraneRelease (f : Frame) (s : State) : Out :=
  whenRunning (fun t => craneRelease f (takeIntake f t)) s

/-! ### Census requests (R112) -/

/-- A live CARRY has a source slot in an area (R112). -/
def State.picksFrom (s : State) (a : Fin 16) : Bool :=
  (indexes 4).any fun k =>
    match (s.crane k).current with
    | some o => (match o.task with
                 | .carry (.slot n) _ => s.areaOf n.val = some a
                 | _ => false)
    | none => false

/-- The four census counts of an area (R112). -/
def censusCounts (a : Area) : Bytes :=
  enc2 a.confirmed ++ enc2 a.relocated ++ enc2 a.created ++ enc2 a.failed

/-- The checks common to the census requests: the failing status, or the area (R112). -/
def State.censusCheck (s : State) (area : Byte) : Except Status (Fin 16) :=
  if !s.mgmt.configured then .error .notConfigured
  else
    match idx? 16 area.toNat with
    | none => .error .badArg
    | some a =>
      if (s.area a).count = 0 then .error .notFound
      else if s.picksFrom a then .error .busy
      else .ok a

/-- An IDLE area enters census with its counts 0 (R112). -/
def beginCensus (a : Fin 16) (s : State) : State :=
  if (s.area a).inCensus then s
  else noteOpportunity (modArea a (fun x =>
    { x with inCensus := true, confirmed := 0, relocated := 0, created := 0, failed := 0 }) s)

/-- An area in census becomes IDLE (R112). -/
def endCensus (a : Fin 16) (s : State) : State :=
  if (s.area a).inCensus then noteOpportunity (modArea a (fun x => { x with inCensus := false }) s)
  else s

/-- CENSUS_BEGIN (R112). -/
def censusBegin (f : Frame) (s : State) : State :=
  match f.payload with
  | [_, area] =>
    match s.censusCheck area with
    | .error st => reply f qCensusBegin st [] s
    | .ok a => reply f qCensusBegin .ok [] (settle (beginCensus a s))
  | _ => reply f qCensusBegin .badArg [] s

/-- CENSUS_BEGIN (R112). -/
def execCensusBegin (f : Frame) (s : State) : Out :=
  whenRunning (fun t => censusBegin f (takeIntake f t)) s

/-- CENSUS_END (R112). -/
def censusEnd (f : Frame) (s : State) : State :=
  match f.payload with
  | [_, area] =>
    match s.censusCheck area with
    | .error st => reply f qCensusEnd st [] s
    | .ok a => reply f qCensusEnd .ok (censusCounts (s.area a)) (settle (endCensus a s))
  | _ => reply f qCensusEnd .badArg [] s

/-- CENSUS_END (R112). -/
def execCensusEnd (f : Frame) (s : State) : Out :=
  whenRunning (fun t => censusEnd f (takeIntake f t)) s

end Sys2Proof.Machine
end

