-- ==== Sys2Proof/Machine/Panel.lean ====
section
/-! DEFINITION. The panel protocol and the works minute: the meanings of the PANEL rows and of
WORKS_MINUTE_EXPIRY (1.5 to 1.7). -/

namespace Sys2Proof.Machine

/-! ### Answers -/

/-- The reasons of a DENY (R9). -/
inductive DenyReason where
  | notReady | orderLive
  deriving DecidableEq, Repr

/-- The answers to a panel report (1.5). -/
inductive PanelAnswer where
  | accepted
  | permit (minutes : Nat)
  | deny (r : DenyReason) (margin : Option Int)
  | ignored
  deriving DecidableEq, Repr

/-- Bytes 2 to 6 of a PANEL_ANSWER (12.3). -/
def PanelAnswer.enc : PanelAnswer → Bytes
  | .accepted => enc1 1 ++ encOpt1 none ++ encOptS2 none ++ encOpt1 none
  | .permit m => enc1 2 ++ encOpt1 none ++ encOptS2 none ++ enc1 m
  | .deny .notReady margin => enc1 3 ++ enc1 1 ++ encOptS2 margin ++ encOpt1 none
  | .deny .orderLive margin => enc1 3 ++ enc1 2 ++ encOptS2 margin ++ encOpt1 none
  | .ignored => enc1 4 ++ encOpt1 none ++ encOptS2 none ++ encOpt1 none

/-- The bed byte of an answer: that of the report, or a free byte where the report has none (R9; log
entry 2). -/
def panelBedByte (f : Frame) (s : State) : Byte := f.payload.headD (Config.freeByte s.freeCount)

/-- The model's counter after a panel answer. -/
def panelFree (f : Frame) (s : State) : State := if f.payload.isEmpty then takeFree s else s

/-- The PANEL_ANSWER to a report, on the port F normal lane (R9, R147). -/
def panelAnswer (f : Frame) (a : PanelAnswer) (s : State) : State :=
  offerNormal .fPort (ringFrame s f.src kPanelAnswer f.seq (panelBedByte f s :: a.enc)) (panelFree f s)

/-- The bed a BED_PANEL frame with this event code is taken for (R9). -/
def State.panelBed (s : State) (f : Frame) (event : Byte) : Option (Fin 24) :=
  match f.payload with
  | [bed, code] =>
    match idx? 24 bed.toNat with
    | some b =>
      if s.mgmt.configured && (s.bedEntry b).enabled && (s.bedEntry b).panel = some f.src
          && code = event then some b
      else none
    | none => none
  | _ => none

/-- A BED_PANEL frame: acted on for its bed, or answered IGNORED (R9). -/
def takePanel (f : Frame) (event : Byte) (act : Fin 24 → State → State) (s : State) : State :=
  match s.panelBed f event with
  | some b => act b s
  | none => panelAnswer f .ignored s

/-! ### STRESSED -/

/-- The live CARRY of a crane whose loaded span overlaps a bed's span (R10, R135). -/
def State.carryOver (s : State) (b : Fin 24) (c : Fin 4) : Option CraneOrder :=
  match (s.crane c).current with
  | some o => if overlapsOpt o.loadedSpan (s.bedSpan b) then some o else none
  | none => none

/-- LOAD_OVER set on a piece record (R94, R135). -/
def markLoadOver (m : Option Nat) (s : State) : State :=
  match m with
  | some m => modPiece m (fun p => { p with flags := { p.flags with loadOver := true } }) s
  | none => s

/-- A crane's order over a newly stressed bed marked LOAD_OVER, with its pieces (R135), and
LOAD_OVER_STRESSED raised with the crane and the tag (R10). -/
def loadOverCrane (b : Fin 24) (c : Fin 4) (s : State) : State :=
  match s.carryOver b c with
  | some o =>
    raise .loadOverStressed (.crane c) o.tag
      (markLoadOver (s.crane c).hook (markLoadOver o.mark
        (modCurrent c (fun x => { x with loadOver := true }) s)))
  | none => s

/-- A VACANT bed is stressed (R10). The orders found are marked, and LOAD_OVER_STRESSED raised, in
ascending crane number: the model's choice (DESIGN CHOICE, log entry 19). -/
def stressBed (b : Fin 24) (s : State) : State :=
  let s1 := enterBed b .stressed s
  let any := (indexes 4).any fun c => (s1.carryOver b c).isSome
  let s2 := forEach (loadOverCrane b) s1
  settle (if any then
    modBedRec b (fun r => { r with flags := { r.flags with loadOver := true } }) s2 else s2)

/-- The act of a STRESSED report (R10). -/
def panelStressed (f : Frame) (b : Fin 24) (s : State) : State :=
  match (s.bedRec b).state with
  | .vacant => panelAnswer f .accepted (stressBed b s)
  | _ => panelAnswer f .ignored s

/-- PANEL_STRESSED (R9, R10). -/
def execPanelStressed (f : Frame) (s : State) : Out :=
  whenRunning (fun t => takePanel f 1#8 (panelStressed f) (takeHanded f t)) s

/-! ### CAST_DONE -/

/-- The records of a bed's lines go ON_BED with a cast stamp (R6, R11). -/
def putOnBed (b : Fin 24) (stamp : Minute) (s : State) : State :=
  (s.bedRec b).lines.foldl (fun t l =>
    modPiece l.mark (fun p =>
      { p with state := .onBed, location := .bed b, castStamp := some stamp }) t) s

/-- A STRESSED bed with an order starts its cure (R11). -/
def castBed (b : Fin 24) (s : State) : State :=
  settle (enterBed b .curing (putOnBed b s.sup.worksMinute s))

/-- A STRESSED bed without an order: the cast is recorded as seen (R11). -/
def castSeen (b : Fin 24) (s : State) : State :=
  raise .castWithoutOrder (.bed b) 0 (modBedRec b (fun r =>
    { r with castSeen := some (r.castSeen.getD s.sup.worksMinute)
             flags := { r.flags with castWithoutOrder := true } }) s)

/-- The act of a CAST_DONE report (R11). -/
def panelCastDone (f : Frame) (b : Fin 24) (s : State) : State :=
  match (s.bedRec b).state with
  | .stressed =>
    panelAnswer f .accepted (if (s.bedRec b).order.isSome then castBed b s else castSeen b s)
  | _ => panelAnswer f .ignored s

/-- PANEL_CAST_DONE (R9, R11). -/
def execPanelCastDone (f : Frame) (s : State) : Out :=
  whenRunning (fun t => takePanel f 2#8 (panelCastDone f) (takeHanded f t)) s

/-! ### DETENSION_ASK -/

/-- The permit timer set to the permit window (R12). -/
def grantPermit (b : Fin 24) (s : State) : State :=
  modBedRec b (fun r => { r with permit := s.bed.permitWindow }) s

/-- The margin a DENY carries: the held margin, clamped, for a bed with at least one line (R12). -/
def State.denyMargin (s : State) (b : Fin 24) : Option Int :=
  if (s.bedRec b).lines.isEmpty then none else (s.thermal b).margin.map (clampInt (-1200) 1200)

/-- The act of a DETENSION_ASK report (R12). -/
def panelDetensionAsk (f : Frame) (b : Fin 24) (s : State) : State :=
  match (s.bedRec b).state with
  | .releasable =>
    panelAnswer f (.permit s.bed.permitWindow)
      (settle (grantPermit b (enterBed b .releasing s)))
  | .releasing => panelAnswer f (.permit s.bed.permitWindow) (grantPermit b s)
  | .curing => panelAnswer f (.deny .notReady (s.denyMargin b)) s
  | .stripping => panelAnswer f (.deny .notReady (s.denyMargin b)) s
  | .vacant => panelAnswer f (.deny .notReady none) s
  | .stressed => panelAnswer f (.deny .notReady none) s
  | .clearing => panelAnswer f (.deny .notReady none) s

/-- PANEL_DETENSION_ASK (R9, R12). -/
def execPanelDetensionAsk (f : Frame) (s : State) : Out :=
  whenRunning (fun t => takePanel f 3#8 (panelDetensionAsk f) (takeHanded f t)) s

/-! ### DETENSIONED -/

/-- PERMITLESS set on a bed (R14, R16). -/
def flagPermitless (b : Fin 24) (s : State) : State :=
  modBedRec b (fun r => { r with flags := { r.flags with permitless := true } }) s

/-- PREMATURE set on the record of every line of a bed (R15). -/
def flagPiecesPremature (b : Fin 24) (s : State) : State :=
  (s.bedRec b).lines.foldl (fun t l =>
    modPiece l.mark (fun p => { p with flags := { p.flags with premature := true } }) t) s

/-- A premature release (R15). -/
def prematureRelease (b : Fin 24) (s : State) : State :=
  let t := enterBed b .stripping (modBedRec b (fun r =>
    { r with flags := { r.flags with premature := true } }) (flagPiecesPremature b s))
  settle (raise .prematureRelease (.bed b) ((t.thermal b).margin.getD 0) t)

/-- A release with a cast seen and no order (R16). -/
def releaseUnrecorded (b : Fin 24) (s : State) : State :=
  settle (enterBed b .stripping (raise .permitless (.bed b) 0
    (flagPermitless b (modBedRec b (fun r => { r with castSeen := none }) s))))

/-- The duplicate detension count rises by 1 (R16). -/
def countDuplicate (s : State) : State :=
  { s with bed := { s.bed with duplicates := satInc 65535 s.bed.duplicates } }

/-- The act of a DETENSIONED report (R14 to R16). -/
def panelDetensioned (f : Frame) (b : Fin 24) (s : State) : State :=
  match (s.bedRec b).state with
  | .releasing => panelAnswer f .accepted (settle (enterBed b .stripping s))
  | .releasable =>
    panelAnswer f .accepted
      (settle (raise .permitless (.bed b) 0 (flagPermitless b (enterBed b .stripping s))))
  | .curing => panelAnswer f .accepted (prematureRelease b s)
  | .stressed =>
    panelAnswer f .accepted
      (if (s.bedRec b).castSeen.isSome then releaseUnrecorded b s
       else settle (enterBed b .vacant s))
  | .vacant => panelAnswer f .ignored (countDuplicate s)
  | .stripping => panelAnswer f .ignored (countDuplicate s)
  | .clearing => panelAnswer f .ignored (countDuplicate s)

/-- PANEL_DETENSIONED (R9, R14 to R16). -/
def execPanelDetensioned (f : Frame) (s : State) : Out :=
  whenRunning (fun t => takePanel f 4#8 (panelDetensioned f) (takeHanded f t)) s

/-! ### BED_CLEAR -/

/-- A line's record made AT_LARGE with its bed's account where it holds none (R17, R92). -/
def strandLine (b : Fin 24) (m : Nat) (s : State) : State :=
  match s.findPiece m with
  | some p => strandPiece m (if p.account.isNone then takeBedAccount b m s else s)
  | none => s

/-- Every line left handed to the piece unit, PIECE_AT_LARGE raised where there is at least one (R17). -/
def strandLines (b : Fin 24) (s : State) : State :=
  let lines := (s.bedRec b).lines
  let t := lines.foldl (fun u l => strandLine b l.mark u) s
  if lines.isEmpty then t else raise .pieceAtLarge (.bed b) lines.length t

/-- A bed cleared (R17). -/
def clearBed (b : Fin 24) (s : State) : State :=
  settle (enterBed b .vacant (modBedRec b (fun r =>
    { r with order := none, lines := [], castSeen := none, flags := {} }) (strandLines b s)))

/-- The act of a BED_CLEAR report (R17). -/
def panelBedClear (f : Frame) (b : Fin 24) (s : State) : State :=
  match (s.bedRec b).state with
  | .stripping =>
    if s.liveFromBed b then panelAnswer f (.deny .orderLive none) s
    else panelAnswer f .accepted (clearBed b s)
  | .clearing => panelAnswer f .accepted (clearBed b s)
  | _ => panelAnswer f .ignored s

/-- PANEL_BED_CLEAR (R9, R17). -/
def execPanelBedClear (f : Frame) (s : State) : Out :=
  whenRunning (fun t => takePanel f 5#8 (panelBedClear f) (takeHanded f t)) s

/-! ### The works minute -/

/-- One bed at a works-minute expiry: a RELEASING bed's permit timer falls by 1 and lapses at 0 (R13). -/
def permitMinute (b : Fin 24) (s : State) : State :=
  if (s.bedRec b).state = .releasing then
    if (s.bedRec b).permit ≤ 1 then
      settle (raise .permitLapsed (.bed b) 0 (enterBed b .releasable s))
    else modBedRec b (fun r => { r with permit := r.permit - 1 }) s
  else s

/-- WORKS_MINUTE_EXPIRY (R13). -/
def execWorksMinuteExpiry (s : State) : Out :=
  whenRunning (fun t => forEach permitMinute (advanceMinute t)) s

end Sys2Proof.Machine
end

