-- ==== Sys2Proof/Machine/BedRequests.lean ====
section
/-! DEFINITION. The management requests on beds: BED_ORDER, BED_CANCEL, BED_ABANDON (1.4), BED_PAUSE,
BED_RESUME and BED_COOL (4.4). -/

namespace Sys2Proof.Machine

/-! ### BED_ORDER -/

/-- A line of a BED_ORDER as it stands in the payload. -/
structure RawLine where
  mark : Nat
  mixClass : Byte
  length : Nat
  weight : Nat
  deriving DecidableEq, Repr

/-- The fields of a BED_ORDER payload (R5, R170). -/
structure RawOrder where
  bed : Nat
  schedule : Nat
  cls : Nat
  policy : Nat
  override : Nat
  lines : List RawLine
  deriving DecidableEq, Repr

/-- The lines of a payload, nine bytes each; none where the bytes do not fit. -/
def parseLines : Bytes → Option (List RawLine)
  | [] => some []
  | m3 :: m2 :: m1 :: m0 :: mc :: l1 :: l0 :: w1 :: w0 :: rest =>
    (parseLines rest).map fun ls =>
      { mark := dec4 m3 m2 m1 m0, mixClass := mc, length := dec2 l1 l0, weight := dec2 w1 w0 } :: ls
  | _ => none

/-- A BED_ORDER payload whose length fits its line count (R152, step 2). -/
def parseBedOrder : Bytes → Option RawOrder
  | _ :: bed :: sched :: cls :: policy :: o1 :: o0 :: n :: rest =>
    match parseLines rest with
    | some ls =>
      if ls.length = n.toNat then
        some { bed := bed.toNat, schedule := sched.toNat, cls := cls.toNat, policy := policy.toNat
               override := dec2 o1 o0, lines := ls }
      else none
    | none => none
  | _ => none

/-- A line in range: nonzero mark, mix and class with bit 3 clear, length and weight (R5, check 2). -/
def lineOf (n : Nat) (x : RawLine) : Option OrderLine :=
  if x.mark = 0 ∨ x.mixClass.getLsbD 3 ∨ x.length = 0 ∨ Config.runwayEnd < x.length ∨ x.weight = 0 then
    none
  else
    match idx? 16 (x.mixClass.toNat / 16), idx? 8 (x.mixClass.toNat % 8) with
    | some mix, some c =>
      some { line := n, mark := x.mark, mix := mix, cls := c, length := x.length, weight := x.weight }
    | _, _ => none

/-- The lines in range, with line numbers from `n` up in request order (R6). -/
def linesOf (n : Nat) : List RawLine → Option (List OrderLine)
  | [] => some []
  | x :: rest =>
    match lineOf n x, linesOf (n + 1) rest with
    | some l, some ls => some (l :: ls)
    | _, _ => none

/-- The override of a BED_ORDER: FFFFh is absent; the outer `none` is out of range (R5, R170). -/
def overrideOf (v : Nat) : Option (Option Nat) :=
  if v = 0xFFFF then some none else if v ≤ 1200 then some (some v) else none

/-- The bed, order and lines of a BED_ORDER that passes check 2 (R5). -/
def State.bedOrderArgs (s : State) (x : RawOrder) : Option (Fin 24 × CastOrder × List OrderLine) :=
  match idx? 24 x.bed, idx? 16 x.schedule, idx? 4 x.cls, ResumePolicy.ofCode x.policy,
        overrideOf x.override, linesOf 1 x.lines with
  | some b, some sched, some c, some policy, some override, some lines =>
    if 1 ≤ lines.length ∧ lines.length ≤ 12 ∧ (s.bedEntry b).enabled
        ∧ (lines.map (·.length)).sum ≤ (s.bedEntry b).spanEnd - (s.bedEntry b).spanStart then
      some (b, { schedule := sched, heatClass := c, policy := policy, override := override }, lines)
    else none
  | _, _, _, _, _, _ => none

/-- Checks 3 to 6 of a BED_ORDER: the failing status, or the schedule entry (R5). -/
def State.bedOrderCheck (s : State) (b : Fin 24) (o : CastOrder) (lines : List OrderLine) :
    Except Status Recipe :=
  let r := s.bedRec b
  if (r.state ≠ .vacant ∧ r.state ≠ .stressed) ∨ r.order.isSome then .error .state
  else
    match s.schedule o.schedule with
    | none => .error .notFound
    | some recipe =>
      if lines.any fun l => !(s.mix l.mix).present then .error .notFound
      else if lines.any (fun l => (s.findPiece l.mark).isSome)
          ∨ !(lines.map (·.mark)).Nodup then .error .inUse
      else if Config.pieceRecords - s.piece.recs.length < lines.length then .error .full
      else .ok recipe

/-- The record of a line at its creation (R87). -/
def linePiece (b : Fin 24) (l : OrderLine) : Piece :=
  { number := 0, mark := l.mark, state := .ordered, mix := l.mix, cls := l.cls, length := l.length
    weight := l.weight, origin := some (b, l.line), castStamp := none, location := .bed b
    account := none, ready := false, flags := {} }

/-- The least maximum curing temperature of the lines' mixes (R51). -/
def State.leastMax (s : State) (lines : List OrderLine) : Option Int :=
  (lines.map fun l => (s.mix l.mix).maxTemp).min?

/-- The Tmax of a recipe was above the least maximum curing temperature (R51). -/
def State.wasClamped (s : State) (recipe : Recipe) (lines : List OrderLine) : Bool :=
  match s.leastMax lines with
  | some m => decide (m < recipe.tmax)
  | none => false

/-- A recipe with its Tmax clamped (R51). -/
def State.clampRecipe (s : State) (recipe : Recipe) (lines : List OrderLine) : Recipe :=
  match s.leastMax lines with
  | some m => { recipe with tmax := min m recipe.tmax }
  | none => recipe

/-- Steps 1 to 3 of an accepted BED_ORDER: the order and its lines, their records, the schedule copy
(R6). The records are created in ascending line number, so that an earlier line takes the lower of the
lowest free record numbers (R87): the model's choice (DESIGN CHOICE, log entry 41). -/
def writeOrder (b : Fin 24) (o : CastOrder) (lines : List OrderLine) (recipe : Recipe) (s : State) :
    State :=
  let s1 := modBedRec b (fun r => { r with order := some o, lines := lines }) s
  let s2 := lines.foldl (fun t l => createPiece (linePiece b l) t) s1
  let s3 := modThermal b (fun t => { t with recipe := s.clampRecipe recipe lines }) s2
  if s.wasClamped recipe lines then
    modBedRec b (fun r => { r with flags := { r.flags with clamped := true } }) s3
  else s3

/-- Step 4: a cast already seen is adopted (R6). -/
def adoptCast (b : Fin 24) (s : State) : State :=
  match (s.bedRec b).state, (s.bedRec b).castSeen with
  | .stressed, some stamp =>
    settle (enterBed b .curing (putOnBed b stamp
      (modBedRec b (fun r => { r with castSeen := none }) s)))
  | _, _ => s

/-- An accepted BED_ORDER and its reply (R6). -/
def acceptOrder (f : Frame) (b : Fin 24) (o : CastOrder) (lines : List OrderLine) (recipe : Recipe)
    (s : State) : State :=
  reply f qBedOrder .ok
    (encFlags [s.wasClamped recipe lines] ++ encS2 (s.clampRecipe recipe lines).tmax)
    (adoptCast b (writeOrder b o lines recipe s))

/-- BED_ORDER (R5, R6). -/
def bedOrder (f : Frame) (s : State) : State :=
  match parseBedOrder f.payload with
  | none => reply f qBedOrder .badArg [] s
  | some x =>
    if !s.mgmt.configured then reply f qBedOrder .notConfigured [] s
    else
      match s.bedOrderArgs x with
      | none => reply f qBedOrder .badArg [] s
      | some (b, o, lines) =>
        match s.bedOrderCheck b o lines with
        | .error st => reply f qBedOrder st [] s
        | .ok recipe => acceptOrder f b o lines recipe s

/-- BED_ORDER (R5, R6). -/
def execBedOrder (f : Frame) (s : State) : Out :=
  whenRunning (fun t => bedOrder f (takeIntake f t)) s

/-! ### BED_CANCEL and BED_ABANDON -/

/-- The records of a bed's lines freed, their marks out of the directory (R7, R8, R93). -/
def freeLines (b : Fin 24) (s : State) : State :=
  (s.bedRec b).lines.foldl (fun t l => erasePiece l.mark t) s

/-- A request that names a bed: BAD_ARG for a payload that does not fit or a bed above 23. -/
def forBed (f : Frame) (code : Byte) (act : Fin 24 → State → State) (s : State) : State :=
  match f.payload with
  | [_, bed] =>
    match idx? 24 bed.toNat with
    | some b => act b s
    | none => reply f code .badArg [] s
  | _ => reply f code .badArg [] s

/-- BED_CANCEL of a bed (R7). -/
def cancelBed (f : Frame) (b : Fin 24) (s : State) : State :=
  let r := s.bedRec b
  if (r.state = .vacant ∨ r.state = .stressed) ∧ r.order.isSome then
    reply f qBedCancel .ok [] (removeOrder b (freeLines b s))
  else reply f qBedCancel .state [] s

/-- BED_CANCEL (R7). -/
def execBedCancel (f : Frame) (s : State) : Out :=
  whenRunning (fun t => forBed f qBedCancel (cancelBed f) (takeIntake f t)) s

/-- BED_ABANDON of a bed (R8). -/
def abandonBed (f : Frame) (b : Fin 24) (s : State) : State :=
  let r := s.bedRec b
  if r.state = .curing ∨ r.state = .releasable then
    reply f qBedAbandon .ok []
      (settle (enterBed b .clearing (removeOrder b (freeLines b s))))
  else reply f qBedAbandon .state [] s

/-- BED_ABANDON (R8). -/
def execBedAbandon (f : Frame) (s : State) : Out :=
  whenRunning (fun t => forBed f qBedAbandon (abandonBed f) (takeIntake f t)) s

/-! ### BED_PAUSE, BED_RESUME, BED_COOL -/

/-- The status of a BED_PAUSE and the pending request after it, by the rows of its table (R57). -/
def pauseOutcome (curing : Bool) (t : Thermal) : Status × PendingPause :=
  if !curing then (.state, t.waiting)
  else if t.coolPending then (.state, t.waiting)
  else
    match t.pause, t.waiting with
    | .running, .none => (.ok, .pause)
    | _, .pause => (.ok, .pause)
    | .paused, .none => (.ok, .none)
    | .paused, .resume => (.ok, .none)
    | .running, .resume => (.ok, .resume)

/-- The status of a BED_RESUME and the pending request after it, by the rows of its table (R58). -/
def resumeOutcome (curing : Bool) (t : Thermal) : Status × PendingPause :=
  if !curing then (.state, t.waiting)
  else
    match t.pause, t.waiting with
    | _, .pause => (.ok, .none)
    | .paused, .none => (.ok, .resume)
    | .paused, .resume => (.ok, .resume)
    | .running, .none => (.ok, .none)
    | .running, .resume => (.ok, .resume)

/-- BED_PAUSE of a bed (R57). -/
def pauseBed (f : Frame) (b : Fin 24) (s : State) : State :=
  let o := pauseOutcome (s.curingBed b) (s.thermal b)
  reply f qBedPause o.1 [] (modThermal b (fun t => { t with waiting := o.2 }) s)

/-- BED_PAUSE (R57). -/
def execBedPause (f : Frame) (s : State) : Out :=
  whenRunning (fun t => forBed f qBedPause (pauseBed f) (takeIntake f t)) s

/-- BED_RESUME of a bed (R58). -/
def resumeBed (f : Frame) (b : Fin 24) (s : State) : State :=
  let o := resumeOutcome (s.curingBed b) (s.thermal b)
  reply f qBedResume o.1 [] (modThermal b (fun t => { t with waiting := o.2 }) s)

/-- BED_RESUME (R58). -/
def execBedResume (f : Frame) (s : State) : Out :=
  whenRunning (fun t => forBed f qBedResume (resumeBed f) (takeIntake f t)) s

/-- BED_COOL of a bed (R59). -/
def coolBed (f : Frame) (b : Fin 24) (s : State) : State :=
  let p := (s.thermal b).phase
  if s.curingBed b && p ≠ .cool && p ≠ .soak then
    reply f qBedCool .ok [] (modThermal b (fun t => { t with coolPending := true }) s)
  else reply f qBedCool .state [] s

/-- BED_COOL (R59). -/
def execBedCool (f : Frame) (s : State) : Out :=
  whenRunning (fun t => forBed f qBedCool (coolBed f) (takeIntake f t)) s

end Sys2Proof.Machine
end

