-- ==== Sys2Proof/Machine/Curing.lean ====
section
/-! DEFINITION. The curing minute: pending requests, the schedule's advance, the demand controller, and the
meaning of CURING_MINUTE (4.3 to 4.6). -/

namespace Sys2Proof.Machine

/-- The margin is met: 0 or more, or absent because the bed has no lines (4.5). -/
def marginMet (m : Option Int) : Bool :=
  match m with
  | some x => decide (0 ≤ x)
  | none => true

/-- Step 3: the pending requests take effect (R56). -/
def pendingEffect (t : Thermal) : Thermal :=
  if t.coolPending then
    { t with phase := .cool, coolStart := some t.target, clock := 0, rampStart := none, stall := false
             pause := .running, waiting := .none, coolPending := false }
  else
    match t.waiting with
    | .pause => { t with pause := .paused, waiting := .none }
    | .resume => { t with pause := .running, waiting := .none, prevError := none }
    | .none => t

/-- The phase clock risen by 1, saturating (4.2). -/
def tickClock (t : Thermal) : Thermal := { t with clock := satInc 65535 t.clock }

/-- A phase begins with its clock at 0. -/
def enterHold (t : Thermal) : Thermal :=
  { t with phase := .hold, clock := 0, target := t.recipe.tmax, rampStart := none, stall := false }

/-- RAMP begins from the hot temperature; it ends at once where that already reaches Tmax (R60). -/
def enterRamp (hot : Int) (t : Thermal) : Thermal :=
  if t.recipe.tmax ≤ hot then enterHold t
  else { t with phase := .ramp, clock := 0, rampStart := some hot, stall := false, target := hot }

/-- The advance of PRESET (R60). -/
def advancePreset (hot : Int) (t : Thermal) : Thermal :=
  let u := tickClock t
  if u.recipe.presetMinutes ≤ u.clock then enterRamp hot u
  else { u with target := u.recipe.presetFloor }

/-- The RAMP minute is stalled (R61). -/
def rampStalls (hot : Int) (t : Thermal) : Bool := decide (hot < t.target - t.recipe.lagLimit)

/-- The ramp's target at a clock, clamped to Tmax (R61). -/
def rampTarget (t : Thermal) (clock : Nat) : Int :=
  min t.recipe.tmax (t.rampStart.getD t.target + ((t.recipe.rampRate * clock / 60 : Nat) : Int))

/-- The advance of RAMP (R61). -/
def advanceRamp (hot : Int) (t : Thermal) : Thermal :=
  if rampStalls hot t then { t with stall := true }
  else
    let u := tickClock { t with stall := false }
    let target := rampTarget u u.clock
    if target = u.recipe.tmax then enterHold u else { u with target := target }

/-- The advance of HOLD (R63). -/
def advanceHold (t : Thermal) : Thermal :=
  let u := tickClock { t with target := t.recipe.tmax }
  if marginMet u.margin ∨ u.recipe.holdMax ≤ u.clock then
    { u with phase := .cool, coolStart := some u.recipe.tmax, clock := 0 }
  else u

/-- The target of COOL at a clock with the bed's cooling ambient (R64). -/
def coolTarget (t : Thermal) (ambient : Option Int) (clock : Nat) : Int :=
  let raw := t.coolStart.getD t.target - ((t.recipe.coolRate * clock / 60 : Nat) : Int)
  min t.recipe.tmax (max raw (ambient.getD t.recipe.presetFloor))

/-- COOL ends at this advance (R64). -/
def coolEnds (hot : Int) (ambient : Option Int) (t : Thermal) : Bool :=
  (match ambient with
   | some a => decide (hot - a ≤ t.recipe.stripDelta)
   | none => false) || decide (t.recipe.coolMax ≤ t.clock)

/-- What an advance leaves: the thermal part, and whether the bed is reported to the bed unit. -/
structure Advance where
  thermal : Thermal
  done : Bool := false
  deriving DecidableEq, Repr

/-- The advance of COOL (R64). -/
def advanceCool (hot : Int) (ambient : Option Int) (t : Thermal) : Advance :=
  let u := tickClock t
  let v := { u with target := coolTarget u ambient u.clock }
  if coolEnds hot ambient v then
    if marginMet v.margin then { thermal := v, done := true }
    else { thermal := { v with phase := .soak, clock := 0, coolStart := none } }
  else { thermal := v }

/-- The advance of SOAK (R65). -/
def advanceSoak (t : Thermal) : Advance := { thermal := tickClock t, done := marginMet t.margin }

/-- Step 4: the advance of the bed's phase (R60 to R65). -/
def advancePhase (hot : Int) (ambient : Option Int) (t : Thermal) : Advance :=
  match t.phase with
  | .preset => { thermal := advancePreset hot t }
  | .ramp => { thermal := advanceRamp hot t }
  | .hold => { thermal := advanceHold t }
  | .cool => advanceCool hot ambient t
  | .soak => advanceSoak t

/-- The bed is over its overheat limit (R69). -/
def overLimit (hot : Int) (t : Thermal) : Bool := decide (t.recipe.tmax + 50 < hot)

/-- The controller's computation (R66). -/
def controller (hot : Int) (t : Thermal) : Thermal :=
  let e := clampInt (-500) 500 (t.target - hot)
  let prev := t.prevError.getD e
  let delta := ((t.recipe.kp : Int) * (e - prev) + (t.recipe.ki : Int) * e).tdiv 64
  { t with
    demand := (clampInt 0 t.recipe.heatCap ((t.demand : Int) + delta)).toNat
    prevError := some e }

/-- Step 5 of a sighted minute (R66, R67, R69). `soak` says that the minute is a SOAK minute; the minute
that enters SOAK is still a COOL minute (R67). -/
def demandSighted (hot : Int) (soak : Bool) (t : Thermal) : Thermal :=
  if overLimit hot t then { t with demand := 0, overheat := true }
  else if soak then { t with demand := 0, overheat := false }
  else controller hot { t with overheat := false }

/-- Step 5 of a blind minute (R68). -/
def demandBlind (t : Thermal) : Thermal :=
  let n := satInc 10 t.blindCount
  if n = 10 ∧ t.blindCount ≠ 10 then { t with blindCount := n, demand := 0, withheld := true }
  else if t.phase = .soak then { t with blindCount := n, demand := 0 }
  else { t with blindCount := n }

/-- The first sighted minute ends a blind run (R68). -/
def sightThermal (t : Thermal) : Thermal :=
  { t with blindCount := 0, withheld := false
           prevError := if t.withheld then none else t.prevError }

/-- A thermal part replaced. -/
def setThermal (b : Fin 24) (t : Thermal) (s : State) : State := modThermal b (fun _ => t) s

/-- The cooling ambient of a bed (R64). -/
def State.coolingAmbient (s : State) (b : Fin 24) : Option Int :=
  match (s.bedEntry b).coolArea with
  | some a => (s.areaAmbient a).map (·.1)
  | none => s.yardAmbient

/-- The request of a bed's demand (R54, step 6; R70). -/
def State.requestOf (s : State) (b : Fin 24) : Nat :=
  (s.bedEntry b).ratedPower * (s.thermal b).demand / 1000

/-- Step 6: the request handed to the heat supply unit (R70). -/
def handDemand (b : Fin 24) (s : State) : State := handRequest b (s.requestOf b) s

/-- A blind minute of a CURING bed after step 3: no advance, the demand held or withheld (R62, R68). -/
def blindMinute (b : Fin 24) (t : Thermal) (s : State) : State :=
  let u := demandBlind t
  let s1 := setThermal b u s
  handDemand b (if u.withheld && !t.withheld then raise .heatWithheld (.bed b) 0 s1 else s1)

/-- Step 5 and 6 of a sighted minute (R69, R70). -/
def demandMinute (b : Fin 24) (hot : Int) (soak : Bool) (t : Thermal) (s : State) : State :=
  let u := demandSighted hot soak t
  let s1 := setThermal b u s
  handDemand b (if u.overheat && !t.overheat then raise .overheat (.bed b) hot s1 else s1)

/-- A bed that has passed its schedule moves to RELEASABLE (R18). -/
def releasableBed (b : Fin 24) (s : State) : State :=
  let margin := (s.thermal b).margin
  settle (raise .bedReleasable (.bed b) (margin.getD 0) (enterBed b .releasable s))

/-- Steps 4 to 6 of a sighted minute; `t` is the thermal part after step 3 and `cooled` says that step 3
entered COOL (R54, R56, R62). -/
def sightedMinute (b : Fin 24) (hot : Int) (cooled : Bool) (t : Thermal) (s : State) : State :=
  let t1 := sightThermal t
  let soak : Bool := t1.phase = .soak
  if t1.pause = .paused ∨ cooled then demandMinute b hot soak t1 s
  else
    let a := advancePhase hot (s.coolingAmbient b) t1
    let s1 := setThermal b a.thermal s
    if a.done then releasableBed b s1
    else
      demandMinute b hot soak a.thermal
        (if a.thermal.stall && !t1.stall then raise .rampStalled (.bed b) hot s1 else s1)

/-- The treatment of a bed in CURING (R54). -/
def treatCuring (b : Fin 24) (s : State) : State :=
  let s1 := accrueBed b s
  let t := pendingEffect (s1.thermal b)
  let cooled := (s1.thermal b).coolPending
  match s.hotTemp b with
  | none => blindMinute b t s1
  | some hot => sightedMinute b hot cooled t s1

/-- One bed at a curing minute (R53, R54, R55). -/
def treatBed (b : Fin 24) (s : State) : State :=
  match (s.bedRec b).state with
  | .curing => treatCuring b s
  | .releasable => accrueBed b s
  | .releasing => accrueBed b s
  | .stripping => accrueBed b s
  | .vacant => s
  | .stressed => s
  | .clearing => s

/-- CURING_MINUTE (R53 to R70). -/
def execCuringMinute (s : State) : Out := whenRunning (forEach treatBed) s

end Sys2Proof.Machine
end

