-- ==== Sys2Proof/Machine/Pieces.lean ====
section
/-! DEFINITION. The piece-unit minute and the management requests on pieces: the meanings of PIECE_MINUTE,
PIECE_DECLARE, PIECE_SET_MATURITY and PIECE_DROP (6.8, 6.9). -/

namespace Sys2Proof.Machine

/-! ### The piece-unit minute -/

/-- The ambient of the area that holds a location's slot; absent elsewhere (R95, step 1). -/
def State.locationAmbient (s : State) (l : Location) : Option (Int × AmbientSource) :=
  match l with
  | .slot n _ => (s.areaOf n.val).bind s.areaAmbient
  | _ => none

/-- One accrual step of a piece's own account at its own mix's datum, with the estimate recomputed (R95,
steps 2 and 3; R39, R48). -/
def State.agedAccount (s : State) (mix : Fin 16) (temp : Int) (a : Account) : Account :=
  let x := accrue temp (s.mix mix).datumOf a.maturity a.remainder
  s.accountAt mix x.1 x.2

/-- The account of a record after a piece-unit minute (R95, steps 1 to 3; R36). -/
def State.minuteAccount (s : State) (p : Piece) : Option Account :=
  match s.locationAmbient p.location with
  | some (temp, _) => p.account.map (s.agedAccount p.mix temp)
  | none => p.account.map fun a => s.accountAt p.mix a.maturity a.remainder

/-- The account of a mark's record replaced. -/
def setAccount (m : Nat) (a : Option Account) (s : State) : State :=
  modPiece m (fun p => { p with account := a }) s

/-- One record at a piece-unit minute: treated where it is IN_STOCK (R95). -/
def pieceMinute (m : Nat) (s : State) : State :=
  match s.findPiece m with
  | some p => if p.state = .inStock then refreshReady m (setAccount m (s.minuteAccount p) s) else s
  | none => s

/-- PIECE_MINUTE: every record in use, in rising record number (R95). -/
def execPieceMinute (s : State) : Out :=
  whenRunning (fun t => (t.piece.recs.map (·.mark)).foldl (fun u m => pieceMinute m u) t) s

/-! ### PIECE_DECLARE -/

/-- The reply to a declaration that fails the placement check (R96, check 5). -/
def declareRefusal (f : Frame) (code : RefusalCode) (s : State) : State :=
  reply f qPieceDeclare (if code = .stackFull then .full else .badArg) [code.code] s

/-- A declaration that passes: the record pushed onto the slot's stack, the opportunity taken, the level
replied in one byte (R96; log entry 21). -/
def acceptDeclare (f : Frame) (m : Nat) (n : Fin 1024) (s : State) : State :=
  let level := (s.slot n).stack.length + 1
  reply f qPieceDeclare .ok (enc1 level) (settle (pushPiece n m s))

/-- Checks 3 to 5 of a declaration (R96). -/
def declareAt (f : Frame) (m : Nat) (n : Fin 1024) (s : State) : State :=
  match s.findPiece m with
  | none => reply f qPieceDeclare .notFound [] s
  | some p =>
    if p.state ≠ .atLarge then reply f qPieceDeclare .state [] s
    else
      match s.placementCheck p.cls n with
      | some code => declareRefusal f code s
      | none => acceptDeclare f m n s

/-- PIECE_DECLARE (R96). -/
def pieceDeclare (f : Frame) (s : State) : State :=
  match f.payload with
  | [_, m3, m2, m1, m0, s1, s0] =>
    if !s.mgmt.configured then reply f qPieceDeclare .notConfigured [] s
    else if dec4 m3 m2 m1 m0 = 0 then reply f qPieceDeclare .badArg [] s
    else
      match idx? 1024 (dec2 s1 s0) with
      | none => reply f qPieceDeclare .badArg [] s
      | some n => declareAt f (dec4 m3 m2 m1 m0) n s
  | _ => reply f qPieceDeclare .badArg [] s

/-- PIECE_DECLARE (R96). -/
def execPieceDeclare (f : Frame) (s : State) : Out :=
  whenRunning (fun t => pieceDeclare f (takeIntake f t)) s

/-! ### PIECE_SET_MATURITY -/

/-- The record with a maturity set by the plant: UNRATED cleared (R97). -/
def State.rated (s : State) (v : Nat) (p : Piece) : Piece :=
  { p with account := some (s.accountAt p.mix v 0), flags := { p.flags with unrated := false } }

/-- A maturity set on an UNRATED record, its new estimate replied (R97). -/
def acceptMaturity (f : Frame) (m v : Nat) (p : Piece) (s : State) : State :=
  reply f qPieceSetMaturity .ok (enc2 ((s.mix p.mix).estimate v))
    (refreshReady m (modPiece m (s.rated v) s))

/-- PIECE_SET_MATURITY (R97; 6.9 for a mark of 0). -/
def pieceSetMaturity (f : Frame) (s : State) : State :=
  match f.payload with
  | [_, m3, m2, m1, m0, v3, v2, v1, v0] =>
    if dec4 m3 m2 m1 m0 = 0 ∨ Config.maxMaturity < dec4 v3 v2 v1 v0 then
      reply f qPieceSetMaturity .badArg [] s
    else
      match s.findPiece (dec4 m3 m2 m1 m0) with
      | none => reply f qPieceSetMaturity .notFound [] s
      | some p =>
        if p.flags.unrated then acceptMaturity f (dec4 m3 m2 m1 m0) (dec4 v3 v2 v1 v0) p s
        else reply f qPieceSetMaturity .state [] s
  | _ => reply f qPieceSetMaturity .badArg [] s

/-- PIECE_SET_MATURITY (R97). -/
def execPieceSetMaturity (f : Frame) (s : State) : Out :=
  whenRunning (fun t => pieceSetMaturity f (takeIntake f t)) s

/-! ### PIECE_DROP -/

/-- A piece is the subject of an admitted or active order: the piece it names or is bound to, or the hook
piece of the crane that has it (R98). -/
def State.pieceBusy (s : State) (m : Nat) : Bool :=
  s.namedLive m ||
    (indexes 4).any fun k => (s.crane k).current.isSome && (s.crane k).hook = some m

/-- A piece taken from its holder (R98). -/
def detachPiece (p : Piece) (s : State) : State :=
  match p.location with
  | .bed b => removeLine b p.mark s
  | .slot n _ => unstack n p.mark s
  | .crane c => setHook c none s
  | .none => s

/-- A drop that passes: the holder changed, the record freed, the opportunity taken (R98). -/
def dropPiece (p : Piece) (s : State) : State := settle (erasePiece p.mark (detachPiece p s))

/-- PIECE_DROP (R98; 6.9 for a mark of 0). -/
def pieceDrop (f : Frame) (s : State) : State :=
  match f.payload with
  | [_, m3, m2, m1, m0] =>
    if dec4 m3 m2 m1 m0 = 0 then reply f qPieceDrop .badArg [] s
    else
      match s.findPiece (dec4 m3 m2 m1 m0) with
      | none => reply f qPieceDrop .notFound [] s
      | some p =>
        if s.pieceBusy p.mark then reply f qPieceDrop .busy [] s
        else reply f qPieceDrop .ok [] (dropPiece p s)
  | _ => reply f qPieceDrop .badArg [] s

/-- PIECE_DROP (R98). -/
def execPieceDrop (f : Frame) (s : State) : Out :=
  whenRunning (fun t => pieceDrop f (takeIntake f t)) s

end Sys2Proof.Machine
end

