-- ==== Sys2Proof/Machine/Operands.lean ====
section
/-! DEFINITION. The operand forms of the table requests: how an entry of each table stands in a payload,
written and read (12.2, 12.4, R153; log entries 21 to 24). -/

namespace Sys2Proof.Machine

/-! ### Requests that name a table -/

/-- The index and entry bytes of a TABLE_WRITE of a table (R153, 12.4); none where the payload names
another table or is too short. -/
def writeArgs (table : Byte) : Bytes → Option (Nat × Bytes)
  | _ :: t :: index :: entry => if t = table then some (index.toNat, entry) else none
  | _ => none

/-- The index, in range, and the parsed entry of a TABLE_WRITE; none is BAD_ARG (R152, R153). -/
def writeOperands {α : Type} (table : Byte) (n : Nat) (parse : Bytes → Option α) (payload : Bytes) :
    Option (Fin n × α) :=
  match writeArgs table payload with
  | some (index, entry) =>
    match idx? n index, parse entry with
    | some i, some e => some (i, e)
    | _, _ => none
  | none => none

/-! ### Field forms -/

/-- An optional station: 0 when absent (R170). -/
def optStation (b : Byte) : Option Station := if b = 0#8 then none else some b

/-- A one-byte index below `n`, FFh when absent; the outer `none` is out of range (R170). -/
def optIdx? (n : Nat) (b : Byte) : Option (Option (Fin n)) :=
  if b = 0xFF#8 then some none else (idx? n b.toNat).map some

/-! ### BED -/

/-- A bed table entry in a payload, each field in range; stations absent do not fit (R1). -/
def parseBedEntry : Bytes → Option BedEntry
  | [s1, s0, e1, e0, panel, heater, channel, r1, r0, cool, enabled] =>
    match idx? 8 channel.toNat, optIdx? 16 cool, bool? enabled with
    | some ch, some area, some en =>
      if dec2 s1 s0 ≤ Config.runwayEnd ∧ dec2 e1 e0 ≤ Config.runwayEnd ∧ validStation panel
          ∧ validStation heater ∧ 1 ≤ dec2 r1 r0 ∧ dec2 r1 r0 ≤ 2000 then
        some { spanStart := dec2 s1 s0, spanEnd := dec2 e1 e0, panel := some panel
               heater := some heater, channel := ch, ratedPower := dec2 r1 r0, coolArea := area
               enabled := en }
      else none
    | _, _, _ => none
  | _ => none

/-- A bed table entry as TABLE_READ and READ_BED send it (R1, R19). -/
def encBedEntry (e : BedEntry) : Bytes :=
  enc2 e.spanStart ++ enc2 e.spanEnd ++ encStation e.panel ++ encStation e.heater
    ++ enc1 e.channel.val ++ enc2 e.ratedPower ++ encOpt1 (e.coolArea.map (·.val))
    ++ encFlags [e.enabled]

/-! ### PROBE_MAP -/

/-- The bed, bed slot and area of a probe map entry fit its role (R22, check 1). -/
def roleFits (role : ProbeRole) (bed slot area : Nat) : Bool :=
  match role with
  | .bed => decide (bed < 24 ∧ slot < 4)
  | .area => decide (area < 16)
  | .yard => true

/-- A probe map entry in a payload, each field in range (R22, check 1); the bed slot in one byte (DEDUCED,
log entry 21). -/
def parseProbeEntry : Bytes → Option ProbeEntry
  | [station, channel, role, bed, slot, area, enabled] =>
    match idx? 8 channel.toNat, ProbeRole.ofCode role.toNat, bool? enabled with
    | some ch, some r, some en =>
      if validStation station && roleFits r bed.toNat slot.toNat area.toNat then
        some { station := station, channel := ch, role := r, bed := bed.toNat
               bedSlot := slot.toNat, area := area.toNat, enabled := en }
      else none
    | _, _, _ => none
  | _ => none

/-- A probe map entry with its probe record as TABLE_READ sends them, the bed slot in one byte (R23;
DEDUCED, log entry 21). -/
def encProbe (e : ProbeEntry) (r : ProbeRec) : Bytes :=
  [e.station] ++ enc1 e.channel.val ++ enc1 e.role.code ++ enc1 e.bed ++ enc1 e.bedSlot
    ++ enc1 e.area ++ encFlags [e.enabled]
    ++ encOptS2 r.value ++ enc2 r.age ++ enc1 r.jumps ++ encFlags [r.forced] ++ enc1 r.state.code

/-! ### MIX -/

/-- The curve points of a mix, six bytes each; none where the bytes do not fit. -/
def parsePoints : Nat → Bytes → Option (List (Nat × Nat) × Bytes)
  | 0, rest => some ([], rest)
  | n + 1, m3 :: m2 :: m1 :: m0 :: s1 :: s0 :: rest =>
    match parsePoints n rest with
    | some (ps, tail) => some ((dec4 m3 m2 m1 m0, dec2 s1 s0) :: ps, tail)
    | none => none
  | _ + 1, _ => none

/-- A point in range (R40, check 1). -/
def pointInRange (p : Nat × Nat) : Bool :=
  decide (1 ≤ p.1 ∧ p.1 ≤ Config.maxMaturity ∧ p.2 ≤ 1200)

/-- A present mix with each field in range (R40, check 1). -/
def mixInRange (x : Mix) : Bool :=
  decide (-150 ≤ x.datum ∧ x.datum ≤ 50 ∧ 2 ≤ x.points.length ∧ x.points.length ≤ 8
    ∧ x.release ≤ 1200 ∧ x.dispatch ≤ 1200 ∧ 300 ≤ x.maxTemp ∧ x.maxTemp ≤ 800)
  && x.points.all pointInRange

/-- A mix entry in a payload, which has the length of its layout in any case: an absent entry needs no
valid fields and is held cleared (R40, R170; DEDUCED, log entry 24). -/
def parseMix : Bytes → Option Mix
  | present :: d1 :: d0 :: n :: more =>
    match parsePoints n.toNat more with
    | some (ps, [r1, r0, p1, p0, t1, t0]) =>
      let x : Mix :=
        { present := true, datum := decS2 d1 d0, points := ps, release := dec2 r1 r0
          dispatch := dec2 p1 p0, maxTemp := decS2 t1 t0 }
      if present = 0#8 then some {}
      else if present = 1#8 ∧ mixInRange x = true then some x
      else none
    | _ => none
  | _ => none

/-- A mix entry as TABLE_READ sends it (R41). -/
def encMix (x : Mix) : Bytes :=
  if x.present then
    encFlags [true] ++ encS2 x.datum ++ enc1 x.points.length
      ++ x.points.flatMap (fun p => enc4 p.1 ++ enc2 p.2)
      ++ enc2 x.release ++ enc2 x.dispatch ++ encS2 x.maxTemp
  else encFlags [false]

/-! ### SCHEDULE -/

/-- A recipe with each field in its range (R50, check 2). -/
def recipeInRange (r : Recipe) : Bool :=
  decide (r.presetMinutes ≤ 600 ∧ 0 ≤ r.presetFloor ∧ r.presetFloor ≤ 300
    ∧ 10 ≤ r.rampRate ∧ r.rampRate ≤ 300 ∧ 300 ≤ r.tmax ∧ r.tmax ≤ 800
    ∧ 30 ≤ r.holdMax ∧ r.holdMax ≤ 2880 ∧ 10 ≤ r.coolRate ∧ r.coolRate ≤ 300
    ∧ 0 ≤ r.stripDelta ∧ r.stripDelta ≤ 300 ∧ 30 ≤ r.coolMax ∧ r.coolMax ≤ 1440
    ∧ 10 ≤ r.lagLimit ∧ r.lagLimit ≤ 200 ∧ r.kp ≤ 255 ∧ r.ki ≤ 255 ∧ r.heatCap ≤ 1000)

/-- A schedule entry in a payload, which has the length of its layout in any case: an absent entry needs no
valid fields (R50, R170; DEDUCED, log entry 24). -/
def parseSchedule : Bytes → Option Schedule
  | [present, a1, a0, b1, b0, c1, c0, d1, d0, e1, e0, f1, f0, g1, g0, h1, h0, i1, i0, kp, ki, j1, j0] =>
    let r : Recipe :=
      { presetMinutes := dec2 a1 a0, presetFloor := decS2 b1 b0, rampRate := dec2 c1 c0
        tmax := decS2 d1 d0, holdMax := dec2 e1 e0, coolRate := dec2 f1 f0
        stripDelta := decS2 g1 g0, coolMax := dec2 h1 h0, lagLimit := decS2 i1 i0
        kp := kp.toNat, ki := ki.toNat, heatCap := dec2 j1 j0 }
    if present = 0#8 then some none
    else if present = 1#8 ∧ recipeInRange r = true then some (some r)
    else none
  | _ => none

/-- The fields of a recipe as they are sent (R50, 4.1). -/
def encRecipe (r : Recipe) : Bytes :=
  enc2 r.presetMinutes ++ encS2 r.presetFloor ++ enc2 r.rampRate ++ encS2 r.tmax ++ enc2 r.holdMax
    ++ enc2 r.coolRate ++ encS2 r.stripDelta ++ enc2 r.coolMax ++ encS2 r.lagLimit ++ enc1 r.kp
    ++ enc1 r.ki ++ enc2 r.heatCap

/-- A schedule entry as TABLE_READ sends it (R50). -/
def encSchedule : Schedule → Bytes
  | some r => encFlags [true] ++ encRecipe r
  | none => encFlags [false]

/-! ### AREA and SERVICE -/

/-- The written fields of an area (7.1). -/
structure AreaFields where
  firstSlot : Nat
  count : Nat
  base : Nat
  pitch : Nat
  heightLimit : Nat
  classes : BitVec 8
  dispatchOnly : Bool
  deriving DecidableEq, Repr

/-- The fields of an area are in range, and its last slot lies on the runway (R103, check 1). -/
def areaInRange (x : AreaFields) : Bool :=
  decide (x.firstSlot ≤ 1023 ∧ x.firstSlot + x.count ≤ 1024 ∧ x.base ≤ Config.runwayEnd
    ∧ 1 ≤ x.pitch ∧ x.pitch ≤ 200 ∧ 1 ≤ x.heightLimit ∧ x.heightLimit ≤ 8
    ∧ (0 < x.count → x.base + (x.count - 1) * x.pitch ≤ Config.runwayEnd))

/-- An area entry in a payload (R103, check 1); bit n of the class byte is class n (log entry 38). -/
def parseArea : Bytes → Option AreaFields
  | [f1, f0, c1, c0, b1, b0, p1, p0, height, classes, only] =>
    match bool? only with
    | some d =>
      let x : AreaFields :=
        { firstSlot := dec2 f1 f0, count := dec2 c1 c0, base := dec2 b1 b0, pitch := dec2 p1 p0
          heightLimit := height.toNat, classes := classes, dispatchOnly := d }
      if areaInRange x then some x else none
    | none => none
  | _ => none

/-- The census state of an area (12.4). -/
def censusCode (b : Bool) : Nat := if b then 1 else 0

/-- The state of a service group (12.4). -/
def serviceCode (inService : Bool) : Nat := if inService then 0 else 1

/-- An area entry as TABLE_READ sends it, with its census state and counts and the pieces and claims of
its slots (R103); these two totals in two bytes each (DEDUCED, log entry 21). -/
def encArea (a : Area) (pieces claims : Nat) : Bytes :=
  enc2 a.firstSlot ++ enc2 a.count ++ enc2 a.base ++ enc2 a.pitch ++ enc1 a.heightLimit
    ++ [a.classes] ++ encFlags [a.dispatchOnly] ++ enc1 (censusCode a.inCensus)
    ++ enc2 a.confirmed ++ enc2 a.relocated ++ enc2 a.created ++ enc2 a.failed
    ++ enc2 pieces ++ enc2 claims

/-- A service state in a payload: whether the group is in service (R106, 12.4). -/
def parseService : Bytes → Option Bool
  | [b] => (bool? b).map fun out => !out
  | _ => none

/-! ### CRANE, REGION and BAY -/

/-- A station absent or valid. -/
def stationInRange : Option Station → Bool
  | some s => validStation s
  | none => true

/-- A crane entry in a payload, the clearance in two bytes (log entry 21) and in range where the station
is present (R119, check 1). -/
def parseCraneEntry : Bytes → Option CraneEntry
  | [station, hook, c1, c0] =>
    let e : CraneEntry :=
      { station := optStation station, hookReader := optStation hook, clearance := dec2 c1 c0 }
    if stationInRange e.station && stationInRange e.hookReader
        && (e.station.isNone || decide (10 ≤ e.clearance ∧ e.clearance ≤ 200)) then some e
    else none
  | _ => none

/-- A crane entry as it is sent (R119, R137). -/
def encCraneEntry (e : CraneEntry) : Bytes :=
  encStation e.station ++ encStation e.hookReader ++ enc2 e.clearance

/-- A region entry in a payload, in range (R119). -/
def parseRegion : Bytes → Option Region
  | [s1, s0, e1, e0, kind, enabled] =>
    match RegionKind.ofCode kind.toNat, bool? enabled with
    | some k, some en =>
      if dec2 s1 s0 ≤ dec2 e1 e0 ∧ dec2 e1 e0 ≤ Config.runwayEnd then
        some { start := dec2 s1 s0, stop := dec2 e1 e0, kind := k, enabled := en }
      else none
    | _, _ => none
  | _ => none

/-- A region entry as it is sent. -/
def encRegion (r : Region) : Bytes :=
  enc2 r.start ++ enc2 r.stop ++ enc1 r.kind.code ++ encFlags [r.enabled]

/-- A bay entry in a payload: a position, or FFFFh for absent (R119, R170). -/
def parseBay : Bytes → Option (Option Nat)
  | [p1, p0] =>
    if dec2 p1 p0 = 0xFFFF then some none
    else if dec2 p1 p0 ≤ Config.runwayEnd then some (some (dec2 p1 p0)) else none
  | _ => none

/-! ### PARAMETER -/

/-- The six part parameters (R154). -/
inductive Parameter where
  | permitWindow | staleLimit | startWindow | waitLimit | faultLimit (q : Port)
  deriving DecidableEq, Repr

/-- The parameter of an index (R154). -/
def Parameter.ofIndex : Fin 6 → Parameter
  | 0 => .permitWindow | 1 => .staleLimit | 2 => .startWindow | 3 => .waitLimit
  | 4 => .faultLimit .pPort | 5 => .faultLimit .fPort

/-- The range of a parameter (R154). -/
def Parameter.inRange (p : Parameter) (v : Nat) : Bool :=
  match p with
  | .permitWindow => decide (1 ≤ v ∧ v ≤ 60)
  | .staleLimit => decide (1 ≤ v ∧ v ≤ 15)
  | .startWindow => decide (5 ≤ v ∧ v ≤ 120)
  | .waitLimit => decide (v ≤ 600)
  | .faultLimit _ => decide (1 ≤ v ∧ v ≤ 8)

/-- A parameter's value is sent in one byte: permit minutes and fault limits (R170; log entry 21). -/
def Parameter.oneByte : Parameter → Bool
  | .permitWindow => true
  | .faultLimit _ => true
  | .staleLimit => false
  | .startWindow => false
  | .waitLimit => false

/-- A parameter's value in a payload, in its width and range (R154). -/
def parseParameter (p : Parameter) (entry : Bytes) : Option Nat :=
  match entry with
  | [b] => if p.oneByte && p.inRange b.toNat then some b.toNat else none
  | [b1, b0] => if !p.oneByte && p.inRange (dec2 b1 b0) then some (dec2 b1 b0) else none
  | _ => none

/-- A parameter's value as it is sent. -/
def encParameter (p : Parameter) (v : Nat) : Bytes := if p.oneByte then enc1 v else enc2 v

/-- The value of a parameter held (R154). -/
def State.parameter (s : State) : Parameter → Nat
  | .permitWindow => s.bed.permitWindow
  | .staleLimit => s.probe.staleLimit
  | .startWindow => s.runway.startWindow
  | .waitLimit => s.runway.waitLimit
  | .faultLimit q => (s.port q).faultLimit

/-- A parameter written (R154). -/
def setParameter (p : Parameter) (v : Nat) (s : State) : State :=
  match p with
  | .permitWindow => { s with bed := { s.bed with permitWindow := v } }
  | .staleLimit => { s with probe := { s.probe with staleLimit := v } }
  | .startWindow => { s with runway := { s.runway with startWindow := v } }
  | .waitLimit => { s with runway := { s.runway with waitLimit := v } }
  | .faultLimit q => modPort q (fun u => { u with faultLimit := v }) s

end Sys2Proof.Machine
end

