-- ==== Sys2Proof/Machine/Tables.lean ====
section
/-! DEFINITION. The tables: the checks and effects of TABLE_WRITE to each of the ten tables, and TABLE_READ
(R1, R22, R23, R40, R50, R103, R106, R119, R153, R154). -/

namespace Sys2Proof.Machine

/-- A TABLE_WRITE: BAD_ARG where the payload does not fit the table, else the table's own check, whose
failing status is replied, else the write and OK (R152, R153). -/
def tableWrite {α : Type} {n : Nat} (f : Frame) (table : Byte) (parse : Bytes → Option α)
    (check : Fin n → α → Option Status) (write : Fin n → α → State → State) (s : State) : State :=
  match writeOperands table n parse f.payload with
  | none => reply f qTableWrite .badArg [] s
  | some (i, e) =>
    match check i e with
    | some st => reply f qTableWrite st [] s
    | none => reply f qTableWrite .ok [] (write i e s)

/-! ### BED (R1) -/

/-- The span of a bed table entry. -/
def BedEntry.span (e : BedEntry) : Interval := { lo := e.spanStart, hi := e.spanEnd }

/-- An enabled entry's span overlaps that of another enabled entry (R1, check 1). -/
def State.spanClash (s : State) (b : Fin 24) (e : BedEntry) : Bool :=
  e.enabled && (indexes 24).any fun k =>
    k ≠ b && (s.bedEntry k).enabled && e.span.overlaps (s.bedEntry k).span

/-- The checks of a bed entry beside its field ranges (R1). -/
def State.bedWriteCheck (s : State) (b : Fin 24) (e : BedEntry) : Option Status :=
  let old := s.bedEntry b
  if e.panel = some s.station ∨ e.heater = some s.station ∨ e.spanEnd ≤ e.spanStart
      ∨ s.spanClash b e then some .badArg
  else if (s.bedRec b).state ≠ .vacant ∨ (s.bedRec b).order.isSome then some .inUse
  else if (e.spanStart ≠ old.spanStart ∨ e.spanEnd ≠ old.spanEnd ∨ e.enabled ≠ old.enabled)
      ∧ !s.yardQuiet then some .busy
  else none

/-- A bed entry written; a STOPPING heater becomes IDLE (R1, R76). -/
def writeBed (b : Fin 24) (e : BedEntry) (s : State) : State := idleHeat b (setBedEntry b e s)

/-- TABLE_WRITE_BED (R1). -/
def execTableWriteBed (f : Frame) (s : State) : Out :=
  whenRunning (fun t =>
    tableWrite f tBed parseBedEntry t.bedWriteCheck writeBed (takeIntake f t)) s

/-! ### PROBE_MAP (R22, R23) -/

/-- Another enabled entry has the same station and channel (R22, check 2). -/
def State.channelClash (s : State) (i : Fin 128) (e : ProbeEntry) : Bool :=
  (indexes 128).any fun k =>
    k ≠ i && (s.probeEntry k).enabled && (s.probeEntry k).station = e.station
      && (s.probeEntry k).channel = e.channel

/-- Two entries stand for the same bed slot, the same area, or the yard (R22, check 3). -/
def sameRole (a b : ProbeEntry) : Bool :=
  a.role = b.role &&
    (match a.role with
     | .bed => a.bed = b.bed && a.bedSlot = b.bedSlot
     | .area => a.area = b.area
     | .yard => true)

/-- Another enabled entry has the same role for the same place (R22, check 3). -/
def State.roleClash (s : State) (i : Fin 128) (e : ProbeEntry) : Bool :=
  (indexes 128).any fun k => k ≠ i && (s.probeEntry k).enabled && sameRole e (s.probeEntry k)

/-- The checks of a probe map entry beside its field ranges (R22). -/
def State.probeWriteCheck (s : State) (i : Fin 128) (e : ProbeEntry) : Option Status :=
  if e.station = s.station then some .badArg
  else if e.enabled && (s.channelClash i e || s.roleClash i e) then some .badArg
  else none

/-- A probe map entry written: its record cleared, the survey set, and its former bed treated where the
write made it blind (R23, R28, R31). -/
def writeProbe (i : Fin 128) (e : ProbeEntry) (s : State) : State :=
  let old := s.probeEntry i
  let t := setSurvey true (modProbe i (fun _ => {}) (setProbeEntry i e s))
  match old.role, idx? 24 old.bed with
  | .bed, some b => raiseIfBlinded s b t
  | _, _ => t

/-- TABLE_WRITE_PROBE_MAP (R22, R23). -/
def execTableWriteProbeMap (f : Frame) (s : State) : Out :=
  whenRunning (fun t =>
    tableWrite f tProbeMap parseProbeEntry t.probeWriteCheck writeProbe (takeIntake f t)) s

/-! ### MIX and SCHEDULE (R40, R50) -/

/-- The maturities of a curve rise strictly and its strengths do not fall (R40, check 2). -/
def curveRises : List (Nat × Nat) → Bool
  | [] => true
  | [_] => true
  | a :: b :: rest => decide (a.1 < b.1 ∧ a.2 ≤ b.2) && curveRises (b :: rest)

/-- The last strength of a curve. -/
def lastStrength (l : List (Nat × Nat)) : Nat :=
  match l.getLast? with
  | some p => p.2
  | none => 0

/-- The checks of a mix entry beside its field ranges (R40). -/
def State.mixWriteCheck (s : State) (i : Fin 16) (x : Mix) : Option Status :=
  if x.present && !(curveRises x.points
      && decide (x.release ≤ lastStrength x.points ∧ x.dispatch ≤ lastStrength x.points)) then
    some .badArg
  else if s.piece.recs.any fun p => p.mix = i then some .inUse
  else none

/-- TABLE_WRITE_MIX (R40). -/
def execTableWriteMix (f : Frame) (s : State) : Out :=
  whenRunning (fun t => tableWrite f tMix parseMix t.mixWriteCheck setMix (takeIntake f t)) s

/-- TABLE_WRITE_SCHEDULE (R50). -/
def execTableWriteSchedule (f : Frame) (s : State) : Out :=
  whenRunning (fun t =>
    tableWrite (n := 16) f tSchedule parseSchedule (fun _ _ => none) setSchedule (takeIntake f t)) s

/-! ### AREA and SERVICE (R103, R106) -/

/-- The slots of an area as it is held. -/
def State.slotsOf (s : State) (a : Fin 16) : List Slot :=
  ((s.stock.slots.toList).drop (s.area a).firstSlot).take (s.area a).count

/-- Two runs of slots share a slot (R103, check 2). -/
def runsMeet (f1 n1 f2 n2 : Nat) : Bool := decide (0 < n1 ∧ 0 < n2 ∧ f1 < f2 + n2 ∧ f2 < f1 + n1)

/-- The new range meets another area's (R103, check 2). -/
def State.areaClash (s : State) (a : Fin 16) (x : AreaFields) : Bool :=
  (indexes 16).any fun k =>
    k ≠ a && runsMeet x.firstSlot x.count (s.area k).firstSlot (s.area k).count

/-- A write changes an area's geometry (R103, checks 4 and 5). -/
def movesArea (old : Area) (x : AreaFields) : Bool :=
  decide (x.firstSlot ≠ old.firstSlot ∨ x.count ≠ old.count ∨ x.base ≠ old.base ∨ x.pitch ≠ old.pitch)

/-- The checks of an area entry beside its field ranges (R103). -/
def State.areaWriteCheck (s : State) (a : Fin 16) (x : AreaFields) : Option Status :=
  if s.areaClash a x then some .badArg
  else if (s.slotsOf a).any fun k => decide (x.heightLimit < k.load) then some .badArg
  else if movesArea (s.area a) x && (s.slotsOf a).any fun k => decide (0 < k.load) then some .inUse
  else if movesArea (s.area a) x && !s.yardQuiet then some .busy
  else none

/-- An area's written fields replaced, its census state and counts kept; an admission opportunity
(R103). -/
def writeArea (a : Fin 16) (x : AreaFields) (s : State) : State :=
  settle (noteOpportunity (modArea a (fun old =>
    { old with firstSlot := x.firstSlot, count := x.count, base := x.base, pitch := x.pitch
               heightLimit := x.heightLimit, classes := x.classes
               dispatchOnly := x.dispatchOnly }) s))

/-- TABLE_WRITE_AREA (R103). -/
def execTableWriteArea (f : Frame) (s : State) : Out :=
  whenRunning (fun t =>
    tableWrite f tArea parseArea t.areaWriteCheck writeArea (takeIntake f t)) s

/-- A service group written; a change is an admission opportunity (R106). -/
def writeService (g : Fin 128) (b : Bool) (s : State) : State :=
  let t := setService g b s
  if b = s.inService g then t else settle (noteOpportunity t)

/-- TABLE_WRITE_SERVICE (R106). -/
def execTableWriteService (f : Frame) (s : State) : Out :=
  whenRunning (fun t =>
    tableWrite (n := 128) f tService parseService (fun _ _ => none) writeService (takeIntake f t)) s

/-! ### CRANE, REGION and BAY (R118, R119) -/

/-- A station is one of a crane's two, the crane being in use (R119, check 2). -/
def ofCraneInUse (e : CraneEntry) (st : Station) : Bool :=
  e.station.isSome && (e.station = some st || e.hookReader = some st)

/-- A station of an entry is that of another crane in use, or its two stations are one (R119,
check 2). -/
def State.craneClash (s : State) (c : Fin 4) (e : CraneEntry) : Bool :=
  let stations := e.station.toList ++ e.hookReader.toList
  (indexes 4).any (fun k => k ≠ c && stations.any (ofCraneInUse (s.craneEntry k)))
    || (e.station.isSome && e.station = e.hookReader)

/-- The checks of a crane entry beside its field ranges (R119). -/
def State.craneWriteCheck (s : State) (c : Fin 4) (e : CraneEntry) : Option Status :=
  if e.station = some s.station ∨ e.hookReader = some s.station ∨ s.craneClash c e then some .badArg
  else if (s.crane c).hook.isSome then some .inUse
  else if !s.yardQuiet then some .busy
  else none

/-- The state of a crane whose entry is written (R119, R120). -/
def forgetCrane (k : Crane) : Crane :=
  { k with presence := .unknown, silence := 0, position := none, envelope := none
           control := .free, lastHalt := none }

/-- A crane entry written (R119). -/
def writeCrane (c : Fin 4) (e : CraneEntry) (s : State) : State :=
  modCrane c forgetCrane (setCraneEntry c e s)

/-- TABLE_WRITE_CRANE (R119). -/
def execTableWriteCrane (f : Frame) (s : State) : Out :=
  whenRunning (fun t =>
    tableWrite f tCrane parseCraneEntry t.craneWriteCheck writeCrane (takeIntake f t)) s

/-- A region or bay entry is written only while the yard is quiet (R118, R119). -/
def State.quietCheck (s : State) : Option Status := if s.yardQuiet then none else some .busy

/-- TABLE_WRITE_REGION (R119). -/
def execTableWriteRegion (f : Frame) (s : State) : Out :=
  whenRunning (fun t =>
    tableWrite (n := 8) f tRegion parseRegion (fun _ _ => t.quietCheck) setRegion (takeIntake f t)) s

/-- TABLE_WRITE_BAY (R119). -/
def execTableWriteBay (f : Frame) (s : State) : Out :=
  whenRunning (fun t =>
    tableWrite (n := 4) f tBay parseBay (fun _ _ => t.quietCheck) setBay (takeIntake f t)) s

/-! ### PARAMETER (R154) -/

/-- A lowered fault limit compared with the port's count at the write (R141). -/
def compareLimit (p : Parameter) (old : Nat) (s : State) : State :=
  match p with
  | .faultLimit q =>
    let n := (s.port q).consecutive
    if n < old ∧ (s.port q).faultLimit ≤ n then raise .lineFault (.port q) n s else s
  | _ => s

/-- A parameter written at once (R154). -/
def writeParameter (p : Parameter) (v : Nat) (s : State) : State :=
  compareLimit p (s.parameter p) (setParameter p v s)

/-- TABLE_WRITE of a parameter (R153, R154). -/
def tableWriteParameter (f : Frame) (s : State) : State :=
  match writeArgs tParameter f.payload with
  | none => reply f qTableWrite .badArg [] s
  | some (index, entry) =>
    match idx? 6 index with
    | none => reply f qTableWrite .badArg [] s
    | some i =>
      match parseParameter (Parameter.ofIndex i) entry with
      | none => reply f qTableWrite .badArg [] s
      | some v => reply f qTableWrite .ok [] (writeParameter (Parameter.ofIndex i) v s)

/-- TABLE_WRITE_PARAMETER (R154). -/
def execTableWriteParameter (f : Frame) (s : State) : Out :=
  whenRunning (fun t => tableWriteParameter f (takeIntake f t)) s

/-! ### TABLE_READ (R153) -/

/-- The entry bytes of an area with its totals (R103). -/
def State.readArea (s : State) (a : Fin 16) : Bytes :=
  encArea (s.area a) ((s.slotsOf a).map (·.stack.length)).sum ((s.slotsOf a).map (·.claims)).sum

/-- The reply contents of a TABLE_READ; none is BAD_ARG (R153). -/
def State.tableEntry (s : State) (table : Byte) (index : Nat) : Option Bytes :=
  if table = tBed then (idx? 24 index).map fun i => encBedEntry (s.bedEntry i)
  else if table = tProbeMap then
    (idx? 128 index).map fun i => encProbe (s.probeEntry i) (s.probeRec i)
  else if table = tMix then (idx? 16 index).map fun i => encMix (s.mix i)
  else if table = tSchedule then (idx? 16 index).map fun i => encSchedule (s.schedule i)
  else if table = tArea then (idx? 16 index).map s.readArea
  else if table = tService then (idx? 128 index).map fun i => enc1 (serviceCode (s.inService i))
  else if table = tCrane then (idx? 4 index).map fun i => encCraneEntry (s.craneEntry i)
  else if table = tRegion then (idx? 8 index).map fun i => encRegion (s.region i)
  else if table = tBay then (idx? 4 index).map fun i => encOpt2 (s.bay i)
  else if table = tParameter then
    (idx? 6 index).map fun i => encParameter (Parameter.ofIndex i) (s.parameter (Parameter.ofIndex i))
  else none

/-- TABLE_READ (R153). -/
def tableRead (f : Frame) (s : State) : State :=
  match f.payload with
  | [_, table, index] =>
    match s.tableEntry table index.toNat with
    | some entry => reply f qTableRead .ok entry s
    | none => reply f qTableRead .badArg [] s
  | _ => reply f qTableRead .badArg [] s

/-- TABLE_READ (R153). -/
def execTableRead (f : Frame) (s : State) : Out :=
  whenRunning (fun t => tableRead f (takeIntake f t)) s

end Sys2Proof.Machine
end

