-- ==== Sys2Proof/Machine/Reads.lean ====
section
/-! DEFINITION. The management requests that read the records, and those of the management and notice units:
READ_BED, READ_CRANE, READ_PIECE, READ_SLOT, TABLES_READY, READ_FLAGS, READ_CLEAR_FLAGS, SET_CAUSE,
READ_COUNTERS and UNKNOWN_REQUEST (R19, R99, R111, R137, R152, R155 to R158, R162). The byte layouts
of their contents are read from R170 and 12.4 (log entries 21 to 24). -/

namespace Sys2Proof.Machine

/-- A request without arguments: BAD_ARG for a payload of any other length (R152). -/
def bare (f : Frame) (code : Byte) (act : State → State) (s : State) : State :=
  match f.payload with
  | [_] => act s
  | _ => reply f code .badArg [] s

/-! ### READ_BED (R19) -/

/-- An order line as it is sent: mark, mix and class, length and weight. Its line number is not sent: the
model's reading of R19 (DEDUCED, log entry 22). -/
def encLine (l : OrderLine) : Bytes :=
  enc4 l.mark ++ encMixClass l.mix l.cls ++ enc2 l.length ++ enc2 l.weight

/-- A cast order as it is sent: each field absent where the bed holds no order (R170). -/
def encOrder (o : Option CastOrder) (lines : List OrderLine) : Bytes :=
  encOpt1 (o.map (·.schedule.val)) ++ encOpt1 (o.map (·.heatClass.val))
    ++ encOpt1 (o.map (·.policy.code)) ++ encOpt2 (o.bind (·.override))
    ++ enc1 lines.length ++ lines.flatMap encLine

/-- The six bed flags in the order of 1.2. -/
def encBedFlags (f : BedFlags) : Bytes :=
  encFlags [f.castWithoutOrder, f.permitless, f.premature, f.outage, f.clamped, f.loadOver]

/-- The thermal part as it is sent: its fields in the order of 4.2, its four indications in one byte
where the first of them stands. The schedule copy is sent without a Present field (log entry 36). -/
def encThermal (t : Thermal) : Bytes :=
  encRecipe t.recipe ++ enc4 t.maturity ++ enc1 t.remainder ++ encOptS2 t.margin ++ enc1 t.phase.code
    ++ enc2 t.clock ++ encS2 t.target ++ encOptS2 t.rampStart ++ encOptS2 t.coolStart
    ++ encFlags [t.stall, t.withheld, t.overheat, t.coolPending] ++ encOptS2 t.prevError
    ++ enc2 t.demand ++ enc1 t.blindCount ++ enc1 t.pause.code ++ enc1 t.waiting.code

/-- The silent indication of a bed (R84). -/
def HeatRec.silent (h : HeatRec) : Bool := h.misses = 3

/-- The heat record as it is sent: its fields in the order of 5.2, the short and silent indications in
one byte. -/
def encHeat (h : HeatRec) : Bytes :=
  enc2 h.request ++ enc2 h.grant ++ enc2 h.duty ++ enc1 h.state.code ++ encFlags [h.short, h.silent]
    ++ enc2 h.refresh ++ encOpt2 (h.wait.map (·.duty)) ++ encOpt2 (h.wait.map (·.left))
    ++ enc1 h.misses ++ encOpt1 (h.lastAck.map (·.toNat))

/-- The contents of a READ_BED reply (R19). -/
def State.bedContents (s : State) (b : Fin 24) : Bytes :=
  let r := s.bedRec b
  encBedEntry (s.bedEntry b) ++ enc1 r.state.code ++ encOrder r.order r.lines
    ++ encOptMinute r.castSeen ++ enc1 r.permit ++ encBedFlags r.flags
    ++ encThermal (s.thermal b) ++ encHeat (s.heatRec b)

/-- READ_BED (R19). -/
def execReadBed (f : Frame) (s : State) : Out :=
  whenRunning (fun t =>
    forBed f qReadBed (fun b u => reply f qReadBed .ok (u.bedContents b) u) (takeIntake f t)) s

/-! ### READ_CRANE (R137) -/

/-- An optional interval as it is sent: its lower end, then its upper end, two bytes each, both absent
where there is none (DEDUCED, log entry 22). -/
def encInterval (i : Option Interval) : Bytes := encOpt2 (i.map (·.lo)) ++ encOpt2 (i.map (·.hi))

/-- The order kind, source and destination of a task, the last two as kind and number, as an ORDER carries
them (12.3; DEDUCED for a READ_CRANE reply, log entry 22). -/
def Task.enc : Task → Bytes × Bytes × Bytes
  | .travel p => (enc1 1, enc1 0 ++ enc2 0, enc1 1 ++ enc2 p)
  | .carry src dst =>
    (enc1 2,
     (match src with
      | .bed b => enc1 1 ++ enc2 b.val
      | .slot n => enc1 2 ++ enc2 n.val
      | .hook => enc1 3 ++ enc2 0),
     (match dst with
      | .slot n => enc1 2 ++ enc2 n.val
      | .bay k => enc1 3 ++ enc2 k.val))

/-- The kind, source and destination of a task, absent without one. -/
def encTask (t : Option Task) : Bytes × Bytes × Bytes :=
  match t with
  | some t => t.enc
  | none => (encOpt1 none, encOpt1 none ++ encOpt2 none, encOpt1 none ++ encOpt2 none)

/-- A mark line as it is sent. -/
def encMarkLine : Option (Fin 16 × Fin 8) → Bytes
  | some x => encMixClass x.1 x.2
  | none => encOpt1 none

/-- A census binding as it is sent: its state and the mark it is bound to. -/
def encBinding : Option Binding → Bytes
  | none => encOpt1 none ++ enc4 0
  | some .unbound => enc1 0 ++ enc4 0
  | some (.bound m) => enc1 1 ++ enc4 m
  | some .failed => enc1 2 ++ enc4 0

/-- The lifted, scanned and LOAD_OVER indications of an order in one byte, absent without one (R137,
R170). -/
def encProgress : Option CraneOrder → Bytes
  | some o => encFlags [o.lifted, o.scanned, o.loadOver]
  | none => encOpt1 none

/-- A crane's current order as it is sent: each field absent where there is none (R137, R170); the stamp as
the station and then the grant number (12.3; DEDUCED, log entry 22). -/
def encCurrent (o : Option CraneOrder) : Bytes :=
  let t := encTask (o.map (·.task))
  encOpt2 (o.map (·.tag)) ++ t.1 ++ encMark (o.bind (·.mark)) ++ encMarkLine (o.bind (·.markLine))
    ++ t.2.1 ++ t.2.2 ++ encStation (o.map (·.stamp.1)) ++ encOpt1 (o.map (·.stamp.2.toNat))
    ++ encOpt1 (o.map (·.state.code)) ++ encOpt2 (o.map (·.startTimer))
    ++ encInterval (o.bind (·.span)) ++ encInterval (o.bind (·.loadedSpan))
    ++ encProgress o
    ++ encBinding (o.bind (·.binding))

/-- A waiting order as it is sent (R137). -/
def encWaiting (o : CraneOrder) : Bytes :=
  enc2 o.tag ++ o.task.enc.1 ++ o.task.enc.2.1 ++ o.task.enc.2.2 ++ enc2 o.waitTimer

/-- The contents of a READ_CRANE reply (R137); the number of waiting orders in one byte (DEDUCED, log entry
21). -/
def State.craneContents (s : State) (c : Fin 4) : Bytes :=
  let k := s.crane c
  let mine := s.runway.waiting.filter fun w => w.crane = c
  encCraneEntry (s.craneEntry c) ++ enc1 k.presence.code ++ enc2 k.silence ++ encOpt2 k.position
    ++ encInterval k.envelope ++ enc1 k.control.code ++ encOpt1 (k.lastHalt.map (·.code))
    ++ encMark k.hook ++ encInterval k.reservation ++ encCurrent k.current
    ++ enc1 mine.length ++ mine.flatMap encWaiting
    ++ [s.runway.grantNumber] ++ enc1 s.runway.waiting.length

/-- READ_CRANE (R137). -/
def readCrane (f : Frame) (s : State) : State :=
  match f.payload with
  | [_, crane] =>
    match idx? 4 crane.toNat with
    | some c => reply f qReadCrane .ok (s.craneContents c) s
    | none => reply f qReadCrane .badArg [] s
  | _ => reply f qReadCrane .badArg [] s

/-- READ_CRANE (R137). -/
def execReadCrane (f : Frame) (s : State) : Out :=
  whenRunning (fun t => readCrane f (takeIntake f t)) s

/-! ### READ_PIECE (R99) -/

/-- A location as it is sent: its kind, then the bed, the crane, or the slot and level, the level in one
byte (log entries 21, 22). -/
def encLocation : Location → Bytes
  | .none => enc1 0
  | .bed b => enc1 1 ++ enc1 b.val
  | .crane c => enc1 2 ++ enc1 c.val
  | .slot n level => enc1 3 ++ enc2 n.val ++ enc1 level

/-- The five piece flags in the order of R94. -/
def PieceFlags.list (f : PieceFlags) : List Bool :=
  [f.premature, f.unrated, f.unscanned, f.outage, f.loadOver]

/-- The maturity and estimate that a bed's account gives for a piece on it (R99, R43). -/
def State.bedMaturity (s : State) (p : Piece) (b : Fin 24) : Bytes :=
  enc4 (s.thermal b).maturity ++ enc2 ((s.mix p.mix).estimate (s.thermal b).maturity)

/-- An account as it is sent: M, r and the estimate, the remainder in one byte (R99; log entry 21). -/
def encAccount (a : Option Account) : Bytes :=
  match a with
  | some a => enc4 a.maturity ++ enc1 a.remainder ++ enc2 a.estimate
  | none => enc4 0 ++ enc1 0 ++ enc2 0

/-- An area ambient with its source, each absent where there is none (R32, R170). -/
def encAmbient (x : Option (Int × AmbientSource)) : Bytes :=
  encOptS2 (x.map (·.1)) ++ encOpt1 (x.map (·.2.code))

/-- The maturity shown and the further parts of a READ_PIECE reply, by the record's state (R99). -/
def State.pieceParts (s : State) (p : Piece) : Bytes :=
  match p.state, p.location with
  | .ordered, .bed b => s.bedMaturity p b ++ enc1 (s.bedRec b).state.code
  | .onBed, .bed b =>
    s.bedMaturity p b ++ enc1 (s.bedRec b).state.code ++ encOptS2 (s.thermal b).margin
  | .inStock, .slot n _ =>
    encAccount p.account ++ encOpt1 ((s.areaOf n.val).map (·.val))
      ++ encAmbient (s.locationAmbient p.location)
  | _, _ => encAccount p.account

/-- The contents of a READ_PIECE reply; the record number in two bytes, the origin line in one (R99; log
entry 21). -/
def State.pieceContents (s : State) (p : Piece) : Bytes :=
  enc2 p.number ++ enc4 p.mark ++ enc1 p.state.code ++ encMixClass p.mix p.cls ++ enc2 p.length
    ++ enc2 p.weight ++ encOpt1 (p.origin.map (·.1.val)) ++ encOpt1 (p.origin.map (·.2))
    ++ encOptMinute p.castStamp ++ encLocation p.location ++ encFlags (p.flags.list ++ [p.ready])
    ++ s.pieceParts p

/-- READ_PIECE (R99; 6.9 for a mark of 0). -/
def readPiece (f : Frame) (s : State) : State :=
  match f.payload with
  | [_, m3, m2, m1, m0] =>
    if dec4 m3 m2 m1 m0 = 0 then reply f qReadPiece .badArg [] s
    else
      match s.findPiece (dec4 m3 m2 m1 m0) with
      | some p => reply f qReadPiece .ok (s.pieceContents p) s
      | none => reply f qReadPiece .notFound [] s
  | _ => reply f qReadPiece .badArg [] s

/-- READ_PIECE (R99). -/
def execReadPiece (f : Frame) (s : State) : Out :=
  whenRunning (fun t => readPiece f (takeIntake f t)) s

/-! ### READ_SLOT (R111) -/

/-- A stack entry as it is sent (R111). -/
def State.stackEntry (s : State) (m : Nat) : Bytes :=
  match s.findPiece m with
  | some p =>
    enc4 m ++ enc1 p.cls.val ++ enc2 p.estimateOf ++ encFlags (p.ready :: p.flags.list)
  | none => enc4 m ++ encOpt1 none ++ encOpt2 none ++ encOpt1 none

/-- What a READ_SLOT reply says of the slot's area: FFh alone for a slot of no area, the fields of an area
left out (R111; DEDUCED, log entry 23). -/
def State.slotArea (s : State) (n : Fin 1024) : Bytes :=
  match s.areaOf n.val with
  | some a =>
    enc1 a.val ++ enc2 (slotPosition (s.area a) n.val) ++ enc1 (s.area a).heightLimit
      ++ encFlags [(s.area a).dispatchOnly] ++ enc1 (censusCode (s.area a).inCensus)
      ++ encAmbient (s.areaAmbient a)
  | none => encOpt1 none

/-- The contents of a READ_SLOT reply (R111). -/
def State.slotContents (s : State) (n : Fin 1024) : Bytes :=
  let x := s.slot n
  s.slotArea n ++ enc1 (serviceCode (s.inService (groupOf n))) ++ enc1 x.stack.length ++ enc1 x.claims
    ++ enc1 x.stack.length ++ x.stack.flatMap s.stackEntry

/-- READ_SLOT (R111). -/
def readSlot (f : Frame) (s : State) : State :=
  match f.payload with
  | [_, s1, s0] =>
    match idx? 1024 (dec2 s1 s0) with
    | some n => reply f qReadSlot .ok (s.slotContents n) s
    | none => reply f qReadSlot .badArg [] s
  | _ => reply f qReadSlot .badArg [] s

/-- READ_SLOT (R111). -/
def execReadSlot (f : Frame) (s : State) : Out :=
  whenRunning (fun t => readSlot f (takeIntake f t)) s

/-! ### TABLES_READY (R155) -/

/-- The configured indication set and the notice station replaced (R155). -/
def setConfigured (st : Station) (s : State) : State :=
  { s with mgmt := { configured := true, noticeStation := some st } }

/-- The three steps of TABLES_READY, after which the notice unit offers a record where it can (R155,
R159). -/
def tablesReady (f : Frame) (s : State) : State :=
  reply f qTablesReady .ok [] (offerNotice (setSurvey true (setConfigured f.src s)))

/-- TABLES_READY (R155). -/
def execTablesReady (f : Frame) (s : State) : Out :=
  whenRunning (fun t => bare f qTablesReady (tablesReady f) (takeIntake f t)) s

/-! ### READ_FLAGS and READ_CLEAR_FLAGS (R157) -/

/-- A port's consecutive error count is at or above its limit (R141). -/
def State.lineFaulty (s : State) (q : Port) : Bool := (s.port q).faultLimit ≤ (s.port q).consecutive

/-- The condition of a cause persists now (10.4, R29, R157). -/
def State.persists (s : State) : Cause → Bool
  | .probeStale => decide (0 < s.staleCount)
  | .bedBlind => (indexes 24).any fun b => s.watched b && s.blind b
  | .heatWithheld => (indexes 24).any fun b => (s.thermal b).withheld
  | .budgetShort => (indexes 24).any fun b => (s.heatRec b).short
  | .craneLost => (indexes 4).any fun c => (s.crane c).presence = .lost
  | .pieceAtLarge => s.piece.recs.any fun p => p.state = .atLarge
  | .lineFault => s.lineFaulty .pPort || s.lineFaulty .fPort
  | _ => false

/-- A cause as READ_FLAGS sends it: flag, mask and persistence in one byte, then the class, absent for
NOTICE_OVERFLOW. -/
def State.causeBytes (s : State) (c : Cause) : Bytes :=
  encFlags [(s.cause c).flag, (s.cause c).masked, s.persists c]
    ++ encOpt1 (if c = .noticeOverflow then none else some (s.cause c).cls.val)

/-- A first-error latch as it is sent (R142, R157). -/
def encLatch (l : Option Latch) : Bytes :=
  encOpt1 (l.map (·.error.code)) ++ encStation (l.bind (·.source))
    ++ encOpt1 (l.bind fun x => x.kind.map (·.toNat))

/-- The contents of a READ_FLAGS reply (R157); the causes, whose number is fixed, stand without a count byte
(DEDUCED, log entry 22). -/
def State.flagContents (s : State) : Bytes :=
  Cause.all.flatMap s.causeBytes ++ encLatch s.line.portP.latch ++ encLatch s.line.portF.latch
    ++ enc1 s.notice.queue.length ++ encStation s.mgmt.noticeStation
    ++ enc1 (if s.notice.attn then 1 else 0)

/-- READ_FLAGS (R157). -/
def execReadFlags (f : Frame) (s : State) : Out :=
  whenRunning (fun t =>
    bare f qReadFlags (fun u => reply f qReadFlags .ok u.flagContents u) (takeIntake f t)) s

/-- The flag of a cause cleared where its condition does not persist in `before` (R157). -/
def clearUnlessHeld (before : State) (s : State) (c : Cause) : State :=
  if before.persists c then s else modCause c (fun k => { k with flag := false }) s

/-- Both first-error latches emptied (R142). -/
def emptyLatches (s : State) : State :=
  modPort .fPort (fun u => { u with latch := none }) (modPort .pPort (fun u => { u with latch := none }) s)

/-- What READ_CLEAR_FLAGS clears (R157). -/
def clearFlags (s : State) : State :=
  updateAttn (emptyLatches (Cause.all.foldl (clearUnlessHeld s) s))

/-- READ_CLEAR_FLAGS (R157). The flags are cleared and the reply offered after that, so an
INSERT_OVERFLOW of the reply's own stays set: the model's choice (DESIGN CHOICE, log entry 37). -/
def execReadClearFlags (f : Frame) (s : State) : Out :=
  whenRunning (fun t =>
    bare f qReadClearFlags (fun u =>
      reply f qReadClearFlags .ok u.flagContents (clearFlags u)) (takeIntake f t)) s

/-! ### SET_CAUSE (R158) -/

/-- A cause's mask and class replaced, the ATTN level recomputed (R158). -/
def writeCause (c : Cause) (masked : Bool) (cls : Fin 4) (s : State) : State :=
  updateAttn (modCause c (fun k => { k with masked := masked, cls := cls }) s)

/-- SET_CAUSE (R158). -/
def setCause (f : Frame) (s : State) : State :=
  match f.payload with
  | [_, cause, mask, cls] =>
    match Cause.ofCode cause.toNat, bool? mask, idx? 4 cls.toNat with
    | some c, some m, some k =>
      if c = .noticeOverflow then reply f qSetCause .badArg [] s
      else reply f qSetCause .ok [] (writeCause c m k s)
    | _, _, _ => reply f qSetCause .badArg [] s
  | _ => reply f qSetCause .badArg [] s

/-- SET_CAUSE (R158). -/
def execSetCause (f : Frame) (s : State) : Out :=
  whenRunning (fun t => setCause f (takeIntake f t)) s

/-! ### READ_COUNTERS (R162) -/

/-- The contents of a READ_COUNTERS reply, in the order of R162. -/
def State.counterContents (s : State) : Bytes :=
  enc2 s.bed.duplicates ++ enc2 s.probe.malformed ++ enc2 s.heat.strayAcks
    ++ enc2 s.piece.recs.length ++ enc2 (Config.pieceRecords - s.piece.recs.length)
    ++ enc2 s.stock.buried ++ enc2 s.runway.strayReports
    ++ enc2 s.line.portP.total ++ enc2 s.line.portF.total
    ++ enc1 s.line.portP.consecutive ++ enc1 s.line.portF.consecutive
    ++ enc2 s.line.undelivered ++ enc2 s.line.stray

/-- READ_COUNTERS (R162). -/
def execReadCounters (f : Frame) (s : State) : Out :=
  whenRunning (fun t =>
    bare f qReadCounters (fun u => reply f qReadCounters .ok u.counterContents u) (takeIntake f t)) s

/-! ### UNKNOWN_REQUEST (R152) -/

/-- The request code a MGMT payload opens with; 0 for an empty payload (R170). -/
def requestCode (f : Frame) : Byte := f.payload.headD 0#8

/-- UNKNOWN_REQUEST: a MGMT frame whose code names no request (R152, step 1). -/
def execUnknownRequest (f : Frame) (s : State) : Out :=
  whenRunning (fun t => reply f (requestCode f) .unknownRequest [] (takeIntake f t)) s

end Sys2Proof.Machine
end

