-- ==== Sys2Proof/Machine/Line.lean ====
section
/-! DEFINITION. The line unit: the fate of received frames, error counts and latches, and the output arbiter
(chapter 9): the meanings of FRAME_RECEIVE_P, FRAME_RECEIVE_F, FRAME_ERROR and OUTPUT_ARBITER. -/

namespace Sys2Proof.Machine

/-! ### Stations -/

/-- An enabled probe map entry names a station (R22). -/
def State.probeStation (s : State) (st : Station) : Bool :=
  (indexes 128).any fun i => (s.probeEntry i).enabled && (s.probeEntry i).station = st

/-- An enabled bed table entry names a station as panel or heater (R1). -/
def State.bedStation (s : State) (st : Station) : Bool :=
  (indexes 24).any fun b =>
    (s.bedEntry b).enabled && ((s.bedEntry b).panel = some st || (s.bedEntry b).heater = some st)

/-- A crane in use names a station as crane or hook reader (R119). -/
def State.craneStation (s : State) (st : Station) : Bool :=
  (indexes 4).any fun c => ofCraneInUse (s.craneEntry c) st

/-- A field station (9.2). -/
def State.fieldStation (s : State) (st : Station) : Bool :=
  s.probeStation st || s.bedStation st || s.craneStation st

/-! ### Failed frames (R141, R142) -/

/-- The record of a failed run (R142). -/
def latchOf (e : RxError) (run : Bytes) : Latch := { error := e, source := run[1]?, kind := run[2]? }

/-- The counts and the latch of a port after a failed frame (R141, R142). -/
def failPort (e : RxError) (run : Bytes) (u : PortUnit) : PortUnit :=
  { u with
    total := satInc 65535 u.total
    consecutive := satInc 255 u.consecutive
    latch := match u.latch with
      | some l => some l
      | none => some (latchOf e run) }

/-- A failed frame: dropped and counted, LINE_FAULT raised where it brings the consecutive count from
below the limit to the limit (R141). -/
def failedFrame (q : Port) (e : RxError) (run : Bytes) (s : State) : State :=
  let before := (s.port q).consecutive
  let t := modPort q (failPort e run) s
  let now := (t.port q).consecutive
  if before < (s.port q).faultLimit ∧ (s.port q).faultLimit ≤ now then raise .lineFault (.port q) now t
  else t

/-- A good frame sets its port's consecutive count to 0 (R141). -/
def goodFrame (q : Port) (s : State) : State := modPort q (fun u => { u with consecutive := 0 }) s

/-! ### Fates -/

/-- A frame handed over to a block (log entry 3). -/
def handOver (f : Frame) (s : State) : State :=
  { s with line := { s.line with handed := s.line.handed ++ [f] } }

/-- The stray frame count rises by 1 (R143, R144). -/
def countStray (s : State) : State :=
  { s with line := { s.line with stray := satInc 65535 s.line.stray } }

/-- The undelivered count rises by 1 (R144). -/
def countUndelivered (s : State) : State :=
  { s with line := { s.line with undelivered := satInc 65535 s.line.undelivered } }

/-- A MGMT frame put on the intake queue, or dropped with FORWARD_OVERFLOW (R143). -/
def takeMgmt (f : Frame) (s : State) : State :=
  if s.line.intake.length < Config.intakeDepth then
    { s with line := { s.line with intake := s.line.intake ++ [f] } }
  else raise .forwardOverflow (.port .pPort) kMgmt.toNat s

/-- The DENIED reply to a MGMT frame that came on port F (R144, row 6). -/
def denyMgmt (f : Frame) (s : State) : State :=
  offerNormal .fPort (ringFrame s f.src kMgmtReply f.seq [requestCode f, Status.denied.code]) s

/-- The fate of a good frame on port P (R143). -/
def fateP (f : Frame) (s : State) : State :=
  if f.dst = s.station then if f.kind = kMgmt then takeMgmt f s else countStray s
  else if f.kind = kOrder && (s.craneOf f.dst).isSome then handOver f s
  else putForward .fPort (withRingMark f) s

/-- The kinds handed over on port F when addressed to the part (R144, rows 3 to 5). -/
def consumedKind (k : Byte) : Bool := k = kHeatAck || k = kBedPanel || k = kSample

/-- The kinds handed over on port F as they pass to the plant (R144, row 8). -/
def observedKind (k : Byte) : Bool := k = kSample || k = kCraneReport || k = kHookScan

/-- A frame on its way to the plant: handed over where its kind is observed, and queued for port P
(R144, row 8). -/
def passToPlant (f : Frame) (s : State) : State :=
  putForward .pPort f (if observedKind f.kind then handOver f s else s)

/-- The fate of a good frame on port F addressed to the part (R144, rows 3 to 7). -/
def fateOwn (f : Frame) (s : State) : State :=
  if consumedKind f.kind then handOver f s
  else if f.kind = kMgmt then denyMgmt f s
  else countStray s

/-- The fate of a good frame on port F (R144). -/
def fateF (f : Frame) (s : State) : State :=
  if ringMark f then
    if f.dst = 0#8 ∨ f.dst = s.station then s else countUndelivered s
  else if f.src = s.station then countStray s
  else if f.dst = s.station then fateOwn f s
  else if f.dst ≠ 0#8 && s.fieldStation f.dst then putForward .fPort (withRingMark f) s
  else passToPlant f s

/-- A frame put on a forward queue in pass-through: a full queue drops it without a cause (R150). -/
def passForward (q : Port) (f : Frame) (s : State) : State :=
  if (s.port q).forward.length < Config.forwardDepth then
    modPort q (fun u => { u with forward := u.forward ++ [f] }) s
  else s

/-- The fate of a good frame in pass-through (R150). -/
def passFate (q : Port) (f : Frame) (s : State) : State :=
  match q with
  | .pPort => passForward .fPort (withRingMark f) s
  | .fPort => if ringMark f then s else passForward .pPort f s

/-- The fate of a good frame while the part runs (R141, R143, R144). -/
def runFate (q : Port) (f : Frame) (s : State) : State :=
  match q with
  | .pPort => fateP f (goodFrame .pPort s)
  | .fPort => fateF f (goodFrame .fPort s)

/-- A run of bytes that has ended on a port: judged, then counted as failed or given its fate; in
pass-through carried or dropped (R140 to R144, R150). -/
def receiveRun (q : Port) (run : Bytes) (s : State) : State :=
  if !s.operating then s
  else
    match judge run with
    | .error e => if s.running then failedFrame q e run s else s
    | .ok f => if s.running then runFate q f s else passFate q f s

/-- FRAME_RECEIVE_P (R143). -/
def execFrameReceiveP (run : Bytes) (s : State) : Out := .next (receiveRun .pPort run s)

/-- FRAME_RECEIVE_F (R144). -/
def execFrameReceiveF (run : Bytes) (s : State) : Out := .next (receiveRun .fPort run s)

/-- FRAME_ERROR (R141). -/
def execFrameError (q : Port) (run : Bytes) (s : State) : Out := .next (receiveRun q run s)

/-! ### The output arbiter (R149) -/

/-- The port with the oldest forwarded frame taken and a run count set; the frame is in transmission. -/
def sendForward (f : Frame) (rest : List Frame) (run : Nat) (u : PortUnit) : PortUnit :=
  { u with forward := rest, sending := some f, run := run }

/-- The port with the head of its normal lane taken. -/
def sendNormal (f : Frame) (rest : List Frame) (u : PortUnit) : PortUnit :=
  { u with normal := rest, sending := some f, run := 0 }

/-- The choice of the next frame by the rows of R149; a port with nothing waiting sends nothing. -/
def arbitrate (u : PortUnit) : PortUnit :=
  match u.urgent, u.forward, u.normal with
  | f :: rest, _, _ => { u with urgent := rest, sending := some f }
  | [], f :: rest, n :: more =>
    if u.run < 4 then sendForward f rest (u.run + 1) u else sendNormal n more u
  | [], f :: rest, [] => sendForward f rest 0 u
  | [], [], n :: more => sendNormal n more u
  | [], [], [] => { u with sending := none }

/-- The notice unit offers a record where it can, while the part runs (R159). -/
def pumpNotice (s : State) : State := if s.running then offerNotice s else s

/-- The transmitter of a port has become free: the next frame is chosen; on port P the notice unit may
offer a record before the choice, and again when a transmission has begun (R149, R159). -/
def freePort (q : Port) (s : State) : State :=
  match q with
  | .pPort => pumpNotice (modPort .pPort arbitrate (pumpNotice s))
  | .fPort => modPort .fPort arbitrate s

/-- OUTPUT_ARBITER: the command is the transmitter's becoming free, so it acts whatever `sending` shows, and
a frame that enters while the transmitter is idle is chosen at the next OUTPUT_ARBITER (R149; DESIGN
CHOICE, log entry 39). -/
def execOutputArbiter (q : Port) (s : State) : Out :=
  .next (if s.operating then freePort q s else s)

end Sys2Proof.Machine
end

