-- ==== Sys2Proof/Machine/Start.lean ====
section
/-! DEFINITION. The start supervisor: power, RESETn and the backup monitor, the choice of start, cold and warm
starts and starts into pass-through (chapter 11), and the meanings of POWER_LOSS, RESETN_ASSERT,
BACKUP_FALL, POWER_UP, RESETN_RELEASE, RESTART and CLEAR_ALL. -/

namespace Sys2Proof.Machine

/-! ### Stops (R165) -/

/-- A port with its queues, lanes, arbiter, counts and latch at their start values, its fault limit kept
(R151). -/
def resetPort (u : PortUnit) : PortUnit := { faultLimit := u.faultLimit }

/-- The line unit at a start, the fault limits kept (R151). -/
def resetLine (l : LineUnit) : LineUnit :=
  { portP := resetPort l.portP, portF := resetPort l.portF }

/-- The counts that READ_COUNTERS returns, beside the line unit's and the record counts, set to 0
(R162). -/
def zeroCounts (s : State) : State :=
  { s with
    bed := { s.bed with duplicates := 0 }
    probe := { s.probe with malformed := 0 }
    heat := { s.heat with strayAcks := 0 }
    stock := { s.stock with buried := 0 }
    runway := { s.runway with strayReports := 0, opportunities := 0 } }

/-- Every flag cleared and the notice queue emptied (R164, R165). -/
def clearNotices (s : State) : State :=
  { s with notice :=
      { s.notice with causes := tmap (fun k => { k with flag := false }) s.notice.causes, queue := [] } }

/-- A heat record without its running timers. -/
def untimeHeat (h : HeatRec) : HeatRec := { h with refresh := 0, wait := none }

/-- A crane order without its running timers. -/
def untimeOrder (o : CraneOrder) : CraneOrder := { o with waitTimer := 0, startTimer := 0 }

/-- A crane without its running timers. -/
def untimeCrane (k : Crane) : Crane := { k with silence := 0, current := k.current.map untimeOrder }

/-- A bed record without its running permit timer. -/
def untimeBed (r : BedRec) : BedRec := { r with permit := 0 }

/-- Every running timer lost with main power (R165). -/
def loseTimers (s : State) : State :=
  { s with
    bed := { s.bed with recs := tmap untimeBed s.bed.recs }
    heat := { s.heat with recs := tmap untimeHeat s.heat.recs }
    runway := { s.runway with cranes := tmap untimeCrane s.runway.cranes
                              waiting := s.runway.waiting.map untimeOrder }
    sup := { s.sup with minuteTimer := 0 } }

/-- ATTN released: the pin is not driven. -/
def releaseAttn (s : State) : State := { s with notice := { s.notice with attn := false } }

/-- What is outside the record store is lost (R165). -/
def loseVolatile (s : State) : State :=
  releaseAttn (clearNotices (loseTimers (zeroCounts { s with line := resetLine s.line })))

/-- The level of the main supply. -/
def setPowered (b : Bool) (s : State) : State := { s with sup := { s.sup with powered := b } }

/-- The level of RESETn: held while asserted. -/
def setResetHeld (b : Bool) (s : State) : State := { s with sup := { s.sup with resetHeld := b } }

/-- The frames in transmission are lost (R165). -/
def cutTransmission (s : State) : State :=
  modPort .fPort (fun u => { u with sending := none })
    (modPort .pPort (fun u => { u with sending := none }) s)

/-- Main power falls: what is outside the record store is lost (R165). -/
def powerFalls (s : State) : State := setPowered false (loseVolatile s)

/-- RESETn is asserted: the part takes no further event until the release (R165). -/
def resetnFalls (s : State) : State := setResetHeld true (cutTransmission s)

/-- POWER_LOSS (R165). -/
def execPowerLoss (s : State) : Out := .next (if s.sup.powered then powerFalls s else s)

/-- RESETN_ASSERT (R165). -/
def execResetnAssert (s : State) : Out := .next (resetnFalls s)

/-- BACKUP_FALL: latched while main power is off (R165). What the record store then holds is not told; the
model leaves it as it was until the next start (DESIGN CHOICE, log entry 40). -/
def execBackupFall (s : State) : Out :=
  .next (if s.sup.powered then s else { s with sup := { s.sup with backupLost := true } })

/-! ### The choice of start (R166) -/

/-- The kind of start of a strap value and the BACKUP_LOST latch (R166). -/
def chooseStart (strap : Station) (backupLost : Bool) : StartKind :=
  if !validStation strap then .passThrough else if backupLost then .cold else .warm

/-! ### The steps of a start (R167) -/

/-- The notice unit at a start: flags cleared, the queue emptied, START raised with the start kind
(R164; R167, step 3). -/
def startNotices (kind : StartKind) (s : State) : State :=
  recordCause .start .part kind.code 0 (clearNotices s)

/-- The start kind recorded, ATTN recomputed, the works-minute timer started from zero (R167, step 6). -/
def recordStart (kind : StartKind) (s : State) : State :=
  updateAttn { s with sup := { s.sup with kind := kind, minuteTimer := 0 } }

/-! ### Cold start (R167) -/

/-- Masks and classes at their defaults, flags as they stand (R158). -/
def defaultCauses (causes : Vector CauseState 28) : Vector CauseState 28 :=
  ⟨⟨Cause.all.map fun c => { c.coldState with flag := (tget causes c.place).flag }⟩, rfl⟩

/-- Masks, classes and works minute at their cold-start values (R167, step 1). -/
def coldMasks (s : State) : State :=
  { s with notice := { s.notice with causes := defaultCauses s.notice.causes }
           sup := { s.sup with worksMinute := 0 } }

/-- The line unit at its cold-start values, the fault limits among them (R151; R167, step 2). -/
def coldLine (s : State) : State := { s with line := {} }

/-- Every other block at its cold-start values (R20, R33, R49, R72, R85, R100, R116, R138, R155; R167,
step 4). The blocks are cleared together (log entry 14). -/
def coldBlocks (s : State) : State :=
  { s with probe := {}, curing := {}, heat := {}, bed := {}, piece := {}, stock := {}, runway := {}
           mgmt := {} }

/-- The BACKUP_LOST latch cleared (R167, step 5). -/
def clearLatch (s : State) : State := { s with sup := { s.sup with backupLost := false } }

/-- The six steps of a cold start (R167). -/
def coldSteps : List (State → State) :=
  [coldMasks, coldLine, startNotices .cold, coldBlocks, clearLatch, recordStart .cold]

/-! ### Warm start (R168) -/

/-- A crane after a warm start (R139). -/
def warmCrane (_ : Crane) : Crane := {}

/-- The hook pieces of the cranes, handed to the piece unit (R168). -/
def State.hookPieces (s : State) : List Nat := (indexes 4).filterMap fun c => (s.crane c).hook

/-- The runway unit's effects: orders and reservations dropped, cranes UNKNOWN and FREE (R139). -/
def warmRunway (s : State) : State :=
  { s with runway :=
      { s.runway with cranes := tmap warmCrane s.runway.cranes, waiting := [], strayReports := 0
                      opportunities := 0 } }

/-- The stock unit's effects: claims and the buried pick count 0 (R117). -/
def warmStock (s : State) : State :=
  { s with stock :=
      { s.stock with slots := tmap (fun x => { x with claims := 0 }) s.stock.slots, buried := 0 } }

/-- A piece record after a warm start (R101). -/
def warmPiece (hooks : List Nat) (p : Piece) : Piece :=
  if hooks.contains p.mark then { p with state := .atLarge, location := .none, ready := false }
  else if p.state = .inStock then { p with flags := { p.flags with outage := true } }
  else p

/-- The number of records a warm start makes AT_LARGE (R92). -/
def State.stranded (s : State) (hooks : List Nat) : Nat :=
  s.piece.recs.countP fun p => hooks.contains p.mark

/-- The piece unit's effects: hook pieces AT_LARGE, stocked pieces given OUTAGE, PIECE_AT_LARGE raised
once with the number (R101). The subject is the piece unit, the sixth of the block overview. -/
def warmPieces (hooks : List Nat) (s : State) : State :=
  let n := s.stranded hooks
  let t := setPieces (s.piece.recs.map (warmPiece hooks)) s
  if n = 0 then t else recordCause .pieceAtLarge (.unit 6) n 0 t

/-- A bed record after a warm start (R21). -/
def warmBedRec (r : BedRec) : BedRec :=
  { r with
    state := if r.state = .releasing then .releasable else r.state
    permit := 0
    flags := if watchedState r.state then { r.flags with outage := true } else r.flags }

/-- The bed unit's effects (R21). -/
def warmBeds (s : State) : State :=
  { s with bed := { s.bed with recs := tmap warmBedRec s.bed.recs, duplicates := 0 } }

/-- The resume policy of a bed's order; RESUME without an order. -/
def BedRec.policy (r : BedRec) : ResumePolicy :=
  match r.order with
  | some o => o.policy
  | none => .resume

/-- A phase that policy COOL takes to COOL (R73). -/
def coolsAtStart : Phase → Bool
  | .preset => true | .ramp => true | .hold => true | .cool => false | .soak => false

/-- What every CURING bed's thermal part takes at a warm start (R73). -/
def warmThermal (t : Thermal) : Thermal :=
  { t with prevError := none, waiting := .none, coolPending := false, blindCount := 0
           withheld := false, overheat := false, stall := false, pause := .running }

/-- A CURING bed's thermal part under its resume policy (R73). -/
def resumeThermal (policy : ResumePolicy) (t : Thermal) : Thermal :=
  match policy with
  | .resume => warmThermal t
  | .hold => { warmThermal t with pause := .paused }
  | .cool =>
    if coolsAtStart t.phase then
      { warmThermal t with phase := .cool, coolStart := some t.target, clock := 0, rampStart := none }
    else warmThermal t

/-- One bed's thermal part at a warm start: continued under its policy, its margin recomputed (R73,
R46). -/
def warmCure (b : Fin 24) (s : State) : State :=
  let t := if s.curingBed b then modThermal b (resumeThermal (s.bedRec b).policy) s else s
  if s.watched b then refreshMargin b t else t

/-- A heat record after a warm start (R86). -/
def warmHeatRec (curing : Bool) (h : HeatRec) : HeatRec :=
  if curing then { state := .driven, refresh := 60 }
  else if h.state = .stopping then { state := .stopping, refresh := 60 }
  else {}

/-- One heat record at a warm start (R86). -/
def warmHeatBed (b : Fin 24) (s : State) : State := modHeat b (warmHeatRec (s.curingBed b)) s

/-- The heat supply unit's effects (R86). -/
def warmHeat (s : State) : State :=
  let t := forEach warmHeatBed s
  { t with heat := { t.heat with seq := 0, strayAcks := 0 } }

/-- A probe record after a warm start: STALE, its value kept (R34). -/
def warmProbeRec (r : ProbeRec) : ProbeRec := { value := r.value }

/-- BED_BLIND recorded for a watched bed (R31, R34). -/
def blindAtStart (b : Fin 24) (s : State) : State :=
  if s.watched b then recordCause .bedBlind (.bed b) 0 0 s else s

/-- The probe unit's effects (R34). -/
def warmProbes (s : State) : State :=
  forEach blindAtStart
    { s with probe :=
        { s.probe with recs := tmap warmProbeRec s.probe.recs, malformed := 0, survey := true } }

/-- The blocks' warm-start effects in their order (R168). -/
def warmEffects (s : State) : State :=
  warmProbes (warmHeat (forEach warmCure (warmBeds
    (warmPieces s.hookPieces (warmStock (warmRunway s))))))

/-- The line unit at a warm start, the fault limits kept (R151; R167, step 2). -/
def warmLine (s : State) : State := { s with line := resetLine s.line }

/-- The six steps of a warm start; steps 1 and 5 are a cold start's alone (R167). -/
def warmSteps : List (State → State) :=
  [id, warmLine, startNotices .warm, warmEffects, id, recordStart .warm]

/-! ### Pass-through (R150, R166) -/

/-- A start into pass-through: the line unit set, the counts 0, the stale survey set, the record store,
flags and notice queue as they stood, ATTN not driven (R166, R151, R162, R28). -/
def passStart (s : State) : State :=
  releaseAttn (setSurvey true (zeroCounts
    { s with line := resetLine s.line, sup := { s.sup with kind := .passThrough } }))

/-! ### Starts -/

/-- The strap read and, for CLEAR_ALL, the BACKUP_LOST latch set (R150, R166). -/
def readStrap (strap : Station) (clear : Bool) (s : State) : State :=
  { s with sup := { s.sup with station := strap, backupLost := s.sup.backupLost || clear } }

/-- Steps taken one after the other. -/
def inTurn (steps : List (State → State)) (s : State) : State := steps.foldl (fun t act => act t) s

/-- The ATTN level of a part that stops within a start: that of the flags, released while the recorded
start kind is PASS_THROUGH (R161, R150; log entry 14). -/
def levelAtStop (s : State) : State :=
  if s.sup.kind = .passThrough then releaseAttn s else updateAttn s

/-- The event that cuts a start off takes its effect (R165). -/
def stopBy : StopKind → State → State
  | .powerLoss => powerFalls
  | .resetn => resetnFalls

/-- The steps of a start carried out: all of them, or those before a cut, after which the start is
abandoned and the part stops; a cut falls after step 4 at the latest, so that it leaves the latch set
(R165, R167; log entry 14). -/
def carryOut (steps : List (State → State)) (cut : Option StartCut) (s : State) : State :=
  match cut with
  | none => inTurn steps s
  | some c => stopBy c.stop (levelAtStop (inTurn (steps.take (min 4 c.steps)) s))

/-- A start into pass-through, which is one step (R166); a cut stops the part after it (log entry 14). -/
def passThrough (cut : Option StartCut) (s : State) : State :=
  match cut with
  | none => passStart s
  | some c => stopBy c.stop (passStart s)

/-- A start: the strap read, the kind chosen and the start carried out (R166, R167). -/
def startPart (pins : StartPins) (clear : Bool) (s : State) : State :=
  let t := readStrap pins.strap clear s
  match chooseStart pins.strap t.sup.backupLost with
  | .passThrough => passThrough pins.cut t
  | .cold => carryOut coldSteps pins.cut t
  | .warm => carryOut warmSteps pins.cut t

/-- POWER_UP: main power rises; a start begins, unless RESETn is held (R166). -/
def execPowerUp (pins : StartPins) (s : State) : Out :=
  .next (if s.sup.powered then s
         else
           let t := setPowered true s
           if t.sup.resetHeld then t else startPart pins false t)

/-- RESETN_RELEASE: a start begins, where main power is on (R166). -/
def execResetnRelease (pins : StartPins) (s : State) : Out :=
  .next (if s.sup.resetHeld then
           let t := setResetHeld false s
           if t.sup.powered then startPart pins false t else t
         else s)

/-- RESTART: a warm start asked by management; no reply (R163). -/
def execRestart (f : Frame) (pins : StartPins) (s : State) : Out :=
  whenRunning (fun t => bare f qRestart (startPart pins false) (takeIntake f t)) s

/-- CLEAR_ALL: a cold start asked by management; no reply (R163, R166). -/
def execClearAll (f : Frame) (pins : StartPins) (s : State) : Out :=
  whenRunning (fun t => bare f qClearAll (startPart pins true) (takeIntake f t)) s

end Sys2Proof.Machine
end

