-- ==== Sys2Proof/Machine/Tick.lean ====
section
/-! DEFINITION. The second: what time alone does to the running timers when no command waits (log
entry 11). -/

namespace Sys2Proof.Machine

/-- A heat record a second later: its refresh timer and its acknowledgement wait run down (R81, R84). -/
def tickHeat (h : HeatRec) : HeatRec :=
  { h with refresh := h.refresh - 1, wait := h.wait.map fun w => { w with left := w.left - 1 } }

/-- A crane order a second later: an ADMITTED order's start timer runs down (R129). -/
def tickOrder (o : CraneOrder) : CraneOrder :=
  if o.state = .admitted then { o with startTimer := o.startTimer - 1 } else o

/-- A crane a second later: a REPORTING crane's silence timer runs down (R120). -/
def tickCrane (k : Crane) : Crane :=
  { k with silence := if k.presence = .reporting then k.silence - 1 else k.silence
           current := k.current.map tickOrder }

/-- A waiting order a second later (R127, R129). -/
def tickWaiting (o : CraneOrder) : CraneOrder := { o with waitTimer := o.waitTimer - 1 }

/-- The timers of the part a second later; what an expiry does is the command of its row. -/
def tickTimers (s : State) : State :=
  { s with
    heat := { s.heat with recs := tmap tickHeat s.heat.recs }
    runway := { s.runway with cranes := tmap tickCrane s.runway.cranes
                              waiting := s.runway.waiting.map tickWaiting }
    sup := { s.sup with minuteTimer := satInc 60 s.sup.minuteTimer } }

/-- A second without a command: the timers run and the notice unit offers a record where it can, while
the part runs; nothing happens in pass-through or while it is stopped (R150, R159, R165). -/
def tickSecond (s : State) : State := if s.running then offerNotice (tickTimers s) else s

end Sys2Proof.Machine
end

