-- ==== Sys2Proof/Machine/Dispatch.lean ====
section
/-! DEFINITION. One arm per command. -/

namespace Sys2Proof.Machine

def exec (i : Instr) (s : State) : Host.Outcome State Fault Refusal :=
  match i with
  | .frameReceiveP run => Sys2Proof.Machine.execFrameReceiveP run s
  | .frameReceiveF run => Sys2Proof.Machine.execFrameReceiveF run s
  | .frameError port run => Sys2Proof.Machine.execFrameError port run s
  | .outputArbiter port => Sys2Proof.Machine.execOutputArbiter port s
  | .sample f => Sys2Proof.Machine.execSample f s
  | .heatAck f => Sys2Proof.Machine.execHeatAck f s
  | .panelStressed f => Sys2Proof.Machine.execPanelStressed f s
  | .panelCastDone f => Sys2Proof.Machine.execPanelCastDone f s
  | .panelDetensionAsk f => Sys2Proof.Machine.execPanelDetensionAsk f s
  | .panelDetensioned f => Sys2Proof.Machine.execPanelDetensioned f s
  | .panelBedClear f => Sys2Proof.Machine.execPanelBedClear f s
  | .order f => Sys2Proof.Machine.execOrder f s
  | .reportPosition f => Sys2Proof.Machine.execReportPosition f s
  | .reportStarted f => Sys2Proof.Machine.execReportStarted f s
  | .reportLifted f => Sys2Proof.Machine.execReportLifted f s
  | .reportComplete f => Sys2Proof.Machine.execReportComplete f s
  | .reportAborted f => Sys2Proof.Machine.execReportAborted f s
  | .hookScan f => Sys2Proof.Machine.execHookScan f s
  | .worksMinuteExpiry => Sys2Proof.Machine.execWorksMinuteExpiry s
  | .probeMinute => Sys2Proof.Machine.execProbeMinute s
  | .curingMinute => Sys2Proof.Machine.execCuringMinute s
  | .pieceMinute => Sys2Proof.Machine.execPieceMinute s
  | .refreshExpiry bed => Sys2Proof.Machine.execRefreshExpiry bed s
  | .ackWaitExpiry bed => Sys2Proof.Machine.execAckWaitExpiry bed s
  | .silenceExpiry crane => Sys2Proof.Machine.execSilenceExpiry crane s
  | .waitExpiry crane tag => Sys2Proof.Machine.execWaitExpiry crane tag s
  | .orderLapse crane => Sys2Proof.Machine.execOrderLapse crane s
  | .tableWriteBed f => Sys2Proof.Machine.execTableWriteBed f s
  | .tableWriteProbeMap f => Sys2Proof.Machine.execTableWriteProbeMap f s
  | .tableWriteMix f => Sys2Proof.Machine.execTableWriteMix f s
  | .tableWriteSchedule f => Sys2Proof.Machine.execTableWriteSchedule f s
  | .tableWriteArea f => Sys2Proof.Machine.execTableWriteArea f s
  | .tableWriteService f => Sys2Proof.Machine.execTableWriteService f s
  | .tableWriteCrane f => Sys2Proof.Machine.execTableWriteCrane f s
  | .tableWriteRegion f => Sys2Proof.Machine.execTableWriteRegion f s
  | .tableWriteBay f => Sys2Proof.Machine.execTableWriteBay f s
  | .tableWriteParameter f => Sys2Proof.Machine.execTableWriteParameter f s
  | .tableRead f => Sys2Proof.Machine.execTableRead f s
  | .tablesReady f => Sys2Proof.Machine.execTablesReady f s
  | .bedOrder f => Sys2Proof.Machine.execBedOrder f s
  | .bedCancel f => Sys2Proof.Machine.execBedCancel f s
  | .bedAbandon f => Sys2Proof.Machine.execBedAbandon f s
  | .bedPause f => Sys2Proof.Machine.execBedPause f s
  | .bedResume f => Sys2Proof.Machine.execBedResume f s
  | .bedCool f => Sys2Proof.Machine.execBedCool f s
  | .readBed f => Sys2Proof.Machine.execReadBed f s
  | .setBudget f => Sys2Proof.Machine.execSetBudget f s
  | .shed f => Sys2Proof.Machine.execShed f s
  | .craneRelease f => Sys2Proof.Machine.execCraneRelease f s
  | .readCrane f => Sys2Proof.Machine.execReadCrane f s
  | .censusBegin f => Sys2Proof.Machine.execCensusBegin f s
  | .censusEnd f => Sys2Proof.Machine.execCensusEnd f s
  | .pieceDeclare f => Sys2Proof.Machine.execPieceDeclare f s
  | .pieceSetMaturity f => Sys2Proof.Machine.execPieceSetMaturity f s
  | .pieceDrop f => Sys2Proof.Machine.execPieceDrop f s
  | .readPiece f => Sys2Proof.Machine.execReadPiece f s
  | .readSlot f => Sys2Proof.Machine.execReadSlot f s
  | .probeForce f => Sys2Proof.Machine.execProbeForce f s
  | .readFlags f => Sys2Proof.Machine.execReadFlags f s
  | .readClearFlags f => Sys2Proof.Machine.execReadClearFlags f s
  | .setCause f => Sys2Proof.Machine.execSetCause f s
  | .readCounters f => Sys2Proof.Machine.execReadCounters f s
  | .restart f pins => Sys2Proof.Machine.execRestart f pins s
  | .clearAll f pins => Sys2Proof.Machine.execClearAll f pins s
  | .unknownRequest f => Sys2Proof.Machine.execUnknownRequest f s
  | .powerLoss => Sys2Proof.Machine.execPowerLoss s
  | .resetnAssert => Sys2Proof.Machine.execResetnAssert s
  | .backupFall => Sys2Proof.Machine.execBackupFall s
  | .powerUp pins => Sys2Proof.Machine.execPowerUp pins s
  | .resetnRelease pins => Sys2Proof.Machine.execResetnRelease pins s

end Sys2Proof.Machine
end

