-- ==== Sys2Proof/Safety.lean ====
section
/-! DEFINITION. What the manual promises of every state the part can be in: the laws that each command keeps.
Each is a predicate of one state; the statements say that `step` keeps it from every state that has
it, and that the state after reset has it. -/

namespace Sys2Proof.Machine

/-! ### The line unit and the notice unit -/

/-- A port's queues and lanes hold no more than they can (9.3), and its run count is at most 4 (R149). -/
abbrev PortUnit.bounded (u : PortUnit) : Prop :=
  u.forward.length ≤ 8 ∧ u.urgent.length ≤ 4 ∧ u.normal.length ≤ 16 ∧ u.run ≤ 4

/-- The notices in a lane. -/
def noticesIn (l : List Frame) : Nat := l.countP fun f => f.kind = kNotice

/-- The bounds of the line unit and the notice queue: the depths of 9.3, the urgent lane of port P always
empty and at most one NOTICE frame in the port P normal lane (R147), 4 frames of intake (R143), 32
notices (R159). -/
abbrev State.lineBounded (s : State) : Prop :=
  s.line.portP.bounded ∧ s.line.portF.bounded ∧ s.line.portP.urgent = []
    ∧ noticesIn s.line.portP.normal ≤ 1 ∧ s.line.intake.length ≤ 4 ∧ s.notice.queue.length ≤ 32

/-- The frames of a port that wait or are being sent. -/
def PortUnit.frames (u : PortUnit) : List Frame :=
  u.forward ++ u.urgent ++ u.normal ++ u.sending.toList

/-- Every frame the part sends on port F carries the ring mark; none it sends on port P does (R145). -/
abbrev State.ringMarked (s : State) : Prop :=
  (∀ f ∈ s.line.portF.frames, ringMark f = true) ∧ (∀ f ∈ s.line.portP.frames, ringMark f = false)

/-- The level of ATTN follows the flags, and is released in pass-through (R161, R150). -/
abbrev State.attnFollows (s : State) : Prop :=
  s.notice.attn = (s.sup.kind != .passThrough && attnLevel s.notice.causes)

/-! ### Heat (R76, R77) -/

/-- The heat law of the part: the grants do not exceed the effective budget, no grant exceeds its bed's
request, a bed not in CURING has request and grant 0, and exactly the CURING beds are DRIVEN (R76,
R77). -/
abbrev State.heatLaw (s : State) : Prop :=
  s.grantSum ≤ s.effectiveBudget ∧
    ∀ b : Fin 24,
      (s.heatRec b).grant ≤ (s.heatRec b).request
        ∧ (s.curingBed b = false → (s.heatRec b).request = 0)
        ∧ (s.curingBed b = true ↔ (s.heatRec b).state = .driven)

/-! ### Beds (R13) -/

/-- The permit timer is 0 in every state other than RELEASING (R13). -/
abbrev State.permitsIdle (s : State) : Prop :=
  ∀ b : Fin 24, (s.bedRec b).state ≠ .releasing → (s.bedRec b).permit = 0

/-! ### Piece records (R88) -/

/-- The records in use stand in strictly rising record number below 2048, and no mark is held twice
(R87, R88). -/
abbrev State.directoryLaw (s : State) : Prop :=
  (s.piece.recs.map (·.number)).Pairwise (· < ·) ∧ (∀ p ∈ s.piece.recs, p.number < 2048)
    ∧ (s.piece.recs.map (·.mark)).Nodup

/-! ### The runway (R118, R126) -/

/-- A crane's order and its reservation are there together, and a FREE crane has no order (8.2, R126). -/
abbrev Crane.consistent (k : Crane) : Prop :=
  (k.current.isSome ↔ k.reservation.isSome) ∧ (k.control = .free → k.current = none)

/-- Two reservations share no position. -/
def apart (a b : Option Interval) : Bool :=
  match a, b with
  | some x, some y => !x.overlaps y
  | _, _ => true

/-- Each crane has at most one order, with its reservation; the reservations of different cranes never
overlap; an order from a bed lives only while that bed is STRIPPING (R126). -/
abbrev State.runwayLaw (s : State) : Prop :=
  (∀ c : Fin 4, (s.crane c).consistent)
    ∧ (∀ c d : Fin 4, c ≠ d → apart (s.crane c).reservation (s.crane d).reservation = true)
    ∧ (∀ b : Fin 24, s.liveFromBed b = true → (s.bedRec b).state = .stripping)

/-- The waiting queue holds at most 16 orders and at most 4 of one crane (R127). -/
abbrev State.queueLaw (s : State) : Prop :=
  s.runway.waiting.length ≤ 16
    ∧ ∀ c : Fin 4, (s.runway.waiting.filter fun w => w.crane = c).length ≤ 4

/-! ### The stock yard (R102 to R105) -/

/-- The admitted or active orders that will place a piece on a slot (R105). -/
def State.ordersTo (s : State) (n : Fin 1024) : Nat :=
  (indexes 4).countP fun c =>
    match (s.crane c).current with
    | some o => o.task.destSlot = some n
    | none => false

/-- The stack and claims of a slot fit under its area's height limit; a slot of no area holds nothing
(R102, R104). -/
def State.slotFits (s : State) (n : Fin 1024) : Bool :=
  match s.areaOf n.val with
  | some a => decide ((s.slot n).load ≤ (s.area a).heightLimit)
  | none => decide ((s.slot n).load = 0)

/-- The law of the yard: no two areas share a slot (R103), every slot's height plus claims is within its
area's height limit (R104), and a slot has one claim for each live order that will place on it
(R105). -/
abbrev State.yardLaw (s : State) : Prop :=
  (∀ a b : Fin 16, a ≠ b →
      runsMeet (s.area a).firstSlot (s.area a).count (s.area b).firstSlot (s.area b).count = false)
    ∧ (∀ n : Fin 1024, s.slotFits n = true)
    ∧ (∀ n : Fin 1024, (s.slot n).claims = s.ordersTo n)

/-! ### Cures and accounts (R37, R66, R71) -/

/-- An account within its ranges (R37). -/
abbrev accountInRange (m r : Nat) : Prop := m ≤ 9999999 ∧ r ≤ 5

/-- The maturity accounts of beds and pieces lie in their ranges (R37); a bed's demand is at most the heat
cap of its schedule copy (R66), and 0 when it is not in CURING (R71). -/
abbrev State.cureLaw (s : State) : Prop :=
  (∀ b : Fin 24,
      accountInRange (s.thermal b).maturity (s.thermal b).remainder
        ∧ (s.thermal b).demand ≤ (s.thermal b).recipe.heatCap
        ∧ (s.curingBed b = false → (s.thermal b).demand = 0))
    ∧ ∀ p ∈ s.piece.recs, ∀ a ∈ p.account, accountInRange a.maturity a.remainder

/-! ### Ground under loads (R135) -/

/-- No live CARRY's loaded span overlaps an enabled region, or the span of a bed in the no-load set unless
the order carries LOAD_OVER (R135). -/
abbrev State.groundLaw (s : State) : Prop :=
  ∀ c : Fin 4, ∀ o ∈ (s.crane c).current, ∀ i ∈ o.loadedSpan,
    s.overRegion .closed i = false ∧ s.overRegion .noLoad i = false
      ∧ ∀ b : Fin 24, s.noLoadBed b = true → i.overlaps (s.bedSpan b) = true → o.loadOver = true

/-! ### Between commands -/

/-- Every admission opportunity handed over has been taken (R128, log entry 5). -/
abbrev State.settled (s : State) : Prop := s.runway.opportunities = 0

/-! ### What the statements say of a next state -/

/-- The commands of the line unit's ports and of the start supervisor's pins; every other command is one
of a block. -/
def ofPins : Instr → Bool
  | .frameReceiveP _ => true
  | .frameReceiveF _ => true
  | .frameError _ _ => true
  | .outputArbiter _ => true
  | .powerLoss => true
  | .resetnAssert => true
  | .backupFall => true
  | .powerUp _ => true
  | .resetnRelease _ => true
  | _ => false

/-- No order waits and no opportunity is left, so that no admission pass changes anything (R128). -/
abbrev State.noneWaiting (s : State) : Prop :=
  s.runway.waiting = [] ∧ s.runway.opportunities = 0

/-- The port P normal lane has room for a reply (R147). -/
abbrev State.replyRoom (s : State) : Prop := s.line.portP.normal.length < 16

/-- The port F normal lane has room for a frame (R147). -/
abbrev State.ringRoom (s : State) : Prop := s.line.portF.normal.length < 16

/-- A frame at the young end of the port P normal lane. -/
def withPlantFrame (f : Frame) (s : State) : State :=
  { s with line :=
      { s.line with portP := { s.line.portP with normal := s.line.portP.normal ++ [f] } } }

/-- A frame at the young end of the port F normal lane. -/
def withRingFrame (f : Frame) (s : State) : State :=
  { s with line :=
      { s.line with portF := { s.line.portF with normal := s.line.portF.normal ++ [f] } } }

/-- A request answered: taken from the head of the intake queue where it stands there, and its MGMT_REPLY
(kind 0Ch, the part's station, the request's source and sequence, the code, the status and the
contents) at the young end of the port P normal lane (R147, R152, 12.4). -/
def answered (f : Frame) (code : Byte) (st : Status) (contents : Bytes) (s : State) : State :=
  withPlantFrame
    { dst := f.src, src := s.sup.station, kind := 0x0C#8, seq := f.seq, flags := 0#8
      payload := code :: st.code :: contents }
    { s with line :=
        { s.line with
          intake := if s.line.intake.head? = some f then s.line.intake.tail else s.line.intake } }

/-- A panel report answered: taken from the frames handed over, and its PANEL_ANSWER (kind 05h, ring mark
set, the report's source, sequence and bed byte) at the young end of the port F normal lane (R9,
R145, R147, 12.3); `bed` is the bed byte. -/
def panelAnswered (f : Frame) (bed : Byte) (a : PanelAnswer) (s : State) : State :=
  withRingFrame
    { dst := f.src, src := s.sup.station, kind := 0x05#8, seq := f.seq, flags := 1#8
      payload := bed :: a.enc }
    { s with line := { s.line with handed := s.line.handed.erase f } }

/-- A BED_PANEL frame that holds the four conditions of R9 for a bed, with room for its answer. -/
abbrev State.panelTaken (s : State) (f : Frame) (event : Byte) (b : Fin 24) : Prop :=
  s.running = true ∧ s.ringRoom ∧ s.mgmt.configured = true
    ∧ f.payload = [byteOf b.val, event] ∧ (s.bedEntry b).enabled = true
    ∧ (s.bedEntry b).panel = some f.src

/-- A request that names a bed, with room for its reply. -/
abbrev State.bedRequest (s : State) (f : Frame) (code : Byte) (b : Fin 24) : Prop :=
  s.running = true ∧ s.replyRoom ∧ f.payload = [code, byteOf b.val]

/-- The one final HEAT frame of a bed that leaves CURING, with duty 0 (R76, 12.3). -/
def State.stopFrame (s : State) (b : Fin 24) (seq : Byte) : Frame :=
  { dst := (s.bedEntry b).heater.getD 0#8, src := s.sup.station, kind := 0x02#8, seq := seq
    flags := 1#8, payload := enc1 b.val ++ enc1 (s.bedEntry b).channel.val ++ enc2 0 }

/-- Among the frames offered to port F is the bed's final HEAT frame, its refresh timer started and its echo
awaited; said where the lane has taken all of them (R76, R80, R81). -/
def State.stopSent (s t : State) (b : Fin 24) : Prop :=
  (t.heatRec b).refresh = 60
    ∧ (t.line.portF.normal.length < 16 → ∃ seq,
        s.stopFrame b seq ∈ t.line.portF.normal.drop s.line.portF.normal.length
          ∧ (t.heatRec b).wait = some { duty := 0, left := 20, seq := seq })

/-- The port F normal lane after one bed has left CURING: the HEAT frames of the other beds, then the bed's
final one, then `rest`; where the lane was full all of them are dropped, with INSERT_OVERFLOW, and the
bed's wait is as it was (R76, R80, R147; log entry 8 for the final frame's place, 7 for its sequence). -/
def State.stoppedThen (s t : State) (b : Fin 24) (rest : List Frame) : Prop :=
  (t.line.portF.normal.length < 16 →
      (t.heatRec b).wait = some { duty := 0, left := 20, seq := t.heat.seq }
      ∧ ∃ others, t.line.portF.normal =
          s.line.portF.normal ++ others ++ s.stopFrame b t.heat.seq :: rest
        ∧ ∀ g ∈ others, g.kind = 0x02#8 ∧ g.payload.head? ≠ some (byteOf b.val))
    ∧ (16 ≤ s.line.portF.normal.length →
        (t.heatRec b).wait = (s.heatRec b).wait ∧ t.line.portF = s.line.portF
          ∧ (t.cause .insertOverflow).flag = true)

/-- A bed is in a state, and nothing else of the bed unit or the curing unit beside this bed's record and
thermal part has changed. -/
def State.bedMoved (s t : State) (b : Fin 24) (new : BedState) : Prop :=
  (t.bedRec b).state = new
    ∧ (∀ k, k ≠ b → t.bedRec k = s.bedRec k ∧ t.thermal k = s.thermal k)
    ∧ t.bed = { s.bed with recs := t.bed.recs }
    ∧ t.curing = { s.curing with thermal := t.curing.thermal }

/-- A CRANE_REPORT of a kind from a crane that has a current order and stays in its reservation, with no
order waiting: the crane, its order and the fields of the report. -/
abbrev State.orderReport (s : State) (f : Frame) (kind : Nat) (c : Fin 4) (o : CraneOrder)
    (pos : Nat) (loaded : Bool) : Prop :=
  s.running = true ∧ s.noneWaiting
    ∧ parseReport f.payload = some { kind := kind, position := pos, tag := o.tag, loaded := loaded }
    ∧ s.craneOf f.src = some c ∧ (s.crane c).current = some o
    ∧ (match (s.crane c).reservation with
       | some r => (envelopeAt (s.craneEntry c).clearance (min 20000 pos)).within r
       | none => false) = true

/-- A crane that does not overrun when it reports from a position: it is HALTED, or its envelope there
lies within its reservation, or, without one, clear of every other crane's (R121). -/
abbrev State.keepsClear (s : State) (c : Fin 4) (pos : Nat) : Prop :=
  (s.crane c).control = .halted
    ∨ (∃ r ∈ (s.crane c).reservation,
        (envelopeAt (s.craneEntry c).clearance (min 20000 pos)).within r = true)
    ∨ ((s.crane c).reservation = none ∧ ∀ d, d ≠ c → ∀ i ∈ (s.crane d).reservation,
        i.overlaps (envelopeAt (s.craneEntry c).clearance (min 20000 pos)) = false)

/-- The HALT frame of a crane with a reason's code offered on port F: in the urgent lane where that has
room (R122, 12.3; log entry 7 for its sequence, 33 for its coming before the cause's notice). -/
def State.haltSent (s t : State) (c : Fin 4) (reason : Nat) : Prop :=
  s.line.portF.urgent.length < 4 → t.line.portF.urgent = s.line.portF.urgent ++
    [{ dst := (s.craneEntry c).station.getD 0#8, src := s.sup.station, kind := 0x09#8
       seq := s.line.seq + 1#8, flags := 1#8
       payload := enc1 c.val ++ enc1 reason ++ enc2 (s.currentTag c) }]

/-- The other cranes, and the runway unit beside its cranes, are as they were. -/
abbrev State.onlyCrane (s t : State) (c : Fin 4) : Prop :=
  (∀ d, d ≠ c → t.crane d = s.crane d) ∧ t.runway = { s.runway with cranes := t.runway.cranes }

/-- The crane as a report from a position leaves it, before its kind is acted on (R120, R121). -/
def State.reported (s : State) (c : Fin 4) (pos : Nat) : Crane :=
  { s.crane c with
    position := some (min 20000 pos)
    envelope := some
      { lo := min 20000 pos - (s.craneEntry c).clearance
        hi := min 20000 (min 20000 pos + (s.craneEntry c).clearance) }
    presence := .reporting
    silence := 10 }

/-- A crane after its order has ended (R129, R132, R133). -/
def Crane.ended (k : Crane) (hook : Option Nat) : Crane :=
  { k with reservation := none, current := none, hook := hook
           control := if k.control = .halted then .halted else .free }

/-- An order that a report naming it has made ACTIVE (R130, R131). -/
def CraneOrder.started (o : CraneOrder) : CraneOrder :=
  if o.state = .admitted then { o with state := .active, startTimer := 0 } else o

/-- The answer to an order (8.4, 12.3): to its source station, with its sequence, tag and crane. -/
def State.orderAnswer (s : State) (f : Frame) (tag crane : Nat) (a : Answer) : Frame :=
  { dst := f.src, src := s.sup.station, kind := 0x07#8, seq := f.seq, flags := 0#8
    payload := enc2 tag ++ enc1 crane ++ a.enc }

/-- The state after the admission of an order whose crane is at a position: reservation, control, current
order and claim, the grant number advanced, the stamped ORDER on port F and the answer ADMITTED on
port P, each at the young end of a lane with room (R126). -/
def State.afterAdmission (s : State) (o : CraneOrder) (pos : Nat) : State :=
  let g : Byte := if s.runway.grantNumber = 255#8 then 1#8 else s.runway.grantNumber + 1#8
  let span := s.orderSpan o.crane pos o.task
  { s with
    runway := { s.runway with
      cranes := tset s.runway.cranes o.crane { s.crane o.crane with
        reservation := some span, control := .ordered
        current := some { o with
          state := .admitted, waitTimer := 0, startTimer := s.runway.startWindow
          span := some span, loadedSpan := s.orderLoaded o.crane pos o.task
          binding := if s.isCensus o.task = true then some .unbound else none
          stamp := (s.sup.station, g) } }
      grantNumber := g }
    stock := match o.task.destSlot with
      | some n => { s.stock with
          slots := tset s.stock.slots n { s.slot n with claims := (s.slot n).claims + 1 } }
      | none => s.stock
    line := { s.line with
      portF := { s.line.portF with normal := s.line.portF.normal ++
        [{ o.frame with flags := o.frame.flags ||| 1#8
                        payload := o.frame.payload.take 15 ++ [s.sup.station, g] }] }
      portP := { s.line.portP with normal := s.line.portP.normal ++
        [s.orderAnswer o.frame o.tag o.crane.val (.admitted g)] } } }

/-- A mark is the piece named by, or bound to, a current order of a crane (R108, R125). -/
def State.namedByOrder (s : State) (m : Nat) : Prop :=
  ∃ c x, (s.crane c).current = some x ∧ (x.mark = some m ∨ x.binding = some (.bound m))

/-- The slot's stack and the piece records after a piece has left a slot: the mark is gone from the stack,
and every other record is as it was, but for the level of one on that slot, which is its place in the stack
that is left, counted from 1 (R89, R98, R104). -/
def State.unstacked (s t : State) (n : Fin 1024) (m : Nat) : Prop :=
  (t.slot n).stack = (s.slot n).stack.erase m
    ∧ ∀ k p, k ≠ m → s.findPiece k = some p → t.findPiece k = some { p with
        location := match p.location with
          | .slot j v => .slot j (if j = n then (t.slot n).stack.idxOf k + 1 else v)
          | place => place }

/-- What a cold start leaves: every block at its cold-start values, START raised with the value COLD as the
one notice, ATTN driven, the latch clear (R164, R167). -/
def coldStarted (strap : Station) (s t : State) : Prop :=
  t = { State.cold strap with
        notice := State.reset.notice, freeCount := s.freeCount, pending := s.pending }

/-- A port after a start: all empty and 0, the fault limit kept (R151). -/
def PortUnit.started (u : PortUnit) : PortUnit := { faultLimit := u.faultLimit }

/-- The line unit after a start (R151). -/
def LineUnit.started (l : LineUnit) : LineUnit :=
  { portP := l.portP.started, portF := l.portF.started }

/-- The notice queue after a warm start: START with the start kind, PIECE_AT_LARGE with the number of
records made AT_LARGE where there is one, and BED_BLIND for each watched bed in ascending bed number,
each with its class and the works minute, and none for a masked cause (R156, R164, R168). -/
def State.warmQueue (s : State) (n : Nat) : List Notice :=
  let rec1 := fun (c : Cause) (sub : Subject) (v : Int) =>
    if (s.cause c).masked = true then [] else
      [{ cause := c, cls := (s.cause c).cls, subject := sub, value := v, second := 0
         minute := s.sup.worksMinute : Notice }]
  rec1 .start .part 1 ++ (if n = 0 then [] else rec1 .pieceAtLarge (.unit 6) n)
    ++ ((indexes 24).filter s.watched).flatMap fun b => rec1 .bedBlind (.bed b) 0

/-- What a warm start leaves (R21, R34, R73, R86, R101, R117, R139, R151, R164, R168). The subject of
PIECE_AT_LARGE is DEDUCED (log entry 35). -/
def warmStarted (strap : Station) (s t : State) : Prop :=
  let n := s.piece.recs.countP fun p => (indexes 4).any fun c => (s.crane c).hook = some p.mark
  t.line = s.line.started
    ∧ t.sup = { s.sup with station := strap, kind := .warm, powered := true, resetHeld := false
                           minuteTimer := 0 }
    ∧ t.mgmt = s.mgmt
    ∧ (∀ c, t.crane c = {})
    ∧ t.runway = { s.runway with
        cranes := t.runway.cranes, waiting := [], strayReports := 0, opportunities := 0 }
    ∧ (∀ n, t.slot n = { s.slot n with claims := 0 })
    ∧ t.stock = { s.stock with slots := t.stock.slots, buried := 0 }
    ∧ t.piece.recs = s.piece.recs.map (fun p =>
        if ∃ c, (s.crane c).hook = some p.mark then
          { p with state := .atLarge, location := .none, ready := false }
        else if p.state = .inStock then { p with flags := { p.flags with outage := true } } else p)
    ∧ (∀ b, t.bedRec b = { s.bedRec b with
        state := if (s.bedRec b).state = .releasing then .releasable else (s.bedRec b).state
        permit := 0
        flags := if s.watched b = true then { (s.bedRec b).flags with outage := true }
                 else (s.bedRec b).flags })
    ∧ t.bed = { s.bed with recs := t.bed.recs, duplicates := 0 }
    ∧ (∀ b, (t.thermal b).margin =
        if s.watched b = true then s.bedMargin b else (s.thermal b).margin)
    ∧ (∀ b, s.curingBed b = false →
        t.thermal b = { s.thermal b with margin := (t.thermal b).margin })
    ∧ (∀ b o, s.curingBed b = true → (s.bedRec b).order = some o →
        t.thermal b =
          let kept : Thermal :=
            { s.thermal b with
              prevError := none, waiting := .none, coolPending := false, blindCount := 0
              withheld := false, overheat := false, stall := false, pause := .running
              margin := (t.thermal b).margin }
          match o.policy with
          | .resume => kept
          | .hold => { kept with pause := .paused }
          | .cool =>
            if kept.phase = .cool ∨ kept.phase = .soak then kept
            else { kept with phase := .cool, coolStart := some kept.target, clock := 0
                             rampStart := none })
    ∧ t.curing = { s.curing with thermal := t.curing.thermal }
    ∧ (∀ b, t.heatRec b =
        if s.curingBed b = true then { state := .driven, refresh := 60 }
        else if (s.heatRec b).state = .stopping then { state := .stopping, refresh := 60 } else {})
    ∧ t.heat = { s.heat with recs := t.heat.recs, seq := 0, strayAcks := 0 }
    ∧ (∀ i, t.probeRec i = { value := (s.probeRec i).value, age := 255, jumps := 0, forced := false
                             state := .stale })
    ∧ t.probe = { s.probe with recs := t.probe.recs, malformed := 0, survey := true }
    ∧ (∀ c, t.cause c = { s.cause c with
        flag := decide (c = .start ∨ (c = .bedBlind ∧ ∃ b, s.watched b = true)
                        ∨ (c = .pieceAtLarge ∧ n ≠ 0)) })
    ∧ t.notice.queue = s.warmQueue n
    ∧ t.notice.attn = attnLevel t.notice.causes
    ∧ t.freeCount = s.freeCount

/-- What a start into pass-through leaves: the line unit set, the counts 0, ATTN not driven, the record
store, the flags and the notice queue as they stood, the stale survey set (R28, R150, R151, R162, R166;
log entry 35 for the counts and the survey). -/
def passStarted (strap : Station) (s t : State) : Prop :=
  t.line = s.line.started
    ∧ t.sup = { s.sup with station := strap, kind := .passThrough, powered := true
                           resetHeld := false }
    ∧ t.notice = { s.notice with attn := false }
    ∧ t.curing = s.curing ∧ t.piece = s.piece ∧ t.mgmt = s.mgmt
    ∧ t.bed = { s.bed with duplicates := 0 } ∧ t.probe = { s.probe with malformed := 0, survey := true }
    ∧ t.heat = { s.heat with strayAcks := 0 } ∧ t.stock = { s.stock with buried := 0 }
    ∧ t.runway = { s.runway with strayReports := 0, opportunities := 0 }
    ∧ t.freeCount = s.freeCount

/-- A start by the rows of R166: `s` is the state the start finds, with the BACKUP_LOST latch already set
where CLEAR_ALL began it. -/
def startTaken (strap : Station) (s t : State) : Prop :=
  (1 ≤ strap.toNat → strap.toNat ≤ 250 → s.sup.backupLost = true → coldStarted strap s t)
    ∧ (1 ≤ strap.toNat → strap.toNat ≤ 250 → s.sup.backupLost = false → warmStarted strap s t)
    ∧ (strap.toNat = 0 ∨ 250 < strap.toNat → passStarted strap s t)

/-- A part within a start that a cut has found, `s` as for `startTaken`: which units the steps before the
cut have set, the strap read, the start kind as recorded before, the BACKUP_LOST latch as it stood, and
ATTN by the flags (R165, R167; log entry 14). A start into pass-through is one step. -/
def startReached (strap : Station) (steps : Nat) (s u : State) : Prop :=
  let cold := s.sup.backupLost
  let k := min 4 steps
  (strap.toNat = 0 ∨ 250 < strap.toNat → passStarted strap s u)
    ∧ (1 ≤ strap.toNat → strap.toNat ≤ 250 →
        u.sup = { s.sup with
          station := strap, powered := true, resetHeld := false
          worksMinute := if cold = true ∧ 1 ≤ k then 0 else s.sup.worksMinute }
        ∧ u.line = (if k < 2 then s.line else if cold = true then {} else s.line.started)
        ∧ u.notice.attn = (s.sup.kind != .passThrough && attnLevel u.notice.causes)
        ∧ (k < 3 → u.notice.queue = s.notice.queue ∧ ∀ c,
            u.cause c = if cold = true ∧ 1 ≤ k then { c.coldState with flag := (s.cause c).flag }
                        else s.cause c)
        ∧ (3 ≤ k → cold = true → u.notice.queue = State.reset.notice.queue
            ∧ u.notice.causes = State.reset.notice.causes)
        ∧ (k = 3 → cold = false → u.notice.queue = (s.warmQueue 0).filter (fun n => n.cause = .start)
            ∧ ∀ c, u.cause c = { s.cause c with flag := decide (c = .start) })
        ∧ (k < 4 → u = { s with line := u.line, notice := u.notice, sup := u.sup })
        ∧ (k = 4 → cold = true → u = { State.cold strap with
            notice := u.notice, sup := u.sup, freeCount := s.freeCount, pending := s.pending })
        ∧ (k = 4 → cold = false → ∃ w, warmStarted strap s w
            ∧ u = { w with sup := u.sup, notice := { w.notice with attn := u.notice.attn } }))

/-- The state that a command leaves which begins a start from `s`: that of the start done, or of the part
stopped by the event that cuts it off (R165, R167). -/
def startAnswered (pins : StartPins) (s t : State) : Prop :=
  (pins.cut = none → startTaken pins.strap s t)
    ∧ (∀ k, pins.cut = some { steps := k, stop := .powerLoss } →
        ∃ u, startReached pins.strap k s u ∧ exec .powerLoss u = .next t)
    ∧ (∀ k, pins.cut = some { steps := k, stop := .resetn } →
        ∃ u, startReached pins.strap k s u ∧ exec .resetnAssert u = .next t)

end Sys2Proof.Machine
end

