-- ==== Sys2Proof/WellFormed.lean ====
section
/-! DEFINITION. When a command is well formed: its operands are those its row can be given (log entry 3). The
meanings are total and do not need it; a command that is not well formed is one the part would never
be handed under that name. -/

namespace Sys2Proof

open Machine

/-- A frame that can have passed the receive checks: payload of 0 to 192 bytes, destination 0 to 250
(R140, 12.1). -/
def Frame.wf (f : Frame) : Bool := decide (f.payload.length ≤ Config.maxPayload ∧ f.dst.toNat ≤ 250)

/-- A frame of a kind. -/
def Frame.ofKind (f : Frame) (k : Byte) : Bool := f.wf && f.kind = k

/-- The events of a panel (12.3). -/
def panelEvents : List Byte := [1#8, 2#8, 3#8, 4#8, 5#8]

/-- A BED_PANEL frame for a row: its event is the row's, or is no event of a panel, or the payload is
malformed; a frame of the last two kinds is answered IGNORED under any of the five rows (R9, R170). -/
def Frame.panelWf (f : Frame) (event : Byte) : Bool :=
  f.ofKind kBedPanel &&
    (match f.payload with
     | [_, e] => e = event || !panelEvents.contains e
     | _ => true)

/-- A CRANE_REPORT frame for a row: its report kind is the row's, or none of the five, or the payload is
malformed (R170). -/
def Frame.reportWf (f : Frame) (kind : Byte) : Bool :=
  f.ofKind kCraneReport &&
    (match f.payload with
     | [k, _, _, _, _, _] => k = kind || !panelEvents.contains k
     | _ => true)

/-- A MGMT frame whose request code is a row's (12.4). -/
def Frame.requestWf (f : Frame) (code : Byte) : Bool := f.ofKind kMgmt && f.payload.head? = some code

/-- A TABLE_WRITE frame for a row: it names the row's table, or no table of the list, or none
(R152, R153). -/
def Frame.writeWf (f : Frame) (table : Byte) : Bool :=
  f.requestWf qTableWrite &&
    (match f.payload with
     | _ :: t :: _ => t = table || !tableNames.contains t
     | _ => true)

/-- A run of bytes that is a good frame (R140). -/
def goodRun (run : Bytes) : Bool :=
  match judge run with
  | .ok _ => true
  | .error _ => false

/-- A cut falls after at most four of the steps of a start (R167; log entry 14). -/
def cutWf : Option StartCut → Bool
  | some c => decide (c.steps ≤ 4)
  | none => true

/-- A command is well formed. -/
def Instr.wf : Instr → Bool
  | .frameReceiveP run => goodRun run
  | .frameReceiveF run => goodRun run
  | .frameError _ run => !goodRun run
  | .outputArbiter _ => true
  | .sample f => f.ofKind kSample
  | .heatAck f => f.ofKind kHeatAck
  | .panelStressed f => f.panelWf 1#8
  | .panelCastDone f => f.panelWf 2#8
  | .panelDetensionAsk f => f.panelWf 3#8
  | .panelDetensioned f => f.panelWf 4#8
  | .panelBedClear f => f.panelWf 5#8
  | .order f => f.ofKind kOrder
  | .reportPosition f => f.reportWf 1#8
  | .reportStarted f => f.reportWf 2#8
  | .reportLifted f => f.reportWf 3#8
  | .reportComplete f => f.reportWf 4#8
  | .reportAborted f => f.reportWf 5#8
  | .hookScan f => f.ofKind kHookScan
  | .worksMinuteExpiry => true
  | .probeMinute => true
  | .curingMinute => true
  | .pieceMinute => true
  | .refreshExpiry _ => true
  | .ackWaitExpiry _ => true
  | .silenceExpiry _ => true
  | .waitExpiry _ tag => decide (tag < 65536)
  | .orderLapse _ => true
  | .tableWriteBed f => f.writeWf tBed
  | .tableWriteProbeMap f => f.writeWf tProbeMap
  | .tableWriteMix f => f.writeWf tMix
  | .tableWriteSchedule f => f.writeWf tSchedule
  | .tableWriteArea f => f.writeWf tArea
  | .tableWriteService f => f.writeWf tService
  | .tableWriteCrane f => f.writeWf tCrane
  | .tableWriteRegion f => f.writeWf tRegion
  | .tableWriteBay f => f.writeWf tBay
  | .tableWriteParameter f => f.writeWf tParameter
  | .tableRead f => f.requestWf qTableRead
  | .tablesReady f => f.requestWf qTablesReady
  | .bedOrder f => f.requestWf qBedOrder
  | .bedCancel f => f.requestWf qBedCancel
  | .bedAbandon f => f.requestWf qBedAbandon
  | .bedPause f => f.requestWf qBedPause
  | .bedResume f => f.requestWf qBedResume
  | .bedCool f => f.requestWf qBedCool
  | .readBed f => f.requestWf qReadBed
  | .setBudget f => f.requestWf qSetBudget
  | .shed f => f.requestWf qShed
  | .craneRelease f => f.requestWf qCraneRelease
  | .readCrane f => f.requestWf qReadCrane
  | .censusBegin f => f.requestWf qCensusBegin
  | .censusEnd f => f.requestWf qCensusEnd
  | .pieceDeclare f => f.requestWf qPieceDeclare
  | .pieceSetMaturity f => f.requestWf qPieceSetMaturity
  | .pieceDrop f => f.requestWf qPieceDrop
  | .readPiece f => f.requestWf qReadPiece
  | .readSlot f => f.requestWf qReadSlot
  | .probeForce f => f.requestWf qProbeForce
  | .readFlags f => f.requestWf qReadFlags
  | .readClearFlags f => f.requestWf qReadClearFlags
  | .setCause f => f.requestWf qSetCause
  | .readCounters f => f.requestWf qReadCounters
  | .restart f pins => f.requestWf qRestart && cutWf pins.cut
  | .clearAll f pins => f.requestWf qClearAll && cutWf pins.cut
  | .unknownRequest f => f.ofKind kMgmt && !requestCodes.contains (f.payload.headD 0#8)
  | .powerLoss => true
  | .resetnAssert => true
  | .backupFall => true
  | .powerUp pins => cutWf pins.cut
  | .resetnRelease pins => cutWf pins.cut

end Sys2Proof
end

