-- ==== Sys2Proof/Certificates/Slice0/Obligations.lean ====
section
/-! DEFINITION. The statements for the provers. Those whose basis is 'stated' formalise whole rules of the
manual; where a statement rests on a choice of the model its docstring names the log entry. -/

open Sys2Proof Sys2Proof.Machine

/-! ### The machine -/

/-- A step with a command at the front of the queue is that command on the state with the queue's rest. -/
def Obligations.StepRunsFrontCommand : Prop :=
  ∀ (c : Instr) (s : State), step { s with pending := c :: s.pending } = exec c s

/-- The model's choice (log entry 11): with no command waiting a second passes. The timers of R81, R84,
R120, R127 and R129 run down, the works-minute timer runs up to 60, and the notice unit then offers the
first record of its queue where R159 lets it; nothing else changes, and a part that does not run stands
still. That the frame takes the counter as it has just risen is log entry 7. -/
def Obligations.IdleSecondRunsTimers : Prop :=
  ∀ s : State, s.pending = [] →
    let u : State := { s with
      heat := { s.heat with recs := tmap (fun h => { h with
        refresh := h.refresh - 1
        wait := h.wait.map fun w => { w with left := w.left - 1 } }) s.heat.recs }
      runway := { s.runway with
        cranes := tmap (fun k => { k with
          silence := if k.presence = .reporting then k.silence - 1 else k.silence
          current := k.current.map fun o =>
            if o.state = .admitted then { o with startTimer := o.startTimer - 1 } else o })
          s.runway.cranes
        waiting := s.runway.waiting.map fun o => { o with waitTimer := o.waitTimer - 1 } }
      sup := { s.sup with minuteTimer := min 60 (s.sup.minuteTimer + 1) } }
    (s.running = false → step s = .next s)
    ∧ (s.running = true →
        step s = .next (offerNotice u)
        ∧ (s.mgmt.noticeStation = none ∨ s.notice.queue = []
              ∨ (∃ f ∈ s.line.portP.normal, f.kind = 0x0D#8) ∨ 16 ≤ s.line.portP.normal.length →
            step s = .next u)
        ∧ (∀ dst pre n post, s.mgmt.noticeStation = some dst → s.notice.queue = pre ++ n :: post →
            (∀ m ∈ pre, m.cls < n.cls) → (∀ m ∈ post, m.cls ≤ n.cls) →
            (∀ f ∈ s.line.portP.normal, f.kind ≠ 0x0D#8) → s.line.portP.normal.length < 16 →
            step s = .next { u with
              notice := { s.notice with queue := pre ++ post }
              line := { s.line with
                seq := s.line.seq + 1#8
                portP := { s.line.portP with normal := s.line.portP.normal ++
                  [{ dst := dst, src := s.sup.station, kind := 0x0D#8, seq := s.line.seq + 1#8
                     flags := 0#8, payload := n.enc }] } } }))

/-- The model's choice (log entry 6): no command stops the part; each has a next state, in which the queue
of waiting commands is as it was. -/
def Obligations.EveryCommandCompletes : Prop :=
  ∀ (c : Instr) (s : State), ∃ t, exec c s = .next t ∧ t.pending = s.pending

/-! ### Layouts and the works line -/

/-- A frame put on the wire passes the receive checks and is read back whole, and a run of bytes that
passes them is the wire form of the frame it is read as (R140, R169). -/
def Obligations.WireFramesRoundTrip : Prop :=
  (∀ f : Frame, f.wf = true → judge (wireOf f) = .ok f)
    ∧ (∀ (run : Bytes) (f : Frame), judge run = .ok f → f.wf = true ∧ run = wireOf f)

/-- What TABLE_READ sends of an entry is what a TABLE_WRITE wrote of it, byte for byte, for every entry of
the bed, crane, region, bay and service tables, and for a present entry of the mix and schedule
tables (R1, R40, R41, R50, R106, R119; the byte layouts are the model's, log entries 21 to 24). -/
def Obligations.TableEntriesReadBack : Prop :=
  ∀ bytes : Bytes,
    (∀ e, parseBedEntry bytes = some e → encBedEntry e = bytes)
    ∧ (∀ x, parseMix bytes = some x → x.present = true → encMix x = bytes)
    ∧ (∀ r, parseSchedule bytes = some (some r) → encSchedule (some r) = bytes)
    ∧ (∀ e, parseCraneEntry bytes = some e → encCraneEntry e = bytes)
    ∧ (∀ e, parseRegion bytes = some e → encRegion e = bytes)
    ∧ (∀ e, parseBay bytes = some e → encOpt2 e = bytes)
    ∧ (∀ b, parseService bytes = some b → enc1 (serviceCode b) = bytes)

/-- The fate of a good frame on port P, by the rows of R143 and its text on the full intake queue. -/
def Obligations.GoodFrameOnPortP : Prop :=
  ∀ (s : State) (run : Bytes) (f : Frame), s.running = true → judge run = .ok f →
    let g : State :=
      { s with line := { s.line with portP := { s.line.portP with consecutive := 0 } } }
    (f.dst = s.sup.station → f.kind = 0x0B#8 →
      (s.line.intake.length < 4 → exec (.frameReceiveP run) s =
        .next { g with line := { g.line with intake := s.line.intake ++ [f] } })
      ∧ (4 ≤ s.line.intake.length → exec (.frameReceiveP run) s =
        .next (raise .forwardOverflow (.port .pPort) 11 g)))
    ∧ (f.dst = s.sup.station → f.kind ≠ 0x0B#8 → exec (.frameReceiveP run) s =
        .next { g with line := { g.line with stray := min 65535 (s.line.stray + 1) } })
    ∧ (f.dst ≠ s.sup.station → f.kind = 0x06#8 → (∃ c, (s.craneEntry c).station = some f.dst) →
        exec (.frameReceiveP run) s =
          .next { g with line := { g.line with handed := s.line.handed ++ [f] } })
    ∧ (f.dst ≠ s.sup.station →
        (f.kind ≠ 0x06#8 ∨ ∀ c, (s.craneEntry c).station ≠ some f.dst) →
        (s.line.portF.forward.length < 8 → exec (.frameReceiveP run) s =
          .next { g with line :=
            { g.line with portF :=
              { s.line.portF with
                forward := s.line.portF.forward ++ [{ f with flags := f.flags ||| 1#8 }] } } })
        ∧ (8 ≤ s.line.portF.forward.length → exec (.frameReceiveP run) s =
            .next (raise .forwardOverflow (.port .fPort) f.kind.toNat g)))

/-- The fate of a good frame on port F, by the nine rows of R144, with the field stations of 9.2. -/
def Obligations.GoodFrameOnPortF : Prop :=
  ∀ (s : State) (run : Bytes) (f : Frame), s.running = true → judge run = .ok f →
    let st := s.sup.station
    let g : State :=
      { s with line := { s.line with portF := { s.line.portF with consecutive := 0 } } }
    let stray : State := { g with line := { g.line with stray := min 65535 (s.line.stray + 1) } }
    let handed : State := { g with line := { g.line with handed := s.line.handed ++ [f] } }
    (f.flags.getLsbD 0 = true →
      exec (.frameReceiveF run) s = .next
        (if f.dst = 0#8 ∨ f.dst = st then g
         else { g with line := { g.line with undelivered := min 65535 (s.line.undelivered + 1) } }))
    ∧ (f.flags.getLsbD 0 = false → f.src = st → exec (.frameReceiveF run) s = .next stray)
    ∧ (f.flags.getLsbD 0 = false → f.src ≠ st → f.dst = st →
        ((f.kind = 0x03#8 ∨ f.kind = 0x04#8 ∨ f.kind = 0x01#8) →
          exec (.frameReceiveF run) s = .next handed)
        ∧ (f.kind = 0x0B#8 → exec (.frameReceiveF run) s = .next
            (offerNormal .fPort { dst := f.src, src := st, kind := 0x0C#8, seq := f.seq
                                  flags := 1#8, payload := [f.payload.headD 0#8, 8#8] } g))
        ∧ (f.kind ≠ 0x03#8 → f.kind ≠ 0x04#8 → f.kind ≠ 0x01#8 → f.kind ≠ 0x0B#8 →
            exec (.frameReceiveF run) s = .next stray))
    ∧ (f.flags.getLsbD 0 = false → f.src ≠ st → f.dst ≠ st →
        (f.dst = 0#8 ∨ s.fieldStation f.dst = false) →
        let h := if f.kind = 0x01#8 ∨ f.kind = 0x08#8 ∨ f.kind = 0x0A#8 then handed else g
        (s.line.portP.forward.length < 8 → exec (.frameReceiveF run) s = .next
          { h with line := { h.line with portP :=
              { s.line.portP with forward := s.line.portP.forward ++ [f] } } })
        ∧ (8 ≤ s.line.portP.forward.length → exec (.frameReceiveF run) s =
            .next (raise .forwardOverflow (.port .pPort) f.kind.toNat h)))
    ∧ (f.flags.getLsbD 0 = false → f.src ≠ st → f.dst ≠ st → f.dst ≠ 0#8 →
        s.fieldStation f.dst = true →
        (s.line.portF.forward.length < 8 → exec (.frameReceiveF run) s = .next
          { g with line := { g.line with portF :=
              { g.line.portF with
                forward := s.line.portF.forward ++ [{ f with flags := f.flags ||| 1#8 }] } } })
        ∧ (8 ≤ s.line.portF.forward.length → exec (.frameReceiveF run) s =
            .next (raise .forwardOverflow (.port .fPort) f.kind.toNat g)))
    ∧ (∀ x, s.fieldStation x = true ↔
        ((∃ i, (s.probeEntry i).enabled = true ∧ (s.probeEntry i).station = x)
          ∨ (∃ b, (s.bedEntry b).enabled = true
              ∧ ((s.bedEntry b).panel = some x ∨ (s.bedEntry b).heater = some x))
          ∨ (∃ c, (s.craneEntry c).station.isSome = true
              ∧ ((s.craneEntry c).station = some x ∨ (s.craneEntry c).hookReader = some x))))

/-- A failed frame raises both error counts of its port by 1, saturating, fills the latch where that is
empty, and raises LINE_FAULT where it brings the consecutive count from below the fault limit to it
(R141, R142). -/
def Obligations.FailedFrameCounted : Prop :=
  ∀ (s : State) (q : Port) (run : Bytes) (e : RxError), s.running = true → judge run = .error e →
    let u := s.port q
    let n := min 255 (u.consecutive + 1)
    let t := modPort q (fun u =>
      { u with total := min 65535 (u.total + 1), consecutive := n
               latch := some (u.latch.getD { error := e, source := run[1]?, kind := run[2]? }) }) s
    (u.consecutive < u.faultLimit ∧ u.faultLimit ≤ n →
      exec (.frameError q run) s = .next (raise .lineFault (.port q) n t))
    ∧ (¬(u.consecutive < u.faultLimit ∧ u.faultLimit ≤ n) → exec (.frameError q run) s = .next t)

/-- The output arbiter's choice by the first row of R149 that fits, for either port, while no notice
waits to be offered; the other port is as it was. That the command is the transmitter's becoming free,
whatever frame was in transmission, is the model's choice (log entry 39). -/
def Obligations.ArbiterChooses : Prop :=
  ∀ (s : State) (q : Port), s.operating = true → (q = .pPort → s.notice.queue = []) →
    let u := s.port q
    (∀ f rest, u.urgent = f :: rest → exec (.outputArbiter q) s =
      .next (modPort q (fun u => { u with urgent := rest, sending := some f }) s))
    ∧ (u.urgent = [] →
        (∀ f rest, u.forward = f :: rest → u.normal ≠ [] → u.run < 4 →
          exec (.outputArbiter q) s = .next (modPort q (fun u =>
            { u with forward := rest, sending := some f, run := u.run + 1 }) s))
        ∧ (∀ n more, u.forward ≠ [] → u.normal = n :: more → 4 ≤ u.run →
            exec (.outputArbiter q) s = .next (modPort q (fun u =>
              { u with normal := more, sending := some n, run := 0 }) s))
        ∧ (∀ f rest, u.forward = f :: rest → u.normal = [] →
            exec (.outputArbiter q) s = .next (modPort q (fun u =>
              { u with forward := rest, sending := some f, run := 0 }) s))
        ∧ (∀ n more, u.forward = [] → u.normal = n :: more →
            exec (.outputArbiter q) s = .next (modPort q (fun u =>
              { u with normal := more, sending := some n, run := 0 }) s)))

/-- While main power is off, while RESETn is held, and in pass-through no command of a block has an effect
(R150, R165); while the part is stopped no frame is taken or sent either; in pass-through every good
frame is carried by the table of R150, a failed frame is dropped, and nothing else changes. -/
def Obligations.StoppedAndPassThrough : Prop :=
  (∀ (c : Instr) (s : State), s.running = false →
    (ofPins c = false → exec c s = .next s)
    ∧ (s.operating = false → ∀ run q,
        exec (.frameReceiveP run) s = .next s ∧ exec (.frameReceiveF run) s = .next s
          ∧ exec (.frameError q run) s = .next s ∧ exec (.outputArbiter q) s = .next s))
  ∧ (∀ (s : State) (run : Bytes), s.operating = true → s.sup.kind = .passThrough →
      (∀ e, judge run = .error e →
        exec (.frameReceiveP run) s = .next s ∧ exec (.frameReceiveF run) s = .next s
          ∧ exec (.frameError .pPort run) s = .next s ∧ exec (.frameError .fPort run) s = .next s)
      ∧ (∀ f, judge run = .ok f →
          exec (.frameReceiveP run) s = .next
            (if s.line.portF.forward.length < 8 then
              { s with line := { s.line with portF := { s.line.portF with
                  forward := s.line.portF.forward ++ [{ f with flags := f.flags ||| 1#8 }] } } }
             else s)
          ∧ exec (.frameReceiveF run) s = .next
            (if f.flags.getLsbD 0 = false ∧ s.line.portP.forward.length < 8 then
              { s with line := { s.line with portP := { s.line.portP with
                  forward := s.line.portP.forward ++ [f] } } }
             else s)))

/-- A HALT enters the urgent lane of port F, or the head of its normal lane by the steps of R148, where it
displaces the oldest HEAT frame, or the frame nearest the tail of a full lane. The wait of the bed whose
HEAT frame is displaced is dropped (R82) where it is for that very frame, which the model tells by its
sequence number (DEDUCED, log entry 28). -/
def Obligations.HaltPlacement : Prop :=
  ∀ (s : State) (f : Frame),
    let lane := s.line.portF.normal
    let atHead (rest : List Frame) (u : State) : State :=
      { u with line := { u.line with portF := { u.line.portF with normal := f :: rest } } }
    let lost (x : Frame) (rest : List Frame) : State :=
      raise .insertOverflow (.port .fPort) x.kind.toNat
        { s with line := { s.line with portF := { s.line.portF with normal := rest } } }
    (s.line.portF.urgent.length < 4 → offerHalt f s =
      { s with line := { s.line with portF :=
          { s.line.portF with urgent := s.line.portF.urgent ++ [f] } } })
    ∧ (4 ≤ s.line.portF.urgent.length →
        (∀ pre h post, lane = pre ++ h :: post → h.kind = 0x02#8 → (∀ x ∈ pre, x.kind ≠ 0x02#8) →
          ∃ hu, offerHalt f s = atHead (pre ++ post) { s with heat := hu }
            ∧ (∀ b : Fin 24, h.payload.head? = some (byteOf b.val) →
                tget hu.recs b =
                  match (s.heatRec b).wait with
                  | some w => if w.seq = h.seq then { s.heatRec b with wait := none }
                              else s.heatRec b
                  | none => s.heatRec b)
            ∧ (∀ b : Fin 24, h.payload.head? ≠ some (byteOf b.val) →
                tget hu.recs b = s.heatRec b)
            ∧ hu = { s.heat with recs := hu.recs })
        ∧ ((∀ x ∈ lane, x.kind ≠ 0x02#8) → lane.length < 16 → offerHalt f s = atHead lane s)
        ∧ ((∀ x ∈ lane, x.kind ≠ 0x02#8) → 16 ≤ lane.length →
            (∀ pre x post, lane = pre ++ x :: post → x.kind ≠ 0x09#8 →
              (∀ y ∈ post, y.kind = 0x09#8) →
              offerHalt f s = atHead (pre ++ post) (lost x (pre ++ post)))
            ∧ (∀ pre x, lane = pre ++ [x] → (∀ y ∈ lane, y.kind = 0x09#8) →
                offerHalt f s = atHead pre (lost x pre))))

/-! ### Notices -/

/-- A raised cause has its flag set whatever its mask; an unmasked one has its record, with the class of
that moment and the works minute, put at the young end of a queue that has room; a masked one and
NOTICE_OVERFLOW queue nothing (R156, R159). A frame offered to a normal lane enters at its young end,
and is dropped with INSERT_OVERFLOW where the lane is full (R147). -/
def Obligations.RaisedCauseRecorded : Prop :=
  (∀ (s : State) (c : Cause) (sub : Subject) (v : Int) (second : Nat),
    let t := recordCause c sub v second s
    (t.cause c).flag = true
    ∧ (∀ d, d ≠ c → d ≠ .noticeOverflow → t.cause d = s.cause d)
    ∧ ((s.cause c).masked = true ∨ c = .noticeOverflow → t.notice.queue = s.notice.queue)
    ∧ ((s.cause c).masked = false → c ≠ .noticeOverflow → s.notice.queue.length < 32 →
        t.notice.queue = s.notice.queue ++
          [{ cause := c, cls := (s.cause c).cls, subject := sub, value := v, second := second
             minute := s.sup.worksMinute }])
    ∧ t = { s with notice := t.notice })
  ∧ (∀ (s : State) (q : Port) (f : Frame), (s.port q).normal.length < 16 →
      offerNormal q f s = modPort q (fun u => { u with normal := u.normal ++ [f] }) s)
  ∧ (∀ (s : State) (q : Port) (f : Frame), 16 ≤ (s.port q).normal.length →
      let t := offerNormal q f s
      (t.cause .insertOverflow).flag = true ∧ (t.port q).normal = (s.port q).normal
        ∧ t = { s with line := t.line, notice := t.notice })

/-- A record that arrives at a full notice queue is taken by the two ways of R160: it takes the place of
the youngest record of the lowest class where its own class is above that, and is discarded
otherwise; NOTICE_OVERFLOW is set, and the cause's own flag. Of a queue's records the one of the
highest class, and the oldest of that class, is the one sent first (R159). -/
def Obligations.FullNoticeQueue : Prop :=
  (∀ (s : State) (c : Cause) (sub : Subject) (v : Int) (second : Nat),
    s.notice.queue.length = 32 → (s.cause c).masked = false → c ≠ .noticeOverflow →
    let n : Notice := { cause := c, cls := (s.cause c).cls, subject := sub, value := v
                        second := second, minute := s.sup.worksMinute }
    let t := recordCause c sub v second s
    (t.cause .noticeOverflow).flag = true ∧ (t.cause c).flag = true
    ∧ (∀ pre x post, s.notice.queue = pre ++ x :: post → (∀ m ∈ pre, x.cls ≤ m.cls) →
        (∀ m ∈ post, x.cls < m.cls) → x.cls < n.cls → t.notice.queue = pre ++ post ++ [n])
    ∧ ((∀ m ∈ s.notice.queue, n.cls ≤ m.cls) → t.notice.queue = s.notice.queue))
  ∧ (∀ (q : List Notice), (q ≠ [] → ∃ n, firstNotice q = some n)
      ∧ ∀ n, firstNotice q = some n →
        ∃ pre post, q = pre ++ n :: post
          ∧ (∀ m ∈ pre, m.cls < n.cls) ∧ (∀ m ∈ post, m.cls ≤ n.cls))

/-- SET_CAUSE replaces a cause's mask and class and recomputes ATTN, and is refused BAD_ARG for a cause of
no code, NOTICE_OVERFLOW and a class above 3 (R158); TABLES_READY sets the configured indication,
makes its source the notice station and sets the stale survey (R155). The argument bytes are those of
12.4; that a mask byte other than 0 and 1 is BAD_ARG is the model's reading (log entry 24). -/
def Obligations.CauseAndTablesSet : Prop :=
  (∀ (s : State) (f : Frame) (cause mask cls : Byte), s.running = true → s.replyRoom →
    f.payload = [0x3E#8, cause, mask, cls] →
    (∀ (c : Cause) (k : Fin 4), cause = byteOf (c.place.val + 1) → c ≠ .noticeOverflow →
      (mask = 0#8 ∨ mask = 1#8) → cls = byteOf k.val →
      exec (.setCause f) s = .next (answered f 0x3E#8 .ok [] (updateAttn
        (modCause c (fun x => { x with masked := decide (mask = 1#8), cls := k }) s))))
    ∧ ((cause = 0#8 ∨ 28 < cause.toNat ∨ cause = 27#8 ∨ 1 < mask.toNat ∨ 3 < cls.toNat) →
        exec (.setCause f) s = .next (answered f 0x3E#8 .badArg [] s)))
  ∧ (∀ (s : State) (f : Frame), s.running = true → f.payload = [0x03#8] →
      (∃ t, exec (.tablesReady f) s = .next t
        ∧ t.mgmt = { configured := true, noticeStation := some f.src }
        ∧ t.probe = { s.probe with survey := true }
        ∧ t = { s with line := t.line, probe := t.probe, mgmt := t.mgmt, notice := t.notice })
      ∧ (s.replyRoom → s.notice.queue = [] → exec (.tablesReady f) s =
          .next (answered f 0x03#8 .ok []
            { s with mgmt := { configured := true, noticeStation := some f.src }
                     probe := { s.probe with survey := true } })))

/-- READ_CLEAR_FLAGS replies what READ_FLAGS would and then clears exactly the flags whose condition does
not persist, empties both latches and recomputes ATTN; masks, classes and the notice queue stay
(R157). -/
def Obligations.FlagsReadAndCleared : Prop :=
  ∀ (s : State) (f : Frame), s.running = true → s.replyRoom → f.payload = [0x3D#8] →
    ∃ t, exec (.readClearFlags f) s = .next t
      ∧ (∀ c, t.cause c = { s.cause c with flag := (s.cause c).flag && s.persists c })
      ∧ t.line.portP = { (answered f 0x3D#8 .ok s.flagContents s).line.portP with latch := none }
      ∧ t.line.portF = { s.line.portF with latch := none }
      ∧ t.notice.queue = s.notice.queue
      ∧ t.notice.attn = attnLevel t.notice.causes
      ∧ t = { s with line := t.line, notice := t.notice }

/-- The requests that read: each answers OK with its contents, or with the status of its own rule, and
changes nothing but the reply lane and the intake queue (R19, R99, R111, R137, R152, R153, R157,
R162; the order of the content bytes is the model's, log entries 21 to 24 and 36, and so is that a reply
above 192 bytes goes whole in one frame, log entry 13). -/
def Obligations.ReadsAnswerOnly : Prop :=
  ∀ (s : State) (f : Frame), s.running = true → s.replyRoom →
    (∀ b : Fin 24, f.payload = [0x16#8, byteOf b.val] →
      exec (.readBed f) s = .next (answered f 0x16#8 .ok (s.bedContents b) s))
    ∧ (∀ x : Byte, f.payload = [0x16#8, x] → 24 ≤ x.toNat →
        exec (.readBed f) s = .next (answered f 0x16#8 .badArg [] s))
    ∧ (∀ c : Fin 4, f.payload = [0x1F#8, byteOf c.val] →
        exec (.readCrane f) s = .next (answered f 0x1F#8 .ok (s.craneContents c) s))
    ∧ (∀ n : Fin 1024, f.payload = 0x2E#8 :: enc2 n.val →
        exec (.readSlot f) s = .next (answered f 0x2E#8 .ok (s.slotContents n) s))
    ∧ (∀ m, 0 < m → m < 4294967296 → f.payload = 0x2D#8 :: enc4 m →
        exec (.readPiece f) s = .next
          (match s.findPiece m with
           | some p => answered f 0x2D#8 .ok (s.pieceContents p) s
           | none => answered f 0x2D#8 .notFound [] s))
    ∧ (f.payload = [0x3C#8] →
        exec (.readFlags f) s = .next (answered f 0x3C#8 .ok s.flagContents s))
    ∧ (f.payload = [0x3F#8] →
        exec (.readCounters f) s = .next (answered f 0x3F#8 .ok
          (enc2 s.bed.duplicates ++ enc2 s.probe.malformed ++ enc2 s.heat.strayAcks
            ++ enc2 s.piece.recs.length ++ enc2 (2048 - s.piece.recs.length)
            ++ enc2 s.stock.buried ++ enc2 s.runway.strayReports
            ++ enc2 s.line.portP.total ++ enc2 s.line.portF.total
            ++ enc1 s.line.portP.consecutive ++ enc1 s.line.portF.consecutive
            ++ enc2 s.line.undelivered ++ enc2 s.line.stray) s))
    ∧ (∀ table index entry, f.payload = [0x02#8, table, index] →
        s.tableEntry table index.toNat = entry →
        exec (.tableRead f) s = .next
          (match entry with
           | some e => answered f 0x02#8 .ok e s
           | none => answered f 0x02#8 .badArg [] s))
    ∧ (exec (.unknownRequest f) s =
        .next (answered f (f.payload.headD 0#8) .unknownRequest [] s))

/-! ### Table writes -/

/-- A TABLE_WRITE of a mix, schedule, region, bay, crane, area or service entry that is in form: the
failing check's status and no change, or the entry replaced and OK; a crane's state is then forgotten,
and an area's census state and counts are kept. The writes of an area or a service group hand an
admission opportunity over, and are stated with no order waiting (R40, R50, R103, R106, R118, R119). A mix
or schedule entry must have the length of its layout, and any other is BAD_ARG (R170); one of that length
with a presence byte of 0 makes the entry absent, whatever its fields (R40, R50; that such an entry carries
the whole layout is the model's reading, log entry 24). -/
def Obligations.TablesWritten : Prop :=
  ∀ (s : State) (f : Frame), s.running = true → s.replyRoom →
    let ans := fun st u => Host.Outcome.next (φ := Fault) (ρ := Refusal) (answered f 0x01#8 st [] u)
    (∀ i x, writeOperands tMix 16 parseMix f.payload = some (i, x) →
      exec (.tableWriteMix f) s =
        if x.present = true ∧ (curveRises x.points = false ∨ lastStrength x.points < x.release
            ∨ lastStrength x.points < x.dispatch) then ans .badArg s
        else if ∃ p ∈ s.piece.recs, p.mix = i then ans .inUse s
        else ans .ok (setMix i x s))
    ∧ (∀ i x, writeOperands tSchedule 16 parseSchedule f.payload = some (i, x) →
        exec (.tableWriteSchedule f) s = ans .ok (setSchedule i x s))
    ∧ (∀ (i present d1 d0 n : Byte) (fields : Bytes),
        f.payload = [0x01#8, 3#8, i, present, d1, d0, n] ++ fields →
        (fields.length ≠ 6 * n.toNat + 6 → exec (.tableWriteMix f) s = ans .badArg s)
        ∧ (fields.length = 6 * n.toNat + 6 → present = 0#8 → ∀ k : Fin 16, i = byteOf k.val →
            exec (.tableWriteMix f) s =
              if ∃ p ∈ s.piece.recs, p.mix = k then ans .inUse s else ans .ok (setMix k {} s)))
    ∧ (∀ (i : Byte) (entry : Bytes), f.payload = [0x01#8, 3#8, i] ++ entry → entry.length < 4 →
        exec (.tableWriteMix f) s = ans .badArg s)
    ∧ (∀ (i present : Byte) (fields : Bytes), f.payload = [0x01#8, 4#8, i, present] ++ fields →
        (fields.length ≠ 22 → exec (.tableWriteSchedule f) s = ans .badArg s)
        ∧ (fields.length = 22 → present = 0#8 → ∀ k : Fin 16, i = byteOf k.val →
            exec (.tableWriteSchedule f) s = ans .ok (setSchedule k none s)))
    ∧ (∀ i x, writeOperands tRegion 8 parseRegion f.payload = some (i, x) →
        exec (.tableWriteRegion f) s =
          if s.yardQuiet = true then ans .ok (setRegion i x s) else ans .busy s)
    ∧ (∀ i x, writeOperands tBay 4 parseBay f.payload = some (i, x) →
        exec (.tableWriteBay f) s =
          if s.yardQuiet = true then ans .ok (setBay i x s) else ans .busy s)
    ∧ (∀ c e, writeOperands tCrane 4 parseCraneEntry f.payload = some (c, e) →
        exec (.tableWriteCrane f) s =
          if e.station = some s.sup.station ∨ e.hookReader = some s.sup.station
              ∨ s.craneClash c e = true then ans .badArg s
          else if (s.crane c).hook.isSome = true then ans .inUse s
          else if s.yardQuiet = false then ans .busy s
          else ans .ok (modCrane c (fun k =>
            { k with presence := .unknown, silence := 0, position := none, envelope := none
                     control := .free, lastHalt := none }) (setCraneEntry c e s)))
    ∧ (s.yardQuiet = true ↔ s.runway.waiting = [] ∧ ∀ c, (s.crane c).reservation = none)
    ∧ (s.noneWaiting →
        (∀ a x, writeOperands tArea 16 parseArea f.payload = some (a, x) →
          let moves := x.firstSlot ≠ (s.area a).firstSlot ∨ x.count ≠ (s.area a).count
            ∨ x.base ≠ (s.area a).base ∨ x.pitch ≠ (s.area a).pitch
          exec (.tableWriteArea f) s =
            if ∃ k, k ≠ a ∧ 0 < x.count ∧ 0 < (s.area k).count
                ∧ x.firstSlot < (s.area k).firstSlot + (s.area k).count
                ∧ (s.area k).firstSlot < x.firstSlot + x.count then ans .badArg s
            else if ∃ y ∈ s.slotsOf a, x.heightLimit < y.load then ans .badArg s
            else if moves ∧ ∃ y ∈ s.slotsOf a, 0 < y.load then ans .inUse s
            else if moves ∧ s.yardQuiet = false then ans .busy s
            else ans .ok (modArea a (fun old =>
              { old with firstSlot := x.firstSlot, count := x.count, base := x.base
                         pitch := x.pitch, heightLimit := x.heightLimit, classes := x.classes
                         dispatchOnly := x.dispatchOnly }) s))
        ∧ (∀ g b, writeOperands tService 128 parseService f.payload = some (g, b) →
            exec (.tableWriteService f) s = ans .ok (setService g b s)))

/-- A TABLE_WRITE of a bed or probe map entry that passes its checks replaces the entry; a STOPPING heater
becomes IDLE without its wait (R1, R76), a probe record is cleared as R23 says, the stale survey is
set, and BED_BLIND is raised for a watched bed the write blinds (R31). A write that fails changes
nothing (R1, R22). -/
def Obligations.BedAndProbeWritten : Prop :=
  ∀ (s : State) (f : Frame), s.running = true →
    (∀ b e, writeOperands tBed 24 parseBedEntry f.payload = some (b, e) → s.replyRoom →
      exec (.tableWriteBed f) s = .next
        (if e.panel = some s.sup.station ∨ e.heater = some s.sup.station
            ∨ e.spanEnd ≤ e.spanStart
            ∨ (e.enabled = true ∧ ∃ k, k ≠ b ∧ (s.bedEntry k).enabled = true
                ∧ e.spanStart ≤ (s.bedEntry k).spanEnd ∧ (s.bedEntry k).spanStart ≤ e.spanEnd)
         then answered f 0x01#8 .badArg [] s
         else if (s.bedRec b).state ≠ .vacant ∨ (s.bedRec b).order ≠ none then
           answered f 0x01#8 .inUse [] s
         else if (e.spanStart ≠ (s.bedEntry b).spanStart ∨ e.spanEnd ≠ (s.bedEntry b).spanEnd
             ∨ e.enabled ≠ (s.bedEntry b).enabled) ∧ s.yardQuiet = false then
           answered f 0x01#8 .busy [] s
         else answered f 0x01#8 .ok [] (setBedEntry b e
           (if (s.heatRec b).state = .stopping then
             modHeat b (fun h => { h with state := .idle, wait := none, misses := 0
                                          refresh := 0 }) s
            else s))))
    ∧ (∀ i e, writeOperands tProbeMap 128 parseProbeEntry f.payload = some (i, e) →
        let clash := e.enabled = true ∧ ∃ k, k ≠ i ∧ (s.probeEntry k).enabled = true
          ∧ (((s.probeEntry k).station = e.station ∧ (s.probeEntry k).channel = e.channel)
              ∨ sameRole e (s.probeEntry k) = true)
        (e.station = s.sup.station ∨ clash → s.replyRoom →
          exec (.tableWriteProbeMap f) s = .next (answered f 0x01#8 .badArg [] s))
        ∧ (e.station ≠ s.sup.station → ¬clash → ∃ t, exec (.tableWriteProbeMap f) s = .next t
            ∧ t.probe = { s.probe with
                map := tset s.probe.map i e
                recs := tset s.probe.recs i
                  { value := none, age := 255, jumps := 0, forced := false, state := .stale }
                survey := true }
            ∧ (∀ b, (s.probeEntry i).role = .bed → (s.probeEntry i).bed = b.val →
                s.watched b = true → s.blind b = false → t.blind b = true →
                (t.cause .bedBlind).flag = true)
            ∧ t = { s with line := t.line, probe := t.probe, notice := t.notice }))

/-- A TABLE_WRITE of a parameter within the range of R154 is written at once and answered OK, and changes
nothing else but for a fault limit that comes to or below its port's consecutive count, which stood
below the old limit: that raises LINE_FAULT with the port and the count (R141), before the reply is
offered. A value out of range is refused BAD_ARG. Value widths are the model's (log entry 21). -/
def Obligations.ParameterWritten : Prop :=
  ∀ (s : State) (f : Frame) (i : Fin 6) (v : Nat), s.running = true → s.replyRoom →
    let one := i = 0 ∨ i = 4 ∨ i = 5
    let lo := if i = 2 then 5 else if i = 3 then 0 else 1
    let hi := if i = 0 then 60 else if i = 1 then 15 else if i = 2 then 120
      else if i = 3 then 600 else 8
    let u : State :=
      if i = 0 then { s with bed := { s.bed with permitWindow := v } }
      else if i = 1 then { s with probe := { s.probe with staleLimit := v } }
      else if i = 2 then { s with runway := { s.runway with startWindow := v } }
      else if i = 3 then { s with runway := { s.runway with waitLimit := v } }
      else if i = 4 then
        { s with line := { s.line with portP := { s.line.portP with faultLimit := v } } }
      else { s with line := { s.line with portF := { s.line.portF with faultLimit := v } } }
    let q : Port := if i = 4 then .pPort else .fPort
    let n := (s.port q).consecutive
    let crossed := (i = 4 ∨ i = 5) ∧ n < (s.port q).faultLimit ∧ v ≤ n
    let w := raise .lineFault (.port q) n u
    v < (if one then 256 else 65536) →
    f.payload = [0x01#8, 10#8, byteOf i.val] ++ (if one then enc1 v else enc2 v) →
    (v < lo ∨ hi < v → exec (.tableWriteParameter f) s = .next (answered f 0x01#8 .badArg [] s))
    ∧ (lo ≤ v → v ≤ hi →
        u.parameter (Parameter.ofIndex i) = v
        ∧ (∀ j, j ≠ i → u.parameter (Parameter.ofIndex j) = s.parameter (Parameter.ofIndex j))
        ∧ (¬crossed → exec (.tableWriteParameter f) s = .next (answered f 0x01#8 .ok [] u))
        ∧ (crossed →
            (w.cause .lineFault).flag = true
            ∧ (w.replyRoom → exec (.tableWriteParameter f) s = .next (answered f 0x01#8 .ok [] w))
            ∧ (¬w.replyRoom → exec (.tableWriteParameter f) s =
                .next (raise .insertOverflow (.port .pPort) 12 (takeIntake f w)))))

/-! ### Probes -/

/-- A matched reading is screened by the four steps of R25; an accepted reading sets value, age, jump
count and state, a jump counts, and an invalid reading leaves the record and raises PROBE_FAULT. -/
def Obligations.ReadingScreened : Prop :=
  ∀ (s : State) (i : Fin 128) (v : Int),
    let r := s.probeRec i
    let accepted := modProbe i (fun r =>
      { r with value := some v, age := 0, jumps := 0, state := .fresh }) s
    (r.forced = true ∨ v < -400 ∨ 1200 < v →
      screenReading i v s = raise .probeFault (.probe i) v s)
    ∧ (r.forced = false → -400 ≤ v → v ≤ 1200 →
        (r.state = .stale → screenReading i v s = accepted)
        ∧ (∀ w, r.state = .fresh → r.value = some w → -100 ≤ v - w → v - w ≤ 100 →
            screenReading i v s = accepted)
        ∧ (∀ w, r.state = .fresh → r.value = some w → (v - w < -100 ∨ 100 < v - w) →
            (r.jumps < 2 → screenReading i v s = modProbe i (fun r => { r with jumps := r.jumps + 1 }) s)
            ∧ (2 ≤ r.jumps → screenReading i v s = accepted)))

/-- A SAMPLE frame handed over has its readings taken in order, each screened for the enabled entry of its
station and channel and otherwise ignored; a frame that is malformed is counted and nothing else
(R24). At a probe-unit minute the age of every enabled record rises by 1 and a FRESH one past the stale
limit becomes STALE with PROBE_STALE (R27, R28). PROBE_FORCE sets or clears the force-fail of an
enabled entry and nothing else (R26). -/
def Obligations.ProbesFedAndAged : Prop :=
  (∀ (s : State) (f : Frame), s.running = true →
    (∀ l : List (Fin 8 × Int), 1 ≤ l.length → l.length ≤ 8 →
      (∀ x ∈ l, -32768 ≤ x.2 ∧ x.2 ≤ 32767) →
      f.payload = enc1 l.length ++ l.flatMap (fun x => enc1 x.1.val ++ encS2 x.2) →
      exec (.sample f) s = .next (l.foldl (fun t x =>
        match (indexes 128).find? fun i => (s.probeEntry i).enabled
            && (s.probeEntry i).station = f.src && (s.probeEntry i).channel = x.1 with
        | some i => screenReading i x.2 t
        | none => t) (takeHanded f s)))
    ∧ (∀ n rest, f.payload = n :: rest →
        (n.toNat = 0 ∨ 8 < n.toNat ∨ rest.length ≠ 3 * n.toNat) →
        exec (.sample f) s = .next { takeHanded f s with
          probe := { s.probe with malformed := min 65535 (s.probe.malformed + 1) } }))
  ∧ ((∀ s : State, s.running = true → ∃ t, exec .probeMinute s = .next t
      ∧ (∀ i, t.probeRec i =
          if (s.probeEntry i).enabled = true then
            { s.probeRec i with
              age := min 255 ((s.probeRec i).age + 1)
              state := if s.probe.staleLimit < min 255 ((s.probeRec i).age + 1) then .stale
                       else (s.probeRec i).state }
          else s.probeRec i)
      ∧ ((∃ i, (s.probeEntry i).enabled = true ∧ (s.probeRec i).state = .fresh
            ∧ s.probe.staleLimit < min 255 ((s.probeRec i).age + 1)) →
          (t.cause .probeStale).flag = true)
      ∧ t.probe = { s.probe with recs := t.probe.recs, survey := false }
      ∧ t = { s with line := t.line, probe := t.probe, notice := t.notice })
    ∧ (∀ (s : State) (f : Frame) (i : Fin 128) (set : Bool), s.running = true → s.replyRoom →
        f.payload = [0x32#8, byteOf i.val, if set then 1#8 else 0#8] →
        exec (.probeForce f) s = .next
          (if (s.probeEntry i).enabled = true then
            answered f 0x32#8 .ok [] (modProbe i (fun r => { r with forced := set }) s)
           else answered f 0x32#8 .notFound [] s))
    ∧ (∀ (s : State) (f : Frame) (x y : Byte), s.running = true → s.replyRoom →
        f.payload = [0x32#8, x, y] → 128 ≤ x.toNat →
        exec (.probeForce f) s = .next (answered f 0x32#8 .badArg [] s)))

/-! ### Maturity and curing -/

/-- One accrual step: the excess over the datum, none below it, plus the remainder, a sixth of it to the
maturity, clamped, and the rest kept (R35). -/
def Obligations.AccrualStep : Prop :=
  ∀ (temp datum : Int) (m r : Nat),
    let d := if temp - datum < 0 then 0 else temp - datum
    ((accrue temp datum m r).1 : Int) = min 9999999 ((m : Int) + (d + r) / 6)
      ∧ ((accrue temp datum m r).2 : Int) = (d + r) % 6

/-- The strength estimate of a present mix whose curve rises: that of the last point from there on, the
line between the neighbouring points before it, with the origin implied; it never falls as the
maturity rises and never exceeds the last strength (R42). -/
def Obligations.StrengthCurve : Prop :=
  ∀ (x : Mix), x.present = true → curveRises ((0, 0) :: x.points) = true →
    (∀ m pre last, (0, 0) :: x.points = pre ++ [last] → last.1 ≤ m → x.estimate m = last.2)
    ∧ (∀ m pre a b post, (0, 0) :: x.points = pre ++ a :: b :: post → a.1 ≤ m → m < b.1 →
        x.estimate m = a.2 + (m - a.1) * (b.2 - a.2) / (b.1 - a.1))
    ∧ (∀ m n, m ≤ n → x.estimate m ≤ x.estimate n)
    ∧ (∀ m, x.estimate m ≤ lastStrength ((0, 0) :: x.points))

/-- A curing minute: every bed in CURING, RELEASABLE, RELEASING or STRIPPING that has a cold temperature
and lines takes one accrual step at its highest datum, one without leaves its account as it was, and its
margin is recomputed; a bed that is not in CURING takes no more, no other bed's thermal part changes,
and no piece record does (R36, R38, R45, R46, R53 to R55). A CURING bed's pending requests then take
effect (R56); in a blind minute the demand is held, withheld from the tenth (R68); in a sighted one the
phase advances unless the bed is paused or has just been cooled (R62), the demand is computed (R66, R67,
R69) and the request handed over (R70), or the bed passes to RELEASABLE with BED_RELEASABLE, its heater
STOPPING with its final HEAT frame of duty 0 (R18, R71, R76). The further clauses give the demand
controller, truncated toward zero, the demand of a sighted minute, and the advance of each phase (R60,
R61, R63 to R65). -/
def Obligations.CuringMinuteTaken : Prop :=
  (∀ s : State, s.running = true → ∃ t, exec .curingMinute s = .next t
    ∧ (∀ b, s.watched b = true →
        let lines := if (s.bedRec b).order.isSome = true then (s.bedRec b).lines else []
        let acc : Nat × Nat := match s.coldTemp b, s.bedDatum b with
          | some temp, some datum => accrue temp datum (s.thermal b).maturity (s.thermal b).remainder
          | _, _ => ((s.thermal b).maturity, (s.thermal b).remainder)
        let a : Thermal := { s.thermal b with
          maturity := acc.1, remainder := acc.2
          margin := (lines.map fun l =>
            ((s.mix l.mix).estimate acc.1 : Int) -
              (match (s.bedRec b).order.bind (·.override) with
               | some v => v
               | none => (s.mix l.mix).release : Nat)).min? }
        let p : Thermal :=
          if a.coolPending = true then
            { a with phase := .cool, coolStart := some a.target, clock := 0, rampStart := none
                     stall := false, pause := .running, waiting := .none, coolPending := false }
          else match a.waiting with
            | .pause => { a with pause := .paused, waiting := .none }
            | .resume => { a with pause := .running, waiting := .none, prevError := none }
            | .none => a
        let n := min 10 (p.blindCount + 1)
        let q : Thermal := { p with
          blindCount := 0, withheld := false
          prevError := if p.withheld = true then none else p.prevError }
        let ambient := match (s.bedEntry b).coolArea with
          | some k => (s.areaAmbient k).map (·.1)
          | none => s.yardAmbient
        let asked := (t.bedRec b).state = .curing ∧
          (t.heatRec b).request = (s.bedEntry b).ratedPower * (t.thermal b).demand / 1000
        (s.curingBed b = false → t.thermal b = a)
        ∧ (s.curingBed b = true → s.hotTemp b = none → asked ∧ t.thermal b =
            (if n = 10 ∧ p.blindCount ≠ 10 then
               { p with blindCount := n, demand := 0, withheld := true }
             else if p.phase = .soak then { p with blindCount := n, demand := 0 }
             else { p with blindCount := n })
            ∧ (n = 10 → p.blindCount ≠ 10 → p.withheld = false →
                (t.cause .heatWithheld).flag = true))
        ∧ (∀ hot, s.curingBed b = true → s.hotTemp b = some hot →
            let soak := decide (q.phase = .soak)
            let r := advancePhase hot ambient q
            (q.pause = .paused ∨ a.coolPending = true → asked ∧ t.thermal b = demandSighted hot soak q)
            ∧ (q.pause = .running → a.coolPending = false →
                (r.done = false → asked ∧ t.thermal b = demandSighted hot soak r.thermal
                  ∧ (r.thermal.stall = true → q.stall = false → (t.cause .rampStalled).flag = true))
                ∧ (r.done = true → (t.bedRec b).state = .releasable
                    ∧ t.thermal b = { r.thermal with
                        demand := 0, pause := .running, waiting := .none, coolPending := false
                        blindCount := 0, withheld := false, overheat := false, stall := false
                        prevError := none }
                    ∧ (t.cause .bedReleasable).flag = true
                    ∧ (t.heatRec b).state = .stopping ∧ (t.heatRec b).request = 0
                    ∧ (t.heatRec b).grant = 0 ∧ (t.heatRec b).duty = 0 ∧ s.stopSent t b))
            ∧ ((t.thermal b).overheat = true → a.overheat = false → (t.cause .overheat).flag = true)))
    ∧ (∀ b, s.watched b = true → ∀ temp datum,
        s.coldTemp b = some temp → s.bedDatum b = some datum →
        ((t.thermal b).maturity, (t.thermal b).remainder)
          = accrue temp datum (s.thermal b).maturity (s.thermal b).remainder)
    ∧ (∀ b, s.watched b = true → (s.coldTemp b = none ∨ s.bedDatum b = none) →
        (t.thermal b).maturity = (s.thermal b).maturity
          ∧ (t.thermal b).remainder = (s.thermal b).remainder)
    ∧ (∀ b, s.watched b = false → t.thermal b = s.thermal b)
    ∧ (∀ b, s.curingBed b = false → t.bedRec b = s.bedRec b)
    ∧ (∀ b, s.curingBed b = true →
        t.bedRec b = s.bedRec b ∨ (t.bedRec b).state = .releasable ∧
          t.bedRec b = { s.bedRec b with state := .releasable, permit := 0 })
    ∧ t = { s with line := t.line, curing := t.curing, heat := t.heat, bed := t.bed
                   stock := t.stock, runway := t.runway, notice := t.notice })
  ∧ (∀ (hot : Int) (t : Thermal),
      let e := max (-500) (min (t.target - hot) 500)
      let prev := match t.prevError with
        | some p => p
        | none => e
      let raw := (t.recipe.kp : Int) * (e - prev) + (t.recipe.ki : Int) * e
      let change := if 0 ≤ raw then raw / 64 else -((-raw) / 64)
      (controller hot t).prevError = some e
        ∧ ((controller hot t).demand : Int) = max 0 (min (t.demand + change) t.recipe.heatCap)
        ∧ controller hot t = { t with demand := (controller hot t).demand, prevError := some e })
  ∧ (∀ (hot : Int) (soak : Bool) (t : Thermal),
      (t.recipe.tmax + 50 < hot →
        demandSighted hot soak t = { t with demand := 0, overheat := true })
      ∧ (hot ≤ t.recipe.tmax + 50 → demandSighted hot true t = { t with demand := 0, overheat := false }
          ∧ demandSighted hot false t = controller hot { t with overheat := false }))
  ∧ (∀ (hot start : Int) (ambient : Option Int) (t : Thermal), t.phase = .ramp →
      t.rampStart = some start →
      let n := min 65535 (t.clock + 1)
      let target := min t.recipe.tmax (start + (t.recipe.rampRate : Int) * n / 60)
      (hot < t.target - t.recipe.lagLimit →
        advancePhase hot ambient t = { thermal := { t with stall := true } })
      ∧ (t.target - t.recipe.lagLimit ≤ hot → target < t.recipe.tmax →
          advancePhase hot ambient t =
            { thermal := { t with clock := n, target := target, stall := false } })
      ∧ (t.target - t.recipe.lagLimit ≤ hot → target = t.recipe.tmax →
          advancePhase hot ambient t =
            { thermal := { t with phase := .hold, clock := 0, target := t.recipe.tmax
                                  rampStart := none, stall := false } }))
  ∧ (∀ (hot : Int) (ambient : Option Int) (t : Thermal),
      let n := min 65535 (t.clock + 1)
      let met := ∀ x ∈ t.margin, 0 ≤ x
      (t.phase = .preset →
        (n < t.recipe.presetMinutes → advancePhase hot ambient t =
          { thermal := { t with clock := n, target := t.recipe.presetFloor } })
        ∧ (t.recipe.presetMinutes ≤ n → hot < t.recipe.tmax → advancePhase hot ambient t =
            { thermal := { t with phase := .ramp, clock := 0, rampStart := some hot
                                  stall := false, target := hot } })
        ∧ (t.recipe.presetMinutes ≤ n → t.recipe.tmax ≤ hot → advancePhase hot ambient t =
            { thermal := { t with phase := .hold, clock := 0, target := t.recipe.tmax
                                  rampStart := none, stall := false } }))
      ∧ (t.phase = .hold →
          (met ∨ t.recipe.holdMax ≤ n → advancePhase hot ambient t =
            { thermal := { t with phase := .cool, clock := 0, target := t.recipe.tmax
                                  coolStart := some t.recipe.tmax } })
          ∧ (¬met → n < t.recipe.holdMax → advancePhase hot ambient t =
              { thermal := { t with clock := n, target := t.recipe.tmax } }))
      ∧ (∀ start, t.phase = .cool → t.coolStart = some start →
          let floor := match ambient with
            | some x => x
            | none => t.recipe.presetFloor
          let target := min t.recipe.tmax (max (start - (t.recipe.coolRate * n / 60 : Nat)) floor)
          let ends := (∃ x ∈ ambient, hot - x ≤ t.recipe.stripDelta) ∨ t.recipe.coolMax ≤ n
          let v := { t with clock := n, target := target }
          (¬ends → advancePhase hot ambient t = { thermal := v })
          ∧ (ends → met → advancePhase hot ambient t = { thermal := v, done := true })
          ∧ (ends → ¬met → advancePhase hot ambient t =
              { thermal := { v with phase := .soak, clock := 0, coolStart := none } }))
      ∧ (t.phase = .soak →
          (met → advancePhase hot ambient t = { thermal := { t with clock := n }, done := true })
          ∧ (¬met → advancePhase hot ambient t = { thermal := { t with clock := n } })))

/-- BED_PAUSE, BED_RESUME and BED_COOL of a bed, row by row (R57, R58, R59), and BAD_ARG for a bed number
above 23. -/
def Obligations.PauseResumeCool : Prop :=
  ∀ (s : State) (f : Frame) (b : Fin 24),
    let t := s.thermal b
    let pend := fun p => modThermal b (fun x => { x with waiting := p }) s
    (s.bedRequest f 0x13#8 b →
      (s.curingBed b = false ∨ t.coolPending = true →
        exec (.bedPause f) s = .next (answered f 0x13#8 .state [] s))
      ∧ (s.curingBed b = true → t.coolPending = false →
          (t.pause = .running → t.waiting = .none →
            exec (.bedPause f) s = .next (answered f 0x13#8 .ok [] (pend .pause)))
          ∧ (t.pause = .paused → t.waiting = .resume →
              exec (.bedPause f) s = .next (answered f 0x13#8 .ok [] (pend .none)))
          ∧ (t.waiting = .pause ∨ (t.pause = .paused ∧ t.waiting = .none) →
              exec (.bedPause f) s = .next (answered f 0x13#8 .ok [] s))))
    ∧ (s.bedRequest f 0x14#8 b →
        (s.curingBed b = false →
          exec (.bedResume f) s = .next (answered f 0x14#8 .state [] s))
        ∧ (s.curingBed b = true →
            (t.waiting = .pause →
              exec (.bedResume f) s = .next (answered f 0x14#8 .ok [] (pend .none)))
            ∧ (t.pause = .paused → t.waiting = .none →
                exec (.bedResume f) s = .next (answered f 0x14#8 .ok [] (pend .resume)))
            ∧ (t.waiting = .resume ∨ (t.pause = .running ∧ t.waiting = .none) →
                exec (.bedResume f) s = .next (answered f 0x14#8 .ok [] s))))
    ∧ (s.bedRequest f 0x15#8 b →
        (s.curingBed b = true → t.phase ≠ .cool → t.phase ≠ .soak →
          exec (.bedCool f) s = .next (answered f 0x15#8 .ok []
            (modThermal b (fun x => { x with coolPending := true }) s)))
        ∧ (s.curingBed b = false ∨ t.phase = .cool ∨ t.phase = .soak →
            exec (.bedCool f) s = .next (answered f 0x15#8 .state [] s)))
    ∧ (∀ x : Byte, 24 ≤ x.toNat → s.running = true → s.replyRoom →
        (f.payload = [0x13#8, x] → exec (.bedPause f) s = .next (answered f 0x13#8 .badArg [] s))
        ∧ (f.payload = [0x14#8, x] →
            exec (.bedResume f) s = .next (answered f 0x14#8 .badArg [] s))
        ∧ (f.payload = [0x15#8, x] →
            exec (.bedCool f) s = .next (answered f 0x15#8 .badArg [] s)))

/-! ### Heat -/

/-- A recomputation grants each bed in CURING the lesser of its request and what the effective budget
leaves after the beds served before it, by class and then by number, and every other bed 0; the sum
stays within the effective budget; requests are untouched (R77). Every bed granted less than its request
is short, and BUDGET_SHORT is raised for each newly short one with the shortfall (R79). Every DRIVEN bed
whose duty changes takes it and is offered a HEAT frame, the falling duties first and then the rising
ones, each in ascending bed number, with the counter's next values; the lane takes as many as it has room
for and INSERT_OVERFLOW is raised for the rest, whose waits stay as they were (R80, R81). That
several BUDGET_SHORT come in ascending bed number is the model's choice (log entry 19), and that a frame
takes the counter as it has just risen its reading (log entry 7). -/
def Obligations.AllocationByClass : Prop :=
  ∀ s : State,
    let t := recompute s
    let before := fun (k b : Fin 24) => s.curingBed k = true ∧
      (s.heatClass b < s.heatClass k ∨ (s.heatClass k = s.heatClass b ∧ k < b))
    (∀ b, s.curingBed b = true →
      (t.heatRec b).grant = min (s.heatRec b).request
        (s.effectiveBudget - ((List.finRange 24).filter fun k => before k b).foldl
          (fun n k => n + (t.heatRec k).grant) 0))
    ∧ (∀ b, s.curingBed b = false → (t.heatRec b).grant = 0)
    ∧ (∀ b, (t.heatRec b).request = (s.heatRec b).request)
    ∧ t.grantSum ≤ s.effectiveBudget
    ∧ (∀ b, (t.heatRec b).short = decide ((t.heatRec b).grant < (t.heatRec b).request))
    ∧ (let duty := fun b => (t.heatRec b).grant * 1000 / (s.bedEntry b).ratedPower
       let falls := fun b => (s.heatRec b).state == .driven && decide (duty b < (s.heatRec b).duty)
       let rises := fun b => (s.heatRec b).state == .driven && decide ((s.heatRec b).duty < duty b)
       let order := (List.finRange 24).filter falls ++ (List.finRange 24).filter rises
       let seq := fun i => s.heat.seq + byteOf (i + 1)
       let frames := order.mapIdx fun i b =>
         ({ dst := (s.bedEntry b).heater.getD 0#8, src := s.sup.station, kind := 0x02#8
            seq := seq i, flags := 1#8
            payload := enc1 b.val ++ enc1 (s.bedEntry b).channel.val ++ enc2 (duty b) } : Frame)
       let room := 16 - s.line.portF.normal.length
       let newly := (List.finRange 24).filter fun b => !(s.heatRec b).short && (t.heatRec b).short
       t.line.portF = { s.line.portF with normal := s.line.portF.normal ++ frames.take room }
       ∧ (∀ b, t.heatRec b = { s.heatRec b with
            grant := (t.heatRec b).grant, short := (t.heatRec b).short
            duty := if falls b || rises b then duty b else (s.heatRec b).duty
            refresh := if falls b || rises b then 60 else (s.heatRec b).refresh
            wait := if order.idxOf b < min room order.length then
                some { duty := duty b, left := 20, seq := seq (order.idxOf b) }
              else (s.heatRec b).wait })
       ∧ t.heat = { s.heat with recs := t.heat.recs, seq := s.heat.seq + byteOf order.length }
       ∧ (newly ≠ [] → (t.cause .budgetShort).flag = true)
       ∧ (room < order.length → (t.cause .insertOverflow).flag = true)
       ∧ (newly = [] → order.length ≤ room → t.notice = s.notice)
       ∧ ((s.cause .budgetShort).masked = false → s.mgmt.noticeStation = none →
           s.notice.queue.length + newly.length ≤ 32 → order.length ≤ room →
           t.notice.queue = s.notice.queue ++ newly.map fun b =>
             { cause := .budgetShort, cls := (s.cause .budgetShort).cls, subject := .bed b
               value := ((s.heatRec b).request : Int) - (t.heatRec b).grant, second := 0
               minute := s.sup.worksMinute })
       ∧ t = { s with line := t.line, heat := t.heat, notice := t.notice })

/-- SET_BUDGET and SHED write their ceiling and recompute the allocation at once; lift writes 60,000; a
value above 60,000 is refused BAD_ARG and changes nothing. The reply follows the recomputation and its HEAT
frames, and carries the budget, the shed limit, the effective budget, the new sum of grants and the number
of those frames that the lane refused; a ceiling already held, on an allocation as it stands, changes
nothing (R74, R75; log entry 21 for the refused count's width). What the recomputation does is stated
with the allocation. -/
def Obligations.BudgetAndShed : Prop :=
  ∀ (s : State) (f : Frame) (v : Nat), s.running = true → v < 65536 →
    let figures := fun (budget shed : Nat) (t : State) =>
      let changed := (List.finRange 24).countP fun b =>
        (s.heatRec b).state == .driven && (t.heatRec b).duty != (s.heatRec b).duty
      enc2 budget ++ enc2 shed ++ enc2 (min budget shed)
        ++ enc2 ((List.finRange 24).map fun b => (t.heatRec b).grant).sum
        ++ enc2 (changed - (16 - s.line.portF.normal.length))
    let asHeld := ∀ b, (s.heatRec b).grant = s.grantOf b
      ∧ (s.heatRec b).short = decide ((s.heatRec b).grant < (s.heatRec b).request)
      ∧ ((s.heatRec b).state = .driven →
          (s.heatRec b).duty = (s.heatRec b).grant * 1000 / (s.bedEntry b).ratedPower)
    (f.payload = 0x20#8 :: enc2 v →
      (60000 < v → s.replyRoom → exec (.setBudget f) s = .next (answered f 0x20#8 .badArg [] s))
      ∧ (v ≤ 60000 → ∃ t, exec (.setBudget f) s = .next t
          ∧ t.heat.budget = v ∧ t.heat.shedLimit = s.heat.shedLimit
          ∧ (∀ b, (t.heatRec b).grant =
              State.grantOf { s with heat := { s.heat with budget := v } } b
              ∧ (t.heatRec b).request = (s.heatRec b).request)
          ∧ (let u := recompute { s with heat := { s.heat with budget := v } }
             u.replyRoom → t = answered f 0x20#8 .ok (figures v s.heat.shedLimit t) u)
          ∧ (v = s.heat.budget → asHeld → s.replyRoom →
              t = answered f 0x20#8 .ok (figures v s.heat.shedLimit s) s)
          ∧ t = { s with line := t.line, heat := t.heat, notice := t.notice }))
    ∧ (f.payload = 0x21#8 :: enc2 v →
        (60000 < v → v ≠ 65535 → s.replyRoom →
          exec (.shed f) s = .next (answered f 0x21#8 .badArg [] s))
        ∧ (v ≤ 60000 ∨ v = 65535 →
            let limit := if v = 65535 then 60000 else v
            ∃ t, exec (.shed f) s = .next t
              ∧ t.heat.shedLimit = limit ∧ t.heat.budget = s.heat.budget
              ∧ (∀ b, (t.heatRec b).grant =
                  State.grantOf { s with heat := { s.heat with shedLimit := limit } } b
                  ∧ (t.heatRec b).request = (s.heatRec b).request)
              ∧ (let u := recompute { s with heat := { s.heat with shedLimit := limit } }
                 u.replyRoom → t = answered f 0x21#8 .ok (figures s.heat.budget limit t) u)
              ∧ (limit = s.heat.shedLimit → asHeld → s.replyRoom →
                  t = answered f 0x21#8 .ok (figures s.heat.budget limit s) s)
              ∧ t = { s with line := t.line, heat := t.heat, notice := t.notice }))

/-- The exchange with a heater. A HEAT_ACK by R83: one that fails its conditions changes nothing; one that
echoes the awaited duty ends the wait, clears the misses and records the sequence, and makes a
STOPPING bed awaiting duty 0 IDLE; any other is counted stray. A refresh timer that has run out offers a
HEAT frame with the held duty, 0 for a STOPPING bed, starts again and waits for the echo (R80, R81). An
acknowledgement wait that has run its time out counts a miss and raises HEATER_SILENT at the third (R84).
An expiry that finds its timer running, as after a frame that started it again, changes nothing (R81;
log entry 11). That a frame takes the counter as it has just risen is the model's reading (log entry
7). -/
def Obligations.HeaterExchange : Prop :=
  (∀ (s : State) (f : Frame) (bed ch hi lo seq : Byte), s.running = true →
    f.payload = [bed, ch, hi, lo, seq] →
    (∀ b : Fin 24, bed = byteOf b.val → (s.bedEntry b).enabled = true →
      (s.bedEntry b).heater = some f.src → (s.bedEntry b).channel.val = ch.toNat →
      let u := takeHanded f s
      (∀ w, (s.heatRec b).wait = some w → w.duty = hi.toNat * 256 + lo.toNat →
        exec (.heatAck f) s = .next (modHeat b (fun h =>
          let g := { h with wait := none, misses := 0, lastAck := some seq }
          if h.state = .stopping ∧ w.duty = 0 then { g with state := .idle, refresh := 0 } else g) u))
      ∧ (((s.heatRec b).wait = none
            ∨ ∃ w, (s.heatRec b).wait = some w ∧ w.duty ≠ hi.toNat * 256 + lo.toNat) →
          exec (.heatAck f) s = .next
            { u with heat := { s.heat with strayAcks := min 65535 (s.heat.strayAcks + 1) } }))
    ∧ ((24 ≤ bed.toNat ∨ ∃ b : Fin 24, bed = byteOf b.val ∧ ((s.bedEntry b).enabled = false
          ∨ (s.bedEntry b).heater ≠ some f.src ∨ (s.bedEntry b).channel.val ≠ ch.toNat)) →
        exec (.heatAck f) s = .next (takeHanded f s)))
  ∧ ((∀ (s : State) (b : Fin 24), s.running = true →
      ((s.heatRec b).state = .idle ∨ 0 < (s.heatRec b).refresh → exec (.refreshExpiry b) s = .next s)
      ∧ ((s.heatRec b).state ≠ .idle → (s.heatRec b).refresh = 0 → s.ringRoom →
          let duty := if (s.heatRec b).state = .driven then (s.heatRec b).duty else 0
          let seq := s.heat.seq + 1#8
          exec (.refreshExpiry b) s = .next (withRingFrame
            { dst := (s.bedEntry b).heater.getD 0#8, src := s.sup.station, kind := 0x02#8, seq := seq
              flags := 1#8
              payload := enc1 b.val ++ enc1 (s.bedEntry b).channel.val ++ enc2 duty }
            (modHeat b (fun h => { h with
              refresh := 60, wait := some { duty := duty, left := 20, seq := seq } })
              { s with heat := { s.heat with seq := seq } }))))
    ∧ (∀ (s : State) (b : Fin 24), s.running = true →
        ((∀ w, (s.heatRec b).wait = some w → 0 < w.left) → exec (.ackWaitExpiry b) s = .next s)
        ∧ (∀ w, (s.heatRec b).wait = some w → w.left = 0 →
            let u := modHeat b (fun h => { h with wait := none, misses := min 3 (h.misses + 1) }) s
            exec (.ackWaitExpiry b) s = .next
              (if (s.heatRec b).misses = 2 then raise .heaterSilent (.bed b) w.duty u else u))))

/-! ### Casting beds -/

/-- A BED_PANEL frame that fails a condition of R9 changes nothing and is answered IGNORED, under each of
the five rows; a frame without a bed byte is answered with a free byte (log entry 2). That a malformed
frame, and one whose event is another row's, is IGNORED under each row is the model's reading (log
entry 25). -/
def Obligations.PanelReportRefused : Prop :=
  ∀ (s : State) (f : Frame), s.running = true → s.ringRoom →
    let fails := fun event : Byte => ∀ b : Fin 24, ¬(s.mgmt.configured = true
      ∧ f.payload = [byteOf b.val, event] ∧ (s.bedEntry b).enabled = true
      ∧ (s.bedEntry b).panel = some f.src)
    let u := { panelAnswered f (f.payload.headD (Config.freeByte s.freeCount)) .ignored s with
               freeCount := s.freeCount + if f.payload = [] then 1 else 0 }
    (fails 1#8 → exec (.panelStressed f) s = .next u)
    ∧ (fails 2#8 → exec (.panelCastDone f) s = .next u)
    ∧ (fails 3#8 → exec (.panelDetensionAsk f) s = .next u)
    ∧ (fails 4#8 → exec (.panelDetensioned f) s = .next u)
    ∧ (fails 5#8 → exec (.panelBedClear f) s = .next u)

/-- STRESSED in VACANT puts the bed in STRESSED, marks every live CARRY whose loaded span overlaps the
bed with its pieces, raises LOAD_OVER_STRESSED and sets the bed's flag where there is one; in every
other state it is answered IGNORED and changes nothing (R10, R135). -/
def Obligations.StressedTaken : Prop :=
  ∀ (s : State) (f : Frame) (b : Fin 24), s.panelTaken f 1#8 b → s.noneWaiting →
    ((s.bedRec b).state ≠ .vacant →
      exec (.panelStressed f) s = .next (panelAnswered f (byteOf b.val) .ignored s))
    ∧ ((s.bedRec b).state = .vacant → ∃ t, exec (.panelStressed f) s = .next t
        ∧ s.bedMoved t b .stressed
        ∧ (t.bedRec b).order = (s.bedRec b).order ∧ (t.bedRec b).lines = (s.bedRec b).lines
        ∧ ((t.bedRec b).flags.loadOver = true ↔
            (s.bedRec b).flags.loadOver = true ∨ ∃ c, s.carryOver b c ≠ none)
        ∧ (∀ c, t.crane c = match s.carryOver b c with
            | some o => { s.crane c with current := some { o with loadOver := true } }
            | none => s.crane c)
        ∧ (∀ c o, s.carryOver b c = some o → (t.cause .loadOverStressed).flag = true
            ∧ ∀ m p, (o.mark = some m ∨ (s.crane c).hook = some m) → t.findPiece m = some p →
                p.flags.loadOver = true)
        ∧ ((∀ c, s.carryOver b c = none) → t.piece = s.piece ∧ t.notice = s.notice)
        ∧ t.line.portF = (panelAnswered f (byteOf b.val) .accepted s).line.portF
        ∧ t = { s with line := t.line, curing := t.curing, bed := t.bed, piece := t.piece
                       runway := t.runway, notice := t.notice })

/-- CAST_DONE in STRESSED: with an order every line's piece goes ON_BED with the works minute, the thermal
part starts afresh, the heater is DRIVEN from 0 and the bed enters CURING; without one the cast is
recorded as seen, the first minute kept, with CAST_WITHOUT_ORDER; in every other state IGNORED
(R11, R52, R76). -/
def Obligations.CastDoneTaken : Prop :=
  ∀ (s : State) (f : Frame) (b : Fin 24), s.panelTaken f 2#8 b → s.noneWaiting →
    ((s.bedRec b).state ≠ .stressed →
      exec (.panelCastDone f) s = .next (panelAnswered f (byteOf b.val) .ignored s))
    ∧ ((s.bedRec b).state = .stressed → (s.bedRec b).order = none →
        ∃ t, exec (.panelCastDone f) s = .next t
          ∧ t.bedRec b = { s.bedRec b with
              castSeen := some ((s.bedRec b).castSeen.getD s.sup.worksMinute)
              flags := { (s.bedRec b).flags with castWithoutOrder := true } }
          ∧ s.bedMoved t b .stressed
          ∧ (t.cause .castWithoutOrder).flag = true
          ∧ t.line.portF = (panelAnswered f (byteOf b.val) .accepted s).line.portF
          ∧ t = { s with line := t.line, bed := t.bed, notice := t.notice })
    ∧ ((s.bedRec b).state = .stressed → (s.bedRec b).order ≠ none →
        ∃ t, exec (.panelCastDone f) s = .next t
          ∧ t.bedRec b = { s.bedRec b with state := .curing, permit := 0 }
          ∧ s.bedMoved t b .curing
          ∧ (∀ m, t.findPiece m = (s.findPiece m).map fun p =>
              if (s.bedRec b).lines.any (fun l => l.mark = m) then
                { p with state := .onBed, location := .bed b, castStamp := some s.sup.worksMinute }
              else p)
          ∧ t.thermal b = { recipe := (s.thermal b).recipe
                            target := (s.thermal b).recipe.presetFloor
                            margin := (t.thermal b).margin }
          ∧ (t.heatRec b).state = .driven ∧ (t.heatRec b).request = 0
          ∧ (t.heatRec b).grant = 0 ∧ (t.heatRec b).duty = 0 ∧ (t.heatRec b).refresh = 60
          ∧ ((∀ k, (s.heatRec k).state ≠ .driven) →
              t.line.portF = (panelAnswered f (byteOf b.val) .accepted s).line.portF)
          ∧ t = { s with line := t.line, curing := t.curing, heat := t.heat, bed := t.bed
                         piece := t.piece, notice := t.notice })

/-- DETENSION_ASK by the table of R12: a permit of the window's minutes in RELEASABLE and RELEASING, and a
denial in every other state, with the clamped margin for a CURING or STRIPPING bed with lines. A
works-minute expiry raises the works minute by 1 and lowers every RELEASING bed's permit timer, the bed
returning to RELEASABLE with PERMIT_LAPSED where the timer reaches 0; no frame goes to a panel (R13). -/
def Obligations.PermitsGrantedAndRun : Prop :=
  (∀ (s : State) (f : Frame) (b : Fin 24), s.panelTaken f 3#8 b → s.noneWaiting →
    let margin := if (s.bedRec b).lines = [] then none
      else (s.thermal b).margin.map fun x => max (-1200) (min x 1200)
    ((s.bedRec b).state = .releasable → ∃ t, exec (.panelDetensionAsk f) s = .next t
      ∧ t.bedRec b = { s.bedRec b with state := .releasing, permit := s.bed.permitWindow }
      ∧ s.bedMoved t b .releasing
      ∧ t.line = (panelAnswered f (byteOf b.val) (.permit s.bed.permitWindow) s).line
      ∧ t = { s with line := t.line, curing := t.curing, bed := t.bed })
    ∧ ((s.bedRec b).state = .releasing → exec (.panelDetensionAsk f) s =
        .next (panelAnswered f (byteOf b.val) (.permit s.bed.permitWindow)
          (modBedRec b (fun r => { r with permit := s.bed.permitWindow }) s)))
    ∧ ((s.bedRec b).state = .curing ∨ (s.bedRec b).state = .stripping →
        exec (.panelDetensionAsk f) s =
          .next (panelAnswered f (byteOf b.val) (.deny .notReady margin) s))
    ∧ ((s.bedRec b).state = .vacant ∨ (s.bedRec b).state = .stressed
          ∨ (s.bedRec b).state = .clearing →
        exec (.panelDetensionAsk f) s =
          .next (panelAnswered f (byteOf b.val) (.deny .notReady none) s)))
  ∧ (∀ s : State, s.running = true → s.noneWaiting → ∃ t, exec .worksMinuteExpiry s = .next t
      ∧ t.sup = { s.sup with worksMinute := s.sup.worksMinute + 1, minuteTimer := 0 }
      ∧ (∀ b, t.bedRec b =
          if (s.bedRec b).state = .releasing then
            if (s.bedRec b).permit ≤ 1 then { s.bedRec b with state := .releasable, permit := 0 }
            else { s.bedRec b with permit := (s.bedRec b).permit - 1 }
          else s.bedRec b)
      ∧ ((∃ b, (s.bedRec b).state = .releasing ∧ (s.bedRec b).permit ≤ 1) →
          (t.cause .permitLapsed).flag = true)
      ∧ (∀ b, t.thermal b = { s.thermal b with margin := (t.thermal b).margin })
      ∧ t.line.portF = s.line.portF
      ∧ t.bed = { s.bed with recs := t.bed.recs }
      ∧ t.curing = { s.curing with thermal := t.curing.thermal }
      ∧ t = { s with line := t.line, curing := t.curing, bed := t.bed, notice := t.notice
                     sup := t.sup })

/-- DETENSIONED by the bed's state (R14, R15, R16): permitted, without a permit, premature with every line's
piece flagged and the heat stopped, the final HEAT frame of duty 0 after those of the other beds and before
the answer (R76; log entry 8), after a stressing with and without a cast, or a duplicate that is
counted. -/
def Obligations.DetensionedTaken : Prop :=
  ∀ (s : State) (f : Frame) (b : Fin 24), s.panelTaken f 4#8 b → s.noneWaiting →
    let r := s.bedRec b
    let acc := (panelAnswered f (byteOf b.val) .accepted s).line.portF
    (r.state = .releasing → ∃ t, exec (.panelDetensioned f) s = .next t
      ∧ t.bedRec b = { r with state := .stripping, permit := 0 } ∧ s.bedMoved t b .stripping
      ∧ t.line.portF = acc ∧ t = { s with line := t.line, curing := t.curing, bed := t.bed })
    ∧ (r.state = .releasable → ∃ t, exec (.panelDetensioned f) s = .next t
        ∧ t.bedRec b = { r with state := .stripping, permit := 0
                                flags := { r.flags with permitless := true } }
        ∧ s.bedMoved t b .stripping ∧ (t.cause .permitless).flag = true ∧ t.line.portF = acc
        ∧ t = { s with line := t.line, curing := t.curing, bed := t.bed, notice := t.notice })
    ∧ (r.state = .curing → ∃ t, exec (.panelDetensioned f) s = .next t
        ∧ t.bedRec b = { r with state := .stripping, permit := 0
                                flags := { r.flags with premature := true } }
        ∧ s.bedMoved t b .stripping ∧ (t.cause .prematureRelease).flag = true
        ∧ (∀ m, t.findPiece m = (s.findPiece m).map fun p =>
            if r.lines.any (fun l => l.mark = m) then
              { p with flags := { p.flags with premature := true } }
            else p)
        ∧ (t.thermal b).demand = 0 ∧ (t.thermal b).waiting = .none
        ∧ (t.thermal b).coolPending = false
        ∧ (t.thermal b).maturity = (s.thermal b).maturity
        ∧ (t.thermal b).remainder = (s.thermal b).remainder
        ∧ (t.heatRec b).state = .stopping ∧ (t.heatRec b).request = 0
        ∧ (t.heatRec b).grant = 0 ∧ (t.heatRec b).duty = 0 ∧ (t.heatRec b).refresh = 60
        ∧ s.stoppedThen t b
            [{ dst := f.src, src := s.sup.station, kind := 0x05#8, seq := f.seq, flags := 1#8
               payload := byteOf b.val :: PanelAnswer.accepted.enc }]
        ∧ t = { s with line := t.line, curing := t.curing, heat := t.heat, bed := t.bed
                       piece := t.piece, notice := t.notice })
    ∧ (r.state = .stressed → r.castSeen = none → ∃ t, exec (.panelDetensioned f) s = .next t
        ∧ t.bedRec b = { r with state := .vacant, permit := 0
                                flags := { clamped := r.flags.clamped } }
        ∧ s.bedMoved t b .vacant ∧ t.line.portF = acc
        ∧ t = { s with line := t.line, curing := t.curing, bed := t.bed })
    ∧ (r.state = .stressed → r.castSeen ≠ none → ∃ t, exec (.panelDetensioned f) s = .next t
        ∧ t.bedRec b = { r with state := .stripping, permit := 0, castSeen := none
                                flags := { r.flags with permitless := true } }
        ∧ s.bedMoved t b .stripping ∧ (t.cause .permitless).flag = true ∧ t.line.portF = acc
        ∧ t = { s with line := t.line, curing := t.curing, bed := t.bed, notice := t.notice })
    ∧ (r.state = .vacant ∨ r.state = .stripping ∨ r.state = .clearing →
        exec (.panelDetensioned f) s = .next (panelAnswered f (byteOf b.val) .ignored
          { s with bed := { s.bed with duplicates := min 65535 (s.bed.duplicates + 1) } }))

/-- BED_CLEAR by R17: denied ORDER_LIVE while a live order takes from the STRIPPING bed; otherwise the
lines left go AT_LARGE with an account, the order and every flag go and the bed is VACANT; IGNORED in
every other state. -/
def Obligations.BedClearTaken : Prop :=
  ∀ (s : State) (f : Frame) (b : Fin 24), s.panelTaken f 5#8 b → s.noneWaiting →
    let r := s.bedRec b
    (r.state = .stripping → s.liveFromBed b = true → exec (.panelBedClear f) s =
      .next (panelAnswered f (byteOf b.val) (.deny .orderLive none) s))
    ∧ ((r.state = .stripping ∧ s.liveFromBed b = false) ∨ r.state = .clearing →
        ∃ t, exec (.panelBedClear f) s = .next t
          ∧ t.bedRec b = {} ∧ s.bedMoved t b .vacant
          ∧ (∀ m, t.findPiece m = (s.findPiece m).map fun p =>
              if r.lines.any (fun l => l.mark = m) then
                { p with
                  state := .atLarge, location := .none, ready := false
                  account := match p.account with
                    | some a => some a
                    | none => some (s.accountAt p.mix (s.thermal b).maturity
                                      (s.thermal b).remainder) }
              else p)
          ∧ (r.lines ≠ [] → (t.cause .pieceAtLarge).flag = true)
          ∧ (r.lines = [] → t.notice = s.notice)
          ∧ t.line.portF = (panelAnswered f (byteOf b.val) .accepted s).line.portF
          ∧ t = { s with line := t.line, curing := t.curing, bed := t.bed, piece := t.piece
                         notice := t.notice })
    ∧ (r.state ≠ .stripping → r.state ≠ .clearing → exec (.panelBedClear f) s =
        .next (panelAnswered f (byteOf b.val) .ignored s))

/-- A BED_ORDER that passes every check of R5 writes the order, creates one ORDERED record a line, copies
the schedule with its Tmax clamped, and starts the cure at once where the cast was seen (R6, R51,
R87); one that fails is replied the status of the first failing check and changes nothing. -/
def Obligations.BedOrderTaken : Prop :=
  ∀ (s : State) (f : Frame) (x : RawOrder), s.running = true → s.replyRoom →
    parseBedOrder f.payload = some x →
    (s.mgmt.configured = false →
      exec (.bedOrder f) s = .next (answered f 0x10#8 .notConfigured [] s))
    ∧ (s.mgmt.configured = true → s.bedOrderArgs x = none →
        exec (.bedOrder f) s = .next (answered f 0x10#8 .badArg [] s))
    ∧ (∀ b o lines, s.mgmt.configured = true → s.bedOrderArgs x = some (b, o, lines) →
        (∀ st, s.bedOrderCheck b o lines = .error st →
          exec (.bedOrder f) s = .next (answered f 0x10#8 st [] s))
        ∧ (∀ recipe, s.bedOrderCheck b o lines = .ok recipe → s.noneWaiting →
            ∃ t, exec (.bedOrder f) s = .next t
              ∧ (t.bedRec b).order = some o ∧ (t.bedRec b).lines = lines
              ∧ (t.thermal b).recipe = s.clampRecipe recipe lines
              ∧ s.bedMoved t b (t.bedRec b).state
              ∧ t.piece.recs.length = s.piece.recs.length + lines.length
              ∧ (∀ m, (∀ l ∈ lines, l.mark ≠ m) → t.findPiece m = s.findPiece m)
              ∧ ((s.bedRec b).state = .vacant ∨ (s.bedRec b).castSeen = none →
                  (t.bedRec b).state = (s.bedRec b).state
                  ∧ (∀ l ∈ lines, ∃ n, t.findPiece l.mark = some
                      { number := n, mark := l.mark, state := .ordered, mix := l.mix, cls := l.cls
                        length := l.length, weight := l.weight, origin := some (b, l.line)
                        castStamp := none, location := .bed b, account := none, ready := false
                        flags := {} })
                  ∧ t.line = (answered f 0x10#8 .ok (encFlags [s.wasClamped recipe lines]
                      ++ encS2 (s.clampRecipe recipe lines).tmax) s).line
                  ∧ t = { s with line := t.line, curing := t.curing, bed := t.bed
                                 piece := t.piece })
              ∧ (∀ stamp, (s.bedRec b).state = .stressed → (s.bedRec b).castSeen = some stamp →
                  (t.bedRec b).state = .curing ∧ (t.bedRec b).castSeen = none
                  ∧ (t.thermal b).maturity = 0 ∧ (t.heatRec b).state = .driven
                  ∧ (∀ l ∈ lines, ∃ n, t.findPiece l.mark = some
                      { number := n, mark := l.mark, state := .onBed, mix := l.mix, cls := l.cls
                        length := l.length, weight := l.weight, origin := some (b, l.line)
                        castStamp := some stamp, location := .bed b, account := none
                        ready := false, flags := {} })
                  ∧ t = { s with line := t.line, curing := t.curing, heat := t.heat, bed := t.bed
                                 piece := t.piece, notice := t.notice })))

/-- BED_CANCEL of a VACANT or STRESSED bed with an order, and BED_ABANDON of a CURING or RELEASABLE bed,
free the record of every line, empty the list and drop the order and CLAMPED; the one keeps the bed's
state, the other takes it to CLEARING with its heat stopped, a CURING bed's final HEAT frame of duty 0
after those of the other beds (R76; log entry 8); else STATE, and BAD_ARG above 23 (R7, R8). -/
def Obligations.OrderDropped : Prop :=
  ∀ (s : State) (f : Frame) (b : Fin 24),
    let r := s.bedRec b
    let freed := fun t : State => (∀ m, t.findPiece m =
      if r.lines.any (fun l => l.mark = m) then none else s.findPiece m)
    (s.bedRequest f 0x11#8 b →
      ((r.state = .vacant ∨ r.state = .stressed) → r.order ≠ none →
        ∃ t, exec (.bedCancel f) s = .next t
          ∧ t.bedRec b = { r with order := none, lines := []
                                  flags := { r.flags with clamped := false } }
          ∧ s.bedMoved t b r.state ∧ freed t
          ∧ t.line = (answered f 0x11#8 .ok [] s).line
          ∧ t = { s with line := t.line, bed := t.bed, piece := t.piece })
      ∧ ((r.state ≠ .vacant ∧ r.state ≠ .stressed) ∨ r.order = none →
          exec (.bedCancel f) s = .next (answered f 0x11#8 .state [] s)))
    ∧ (s.bedRequest f 0x12#8 b →
        ((r.state = .curing ∨ r.state = .releasable) → s.noneWaiting →
          ∃ t, exec (.bedAbandon f) s = .next t
            ∧ t.bedRec b = { r with state := .clearing, permit := 0, order := none, lines := []
                                    flags := { r.flags with clamped := false } }
            ∧ s.bedMoved t b .clearing ∧ freed t
            ∧ (r.state = .curing → (t.thermal b).demand = 0 ∧ (t.thermal b).waiting = .none
                ∧ (t.thermal b).coolPending = false ∧ (t.heatRec b).state = .stopping
                ∧ (t.heatRec b).request = 0 ∧ (t.heatRec b).grant = 0 ∧ (t.heatRec b).duty = 0
                ∧ (t.heatRec b).refresh = 60 ∧ s.stoppedThen t b [])
            ∧ (r.state = .releasable → t.heat = s.heat ∧ t.notice = s.notice
                ∧ t.line = (answered f 0x12#8 .ok [] s).line)
            ∧ t = { s with line := t.line, curing := t.curing, heat := t.heat, bed := t.bed
                           piece := t.piece, notice := t.notice })
        ∧ (r.state ≠ .curing → r.state ≠ .releasable →
            exec (.bedAbandon f) s = .next (answered f 0x12#8 .state [] s)))
    ∧ (∀ x : Byte, 24 ≤ x.toNat → s.running = true → s.replyRoom →
        (f.payload = [0x11#8, x] → exec (.bedCancel f) s = .next (answered f 0x11#8 .badArg [] s))
        ∧ (f.payload = [0x12#8, x] →
            exec (.bedAbandon f) s = .next (answered f 0x12#8 .badArg [] s)))

/-! ### Pieces and stock -/

/-- A piece-unit minute treats every IN_STOCK record, and no other: one accrual step at the ambient of its
slot's area and its own mix's datum where the ambient is present, the estimate and the readiness
recomputed (R36, R39, R43, R47, R95). -/
def Obligations.PieceMinuteAges : Prop :=
  ∀ s : State, s.running = true → s.directoryLaw → ∃ t, exec .pieceMinute s = .next t
    ∧ t.piece.recs = s.piece.recs.map (fun p =>
        if p.state = .inStock then
          let q := { p with account := p.account.map fun (a : Account) =>
            match s.locationAmbient p.location with
            | some x =>
              let y := accrue x.1 (s.mix p.mix).datumOf a.maturity a.remainder
              { maturity := y.1, remainder := y.2, estimate := (s.mix p.mix).estimate y.1 }
            | none => { a with estimate := (s.mix p.mix).estimate a.maturity } }
          { q with ready := s.pieceReady q }
        else p)
    ∧ ((∃ p ∈ t.piece.recs, p.ready = true ∧ ∃ q ∈ s.piece.recs, q.mark = p.mark
          ∧ q.ready = false) → (t.cause .pieceReady).flag = true)
    ∧ t = { s with line := t.line, piece := t.piece, notice := t.notice }

/-- PIECE_DECLARE by the checks of R96: the failing check's status, or the AT_LARGE record IN_STOCK at the
top of the slot's stack, its level in one byte of the reply (a width that is the model's reading, log
entry 21). -/
def Obligations.PieceDeclared : Prop :=
  ∀ (s : State) (f : Frame) (m : Nat) (n : Nat), s.running = true → m < 4294967296 → n < 65536 →
    f.payload = 0x2A#8 :: (enc4 m ++ enc2 n) →
    (s.replyRoom →
      (s.mgmt.configured = false →
        exec (.pieceDeclare f) s = .next (answered f 0x2A#8 .notConfigured [] s))
      ∧ (s.mgmt.configured = true →
          (m = 0 ∨ 1024 ≤ n → exec (.pieceDeclare f) s = .next (answered f 0x2A#8 .badArg [] s))
          ∧ (0 < m → n < 1024 → s.findPiece m = none →
              exec (.pieceDeclare f) s = .next (answered f 0x2A#8 .notFound [] s))
          ∧ (∀ p, 0 < m → n < 1024 → s.findPiece m = some p → p.state ≠ .atLarge →
              exec (.pieceDeclare f) s = .next (answered f 0x2A#8 .state [] s))
          ∧ (∀ p (k : Fin 1024) code, 0 < m → n = k.val → s.findPiece m = some p →
              p.state = .atLarge → s.placementCheck p.cls k = some code →
              exec (.pieceDeclare f) s = .next (answered f 0x2A#8
                (if code = .stackFull then .full else .badArg) [code.code] s))))
    ∧ (∀ p (k : Fin 1024), s.mgmt.configured = true → s.noneWaiting → 0 < m → n = k.val →
        s.findPiece m = some p → p.state = .atLarge → s.placementCheck p.cls k = none →
        let level := (s.slot k).stack.length + 1
        let q := { p with state := .inStock, location := .slot k level }
        ∃ t, exec (.pieceDeclare f) s = .next t
          ∧ t.slot k = { s.slot k with stack := (s.slot k).stack ++ [m] }
          ∧ (∀ j, j ≠ k → t.slot j = s.slot j)
          ∧ t.findPiece m = some { q with ready := s.pieceReady q }
          ∧ (∀ x, x ≠ m → t.findPiece x = s.findPiece x)
          ∧ (s.line.portP.normal.length < 15 → t.line.portP.normal.getLast? =
              (answered f 0x2A#8 .ok (enc1 level) s).line.portP.normal.getLast?)
          ∧ t.stock = { s.stock with slots := t.stock.slots }
          ∧ t = { s with line := t.line, piece := t.piece, stock := t.stock, notice := t.notice })

/-- PIECE_SET_MATURITY and PIECE_DROP by their statuses and effects: an UNRATED record takes the value with
remainder 0 and is rated, with PIECE_READY where it becomes ready in stock, and the reply OK carries the
new estimate; a dropped record is gone from its holder and the directory; every other record is as it was,
but for the level of those on the same slot, which move down to close the stack (R97, R98, R104). -/
def Obligations.PieceRatedOrDropped : Prop :=
  ∀ (s : State) (f : Frame) (m : Nat), s.running = true → m < 4294967296 →
    (∀ v, v < 4294967296 → f.payload = 0x2B#8 :: (enc4 m ++ enc4 v) →
      (s.replyRoom →
        (m = 0 ∨ 9999999 < v →
          exec (.pieceSetMaturity f) s = .next (answered f 0x2B#8 .badArg [] s))
        ∧ (0 < m → v ≤ 9999999 → s.findPiece m = none →
            exec (.pieceSetMaturity f) s = .next (answered f 0x2B#8 .notFound [] s))
        ∧ (∀ p, 0 < m → v ≤ 9999999 → s.findPiece m = some p → p.flags.unrated = false →
            exec (.pieceSetMaturity f) s = .next (answered f 0x2B#8 .state [] s)))
      ∧ (∀ p, 0 < m → v ≤ 9999999 → s.findPiece m = some p → p.flags.unrated = true →
          let q := { p with
            account := some { maturity := v, remainder := 0
                              estimate := (s.mix p.mix).estimate v }
            flags := { p.flags with unrated := false } }
          ∃ t, exec (.pieceSetMaturity f) s = .next t
            ∧ t.findPiece m = some { q with ready := s.pieceReady q }
            ∧ (∀ x, x ≠ m → t.findPiece x = s.findPiece x)
            ∧ (p.ready = false → s.pieceReady q = true → (t.cause .pieceReady).flag = true)
            ∧ (s.line.portP.normal.length < 15 → t.line.portP.normal.getLast? =
                (answered f 0x2B#8 .ok (enc2 ((s.mix p.mix).estimate v)) s).line.portP.normal.getLast?)
            ∧ (s.replyRoom → p.ready = true ∨ s.pieceReady q = false →
                t.line = (answered f 0x2B#8 .ok (enc2 ((s.mix p.mix).estimate v)) s).line)
            ∧ t = { s with line := t.line, piece := t.piece, notice := t.notice }))
    ∧ (f.payload = 0x2C#8 :: enc4 m → s.replyRoom →
        (m = 0 → exec (.pieceDrop f) s = .next (answered f 0x2C#8 .badArg [] s))
        ∧ (0 < m → s.findPiece m = none →
            exec (.pieceDrop f) s = .next (answered f 0x2C#8 .notFound [] s))
        ∧ (∀ p, 0 < m → s.findPiece m = some p → s.pieceBusy m = true →
            exec (.pieceDrop f) s = .next (answered f 0x2C#8 .busy [] s))
        ∧ (∀ p, 0 < m → s.findPiece m = some p → s.pieceBusy m = false → s.noneWaiting →
            ∃ t, exec (.pieceDrop f) s = .next t
              ∧ t.findPiece m = none
              ∧ t.line = (answered f 0x2C#8 .ok [] s).line
              ∧ (∀ b, p.location = .bed b →
                  (t.bedRec b).lines = (s.bedRec b).lines.filter (fun l => l.mark ≠ m)
                  ∧ (t.bedRec b).order = (s.bedRec b).order
                  ∧ s.bedMoved t b (s.bedRec b).state
                  ∧ (∀ x, x ≠ m → t.findPiece x = s.findPiece x)
                  ∧ t = { s with line := t.line, curing := t.curing, bed := t.bed
                                 piece := t.piece })
              ∧ (∀ n v, p.location = .slot n v →
                  s.unstacked t n m ∧ (t.slot n).claims = (s.slot n).claims
                  ∧ (∀ j, j ≠ n → t.slot j = s.slot j)
                  ∧ t.stock = { s.stock with slots := t.stock.slots }
                  ∧ t = { s with line := t.line, piece := t.piece, stock := t.stock })
              ∧ (∀ c, p.location = .crane c →
                  t.crane c = { s.crane c with hook := none } ∧ s.onlyCrane t c
                  ∧ (∀ x, x ≠ m → t.findPiece x = s.findPiece x)
                  ∧ t = { s with line := t.line, piece := t.piece, runway := t.runway })
              ∧ (p.location = .none →
                  (∀ x, x ≠ m → t.findPiece x = s.findPiece x)
                  ∧ t = { s with line := t.line, piece := t.piece })))

/-- Binding a census order to a mark by the rows of R114: the record at the top of the source slot is
confirmed, one elsewhere in stock or at large is relocated, an unknown mark gets a record, and any
other mark, or a full store, halts the crane with HOOK_MISMATCH and the binding FAILED. The piece of
another order is the mark it carries and the mark it is bound to (DEDUCED, log entry 18). -/
def Obligations.CensusBinding : Prop :=
  ∀ (s : State) (c : Fin 4) (o : CraneOrder) (n : Fin 1024) (a : Fin 16) (m : Nat),
    (s.crane c).current = some o → s.areaOf n.val = some a →
    let t := bindMark c o n m s
    let onHook := fun p : Piece =>
      { p with state := .onHook, location := .crane c, ready := false }
    let bound := (t.crane c).hook = some m
      ∧ (t.crane c).current = some { o with binding := some (.bound m) }
      ∧ (∀ d, d ≠ c → t.crane d = s.crane d)
    let failed := t.stock.slots = s.stock.slots ∧ t.piece = s.piece
      ∧ (t.crane c).current = some { o with binding := some .failed }
      ∧ (t.crane c).control = .halted ∧ (t.crane c).hook = (s.crane c).hook
      ∧ (t.cause .hookMismatch).flag = true
      ∧ t.area a = { s.area a with failed := min 65535 ((s.area a).failed + 1) }
    (∀ p, s.findPiece m = some p → s.busyElsewhere c m = true →
      failed ∧ (t.crane c).lastHalt = some .hookMismatch)
    ∧ (∀ p, s.findPiece m = some p → s.busyElsewhere c m = false →
        (∀ v, p.state = .inStock → p.location = .slot n v →
          (s.slot n).stack.getLast? = some m →
          bound ∧ s.unstacked t n m ∧ t.findPiece m = some (onHook p)
            ∧ t.area a = { s.area a with confirmed := min 65535 ((s.area a).confirmed + 1) })
        ∧ (∀ k v, p.state = .inStock → p.location = .slot k v →
            (k ≠ n ∨ (s.slot n).stack.getLast? ≠ some m) →
            bound ∧ s.unstacked t k m ∧ t.findPiece m = some (onHook p)
              ∧ t.area a = { s.area a with relocated := min 65535 ((s.area a).relocated + 1) })
        ∧ (p.state = .atLarge →
            bound ∧ t.stock.slots = s.stock.slots ∧ t.findPiece m = some (onHook p)
              ∧ t.area a = { s.area a with relocated := min 65535 ((s.area a).relocated + 1) })
        ∧ ((p.state = .ordered ∨ p.state = .onBed ∨ p.state = .onHook) →
            failed ∧ (t.crane c).lastHalt = some .hookMismatch))
    ∧ (s.findPiece m = none → 2048 ≤ s.piece.recs.length →
        failed ∧ (t.crane c).lastHalt = some .stockFullRecords)
    ∧ (s.findPiece m = none → s.piece.recs.length < 2048 →
        bound ∧ t.stock.slots = s.stock.slots
          ∧ (∃ number, t.findPiece m = some
              { number := number, mark := m, state := .onHook
                mix := match o.markLine with | some x => x.1 | none => 0
                cls := match o.markLine with | some x => x.2 | none => 0
                length := 1, weight := 1, origin := none, castStamp := none
                location := .crane c
                account := some (s.accountAt
                  (match o.markLine with | some x => x.1 | none => 0) 0 0)
                ready := false, flags := { unrated := true } })
          ∧ t.area a = { s.area a with created := min 65535 ((s.area a).created + 1) })

/-- CENSUS_BEGIN and CENSUS_END by the statuses and the table of R112, and CRANE_RELEASE by R136, each with
no order waiting so that its admission opportunity changes nothing more. -/
def Obligations.CensusAndRelease : Prop :=
  ∀ (s : State) (f : Frame), s.running = true → s.replyRoom → s.noneWaiting →
    (∀ a : Fin 16,
      (f.payload = [0x28#8, byteOf a.val] →
        exec (.censusBegin f) s = .next
          (if s.mgmt.configured = false then answered f 0x28#8 .notConfigured [] s
           else if (s.area a).count = 0 then answered f 0x28#8 .notFound [] s
           else if s.picksFrom a = true then answered f 0x28#8 .busy [] s
           else if (s.area a).inCensus = true then answered f 0x28#8 .ok [] s
           else answered f 0x28#8 .ok [] (modArea a (fun x =>
             { x with inCensus := true, confirmed := 0, relocated := 0, created := 0
                      failed := 0 }) s)))
      ∧ (f.payload = [0x29#8, byteOf a.val] →
          exec (.censusEnd f) s = .next
            (if s.mgmt.configured = false then answered f 0x29#8 .notConfigured [] s
             else if (s.area a).count = 0 then answered f 0x29#8 .notFound [] s
             else if s.picksFrom a = true then answered f 0x29#8 .busy [] s
             else answered f 0x29#8 .ok
               (enc2 (s.area a).confirmed ++ enc2 (s.area a).relocated
                 ++ enc2 (s.area a).created ++ enc2 (s.area a).failed)
               (modArea a (fun x => { x with inCensus := false }) s))))
    ∧ (∀ x : Byte, 16 ≤ x.toNat →
        let st := if s.mgmt.configured = true then Status.badArg else Status.notConfigured
        (f.payload = [0x28#8, x] → exec (.censusBegin f) s = .next (answered f 0x28#8 st [] s))
        ∧ (f.payload = [0x29#8, x] → exec (.censusEnd f) s = .next (answered f 0x29#8 st [] s)))
    ∧ (∀ c : Fin 4, f.payload = [0x1E#8, byteOf c.val] →
        exec (.craneRelease f) s = .next
          (if (s.craneEntry c).station = none then answered f 0x1E#8 .notFound [] s
           else if (s.crane c).control ≠ .halted then answered f 0x1E#8 .state [] s
           else answered f 0x1E#8 .ok [] (modCrane c (fun k =>
             { k with control := if k.current = none then .free else .ordered }) s)))
    ∧ (∀ x : Byte, f.payload = [0x1E#8, x] → 4 ≤ x.toNat →
        exec (.craneRelease f) s = .next (answered f 0x1E#8 .badArg [] s))

/-! ### The runway -/

/-- An ORDER that passes the form checks of R124, for a crane without a live order of its tag: refused with
its trial's code; made to wait at the young end of the queue, where its trial makes it wait and, behind an
older order of its crane, where its trial admits it too; refused QUEUE_FULL instead by a queue of 16, or of
4 for its crane, and WAIT_EXPIRED by a wait limit of 0 (R127; the first of the two is the model's choice,
log entry 9); or admitted with reservation, control, claim, grant number, stamped ORDER and answer as R126
says. And the refusals of checks 1 to 3. Other orders may wait throughout, but for the admission of a CARRY
to a slot, whose claim opens a pass (R128). -/
def Obligations.OrderOutcomes : Prop :=
  ∀ (s : State) (f : Frame), s.running = true → s.runway.opportunities = 0 →
    3 ≤ f.payload.length →
    let refused := fun (code : Byte) => Host.Outcome.next (φ := Fault) (ρ := Refusal)
      (withPlantFrame { dst := f.src, src := s.sup.station, kind := 0x07#8, seq := f.seq
                        flags := 0#8, payload := f.payload.take 3 ++ [3#8, code, 0#8] }
        (takeHanded f s))
    (s.replyRoom →
      (s.mgmt.configured = false → exec (.order f) s = refused 1#8)
      ∧ (s.mgmt.configured = true →
          (parseOrder f.payload = none → exec (.order f) s = refused 2#8)
          ∧ (∀ x, parseOrder f.payload = some x → s.formCheck x = none →
              exec (.order f) s = refused 2#8)
          ∧ (∀ x y, parseOrder f.payload = some x → s.formCheck x = some y →
              s.orderCrane f x = none → exec (.order f) s = refused 3#8)))
    ∧ (∀ x task ml c, s.mgmt.configured = true → parseOrder f.payload = some x →
        s.formCheck x = some (task, ml) → s.orderCrane f x = some c →
        s.liveOrder c x.tag = none → s.replyRoom →
        let o : CraneOrder :=
          { frame := f, crane := c, tag := x.tag, mark := if x.mark = 0 then none else some x.mark
            markLine := ml, task := task }
        let answer := fun a => withPlantFrame (s.orderAnswer f x.tag c.val a)
        let mine := s.runway.waiting.filter fun w => w.crane = c
        let full := 16 ≤ s.runway.waiting.length ∨ 4 ≤ mine.length
        let waits := s.trial o = .wait ∨ (s.trial o = .admitted ∧ mine ≠ [])
        (∀ code, s.trial o = .refused code →
          exec (.order f) s = .next (answer (.refused code) (takeHanded f s)))
        ∧ (waits → full →
            exec (.order f) s = .next (answer (.refused .queueFull) (takeHanded f s)))
        ∧ (waits → ¬full → s.runway.waitLimit = 0 →
            exec (.order f) s = .next (answer (.refused .waitExpired) (takeHanded f s)))
        ∧ (waits → ¬full → 0 < s.runway.waitLimit →
            exec (.order f) s = .next (answer .waiting
              (setWaiting (s.runway.waiting ++ [{ o with waitTimer := s.runway.waitLimit }])
                (takeHanded f s))))
        ∧ (s.trial o = .admitted → mine = [] → task.destSlot = none ∨ s.runway.waiting = [] →
            s.ringRoom →
            let g : Byte := if s.runway.grantNumber = 255#8 then 1#8 else s.runway.grantNumber + 1#8
            ∃ t pos, exec (.order f) s = .next t ∧ (s.crane c).position = some pos
              ∧ t.crane c = { s.crane c with
                  reservation := some (s.orderSpan c pos task), control := .ordered
                  current := some { o with
                    state := .admitted, startTimer := s.runway.startWindow
                    span := some (s.orderSpan c pos task), loadedSpan := s.orderLoaded c pos task
                    binding := if s.isCensus task = true then some .unbound else none
                    stamp := (s.sup.station, g) } }
              ∧ (∀ d, d ≠ c → t.crane d = s.crane d)
              ∧ t.runway = { s.runway with cranes := t.runway.cranes, grantNumber := g }
              ∧ (∀ n, t.slot n = if task.destSlot = some n then
                    { s.slot n with claims := (s.slot n).claims + 1 } else s.slot n)
              ∧ t.stock = { s.stock with slots := t.stock.slots }
              ∧ t.line = { s.line with
                  handed := s.line.handed.erase f
                  portF := { s.line.portF with normal := s.line.portF.normal ++
                    [{ f with flags := f.flags ||| 1#8
                              payload := f.payload.take 15 ++ [s.sup.station, g] }] }
                  portP := { s.line.portP with normal := s.line.portP.normal ++
                    [s.orderAnswer f x.tag c.val (.admitted g)] } }
              ∧ t = { s with line := t.line, stock := t.stock, runway := t.runway }))

/-- The trial, the admission pass and a repeat. A trial admits an order exactly when every test of R125
passes: a FREE crane that has been heard from, an empty hook but for a CARRY from HOOK, no CLOSED region
under its span, its piece known, in place and of no other crane, its bed STRIPPING, the pick check of
R108 or the hook piece its own mark, a ready piece for a bay, the placement check of R107 with the class
it accepts, no other crane's reservation or envelope under its span, and no no-load ground under its
loaded span; the first test to fail gives the outcome. A pass tries the waiting orders once each, from
the oldest, skips those of a crane with an older order still waiting, and admits, refuses or leaves the
others (R128); it is shown at CRANE_RELEASE. An ORDER that repeats a live order is answered with that
order's outcome, and another with a live tag is BAD_ORDER (R124). The piece of a census order is its
mark and the mark it is bound to (log entry 18); the place of a class in the accepted set is log
entry 38. That the opportunities of an event are counted, and that the pass of CRANE_RELEASE offers its
frames before the MGMT_REPLY, is the model's choice (log entry 5). -/
def Obligations.AdmissionTests : Prop :=
  (∀ (s : State) (o : CraneOrder),
    let k := s.crane o.crane
    let known := o.mark.bind s.findPiece
    let census := ∃ n dst a, o.task = .carry (.slot n) dst ∧ s.areaOf n.val = some a
      ∧ (s.area a).inCensus = true
    let cls : Fin 8 := match known with
      | some p => p.cls
      | none => match o.markLine with
        | some x => x.2
        | none => 0
    let heard := fun pos => k.control ≠ .halted ∧ (fromHook o.task = true ∨ k.hook = none)
      ∧ k.presence ≠ .unknown ∧ k.position = some pos
    let open_ := fun pos => ∀ r, (s.region r).enabled = true → (s.region r).kind = .closed →
      (s.orderSpan o.crane pos o.task).overlaps
        { lo := (s.region r).start, hi := (s.region r).stop } = false
    let pieceHere := fun src : Source =>
      (∀ p, known = some p → ¬s.namedByOrder p.mark
        ∧ (∀ c, c ≠ o.crane → (s.crane c).hook ≠ some p.mark)
        ∧ ∀ b, src = .bed b → p.state = .onBed ∧ p.location = .bed b)
      ∧ (known = none → census)
    let bedReady := fun src : Source => ∀ b, src = .bed b → (s.bedRec b).state = .stripping
    let picks := fun src : Source =>
      (∀ n, src = .slot n → census ∨ ∃ m p v, o.mark = some m ∧ s.findPiece m = some p
        ∧ p.state = .inStock ∧ p.location = .slot n v ∧ (s.slot n).stack.getLast? = some m
        ∧ ¬s.namedByOrder m)
      ∧ (src = .hook → ∃ m, o.mark = some m ∧ k.hook = some m)
    let lands := fun dst : Place =>
      (∀ y, dst = .bay y → ∃ p, known = some p ∧ p.ready = true)
      ∧ (∀ n, dst = .slot n → ∃ a, s.areaOf n.val = some a ∧ s.inService (groupOf n) = true
          ∧ (s.area a).dispatchOnly = false ∧ (s.area a).classes.getLsbD cls.val = true
          ∧ (s.slot n).stack.length + (s.slot n).claims < (s.area a).heightLimit)
    let carried := ∀ src dst, o.task = .carry src dst →
      pieceHere src ∧ bedReady src ∧ picks src ∧ lands dst
    let clear := fun pos => k.control = .free
      ∧ (∀ c, c ≠ o.crane → ∀ i, (s.crane c).reservation = some i ∨ (s.crane c).envelope = some i →
          i.overlaps (s.orderSpan o.crane pos o.task) = false)
      ∧ (∀ l, s.orderLoaded o.crane pos o.task = some l →
          (∀ r, (s.region r).enabled = true → (s.region r).kind = .noLoad →
            l.overlaps { lo := (s.region r).start, hi := (s.region r).stop } = false)
          ∧ (∀ b, s.noLoadBed b = true → l.overlaps (s.bedSpan b) = false))
    (s.trial o = .admitted ↔ ∃ pos, heard pos ∧ open_ pos ∧ carried ∧ clear pos)
    ∧ (k.control = .halted → s.trial o = .refused .craneHalted)
    ∧ (k.control ≠ .halted → fromHook o.task = false → k.hook ≠ none →
        s.trial o = .refused .hookOccupied)
    ∧ (k.control ≠ .halted → (fromHook o.task = true ∨ k.hook = none) →
        (k.presence = .unknown ∨ k.position = none) → s.trial o = .wait)
    ∧ (∀ pos, heard pos →
        (¬open_ pos → s.trial o = .refused .closedRegion)
        ∧ (open_ pos → carried → ¬clear pos → s.trial o = .wait)
        ∧ (∀ src dst, open_ pos → o.task = .carry src dst →
            (known = none → ¬census → s.trial o = .refused .pieceUnknown)
            ∧ (∀ p, known = some p → ¬pieceHere src → s.trial o = .refused .pieceNotHere)
            ∧ (pieceHere src →
                (∀ b, src = .bed b →
                  ((s.bedRec b).state = .releasable ∨ (s.bedRec b).state = .releasing →
                    s.trial o = .wait)
                  ∧ ((s.bedRec b).state ≠ .releasable → (s.bedRec b).state ≠ .releasing →
                      (s.bedRec b).state ≠ .stripping → s.trial o = .refused .bedNotStripping))
                ∧ (¬picks src → s.trial o = .refused .pieceNotHere)
                ∧ (bedReady src → picks src →
                    (∀ y, dst = .bay y → ¬lands dst → s.trial o = .refused .notDispatchable)
                    ∧ (∀ n, dst = .slot n →
                        (s.areaOf n.val = none → s.trial o = .refused .slotUnknown)
                        ∧ (∀ a, s.areaOf n.val = some a →
                            (s.inService (groupOf n) = false →
                              s.trial o = .refused .slotOutOfService)
                            ∧ (s.inService (groupOf n) = true →
                                ((s.area a).dispatchOnly = true →
                                  s.trial o = .refused .areaDispatchOnly)
                                ∧ ((s.area a).dispatchOnly = false →
                                    ((s.area a).classes.getLsbD cls.val = false →
                                      s.trial o = .refused .classNotAccepted)
                                    ∧ ((s.area a).classes.getLsbD cls.val = true → ¬lands dst →
                                        s.trial o = .refused .stackFull))))))))))
  ∧ (∀ (s : State) (o : CraneOrder) (blocked : List (Fin 4)),
      let left := setWaiting (s.runway.waiting.erase o) s
      (o.crane ∈ blocked → passOne (blocked, s) o = (blocked, s))
      ∧ (o.crane ∉ blocked →
          (s.trial o = .wait → passOne (blocked, s) o = (o.crane :: blocked, s))
          ∧ (∀ code, s.trial o = .refused code → s.replyRoom → passOne (blocked, s) o = (blocked,
              withPlantFrame (s.orderAnswer o.frame o.tag o.crane.val (.refused code)) left))
          ∧ (∀ pos, s.trial o = .admitted → (s.crane o.crane).position = some pos →
              s.replyRoom → s.ringRoom → ∃ n, passOne (blocked, s) o = (blocked,
                let t := left.afterAdmission o pos
                { t with runway := { t.runway with opportunities := n } }))))
  ∧ (∀ s : State, takeOpportunity s = (s.runway.waiting.foldl passOne ([],
      { s with runway := { s.runway with opportunities := s.runway.opportunities - 1 } })).2)
  ∧ (∀ (s : State) (f : Frame) (c : Fin 4), s.running = true → s.replyRoom →
      s.runway.opportunities = 0 → f.payload = [0x1E#8, byteOf c.val] →
      (s.craneEntry c).station.isSome = true → (s.crane c).control = .halted →
      let u := modCrane c (fun k =>
        { k with control := if k.current = none then .free else .ordered }) s
      let released := fun v => exec (.craneRelease f) s = .next (answered f 0x1E#8 .ok [] v)
      ((∀ o ∈ s.runway.waiting, u.trial o = .wait) → released u)
      ∧ (∀ o rest, s.runway.waiting = o :: rest → u.trial o = .wait →
          (∀ x ∈ rest, x.crane = o.crane) → released u)
      ∧ (∀ o, s.runway.waiting = [o] → s.line.portP.normal.length < 15 →
          (∀ code, u.trial o = .refused code → released (withPlantFrame
            (u.orderAnswer o.frame o.tag o.crane.val (.refused code)) (setWaiting [] u)))
          ∧ (∀ pos, u.trial o = .admitted → (u.crane o.crane).position = some pos → u.ringRoom →
              released ((setWaiting [] u).afterAdmission o pos))))
  ∧ (∀ (s : State) (f : Frame) (x : OrderFields) (task : Task) (ml : Option (Fin 16 × Fin 8))
      (c : Fin 4) (o : CraneOrder), s.running = true → s.mgmt.configured = true → s.replyRoom →
      s.runway.opportunities = 0 → parseOrder f.payload = some x →
      s.formCheck x = some (task, ml) → s.orderCrane f x = some c → o.tag = x.tag →
      ((s.crane c).current = some o
        ∨ ((∀ k, (s.crane c).current = some k → k.tag ≠ x.tag) ∧ o ∈ s.runway.waiting
            ∧ ∀ w ∈ s.runway.waiting, w.crane = c ∧ w.tag = x.tag ↔ w = o)) →
      let answer := fun a => withPlantFrame (s.orderAnswer f x.tag c.val a) (takeHanded f s)
      let same := o.frame.src = f.src ∧ o.frame.payload.take 15 = f.payload.take 15
      (same → o.state = .waiting → exec (.order f) s = .next (answer .waiting))
      ∧ (same → o.state ≠ .waiting → exec (.order f) s = .next (answer (.admitted o.stamp.2)))
      ∧ (¬same → exec (.order f) s = .next (answer (.refused .badOrder))))

/-- A POSITION report stores the clamped position and envelope, makes the crane REPORTING with 10 s of
silence left, and halts a crane that overruns with CRANE_OVERRUN; a report from a station of no crane
in use changes nothing, and a malformed one from a crane touches no crane and is counted stray (R120,
R121, R122, R170; log entry 7 for the HALT's sequence, 33 for its coming before the cause's NOTICE, 25
for a malformed report). -/
def Obligations.PositionTaken : Prop :=
  ∀ (s : State) (f : Frame), s.running = true → s.noneWaiting →
    (s.craneOf f.src = none → exec (.reportPosition f) s = .next (takeHanded f s))
    ∧ (∀ c, s.craneOf f.src = some c → parseReport f.payload = none →
        exec (.reportPosition f) s = .next (countStrayReport (takeHanded f s)))
    ∧ (∀ r c, parseReport f.payload = some r → s.craneOf f.src = some c →
        let k := s.reported c r.position
        let env : Interval := k.envelope.getD { lo := 0, hi := 0 }
        let overrun := (s.crane c).control ≠ .halted ∧
          ((∃ i, k.reservation = some i ∧ env.within i = false)
            ∨ (k.reservation = none ∧ ∃ d i, d ≠ c ∧ (s.crane d).reservation = some i
                ∧ i.overlaps env = true))
        (¬overrun → exec (.reportPosition f) s = .next (modCrane c (fun _ => k) (takeHanded f s)))
        ∧ (overrun → ∃ t, exec (.reportPosition f) s = .next t
            ∧ t.crane c = { k with control := .halted, lastHalt := some .overrun }
            ∧ s.onlyCrane t c ∧ (t.cause .craneOverrun).flag = true
            ∧ (s.line.portF.urgent.length < 4 → t.line.portF.urgent = s.line.portF.urgent ++
                [{ dst := (s.craneEntry c).station.getD 0#8, src := s.sup.station
                   kind := 0x09#8, seq := s.line.seq + 1#8, flags := 1#8
                   payload := enc1 c.val ++ enc1 1 ++ enc2 (s.currentTag c) }])
            ∧ t = { s with line := t.line, heat := t.heat, runway := t.runway
                           notice := t.notice }))

/-- STARTED makes the ADMITTED order of its tag ACTIVE and is a late start, halting the crane whether or
not it is HALTED, for any other tag (R130). LIFTED takes the lift by its source: from a bed with the
bed's account and the line removed, from a stack counting a buried pick, from the hook moving nothing;
for an UNBOUND census order it binds the order's mark, or halts the crane UNSCANNED where the order has
none, and for a BOUND or FAILED one it moves nothing; a LIFTED for a TRAVEL, for a lift already taken or
with a tag of no admitted or active order is counted stray (R90, R91, R109, R115, R131). The lift of a
COMPLETE, or of an ABORTED with the hook loaded, is implied: it comes out as a LIFTED taken just before
would (R131 to R133). That a LIFTED makes an ADMITTED TRAVEL ACTIVE and is then stray is log entry 31,
that an UNBOUND lift without a mark counts as failed log entry 10; for the HALT's sequence see log
entries 7 and 33. -/
def Obligations.StartedAndLifted : Prop :=
  ∀ (s : State) (f : Frame) (c : Fin 4) (o : CraneOrder) (pos : Nat) (loaded : Bool),
    (s.orderReport f 2 c o pos loaded → exec (.reportStarted f) s =
      .next (modCrane c (fun _ => { s.reported c pos with current := some o.started })
        (takeHanded f s)))
    ∧ (s.running = true → s.noneWaiting → s.craneOf f.src = some c → s.keepsClear c pos → ∀ tag,
        parseReport f.payload = some { kind := 2, position := pos, tag := tag, loaded := loaded } →
        (∀ x, (s.crane c).current = some x → x.tag ≠ tag) →
        ∃ t, exec (.reportStarted f) s = .next t
          ∧ t.crane c = { s.reported c pos with
              control := .halted, lastHalt := some .lateStart }
          ∧ s.onlyCrane t c ∧ (t.cause .lateStart).flag = true ∧ s.haltSent t c 2
          ∧ t = { s with line := t.line, heat := t.heat, runway := t.runway, notice := t.notice })
    ∧ (s.running = true → s.noneWaiting → s.craneOf f.src = some c → s.keepsClear c pos → ∀ tag,
        parseReport f.payload = some { kind := 3, position := pos, tag := tag, loaded := loaded } →
        (∀ x, (s.crane c).current = some x → x.tag ≠ tag) →
        exec (.reportLifted f) s = .next (countStrayReport
          (modCrane c (fun _ => s.reported c pos) (takeHanded f s))))
    ∧ (s.orderReport f 3 c o pos loaded →
        let k : Crane := { s.reported c pos with current := some { o.started with lifted := true } }
        (∀ b dst m p, o.task = .carry (.bed b) dst → o.lifted = false → o.mark = some m →
          s.findPiece m = some p →
          ∃ t, exec (.reportLifted f) s = .next t
            ∧ t.crane c = { k with hook := some m } ∧ s.onlyCrane t c
            ∧ t.findPiece m = some { p with
                state := .onHook, location := .crane c, ready := false
                account := some { maturity := (s.thermal b).maturity
                                  remainder := (s.thermal b).remainder
                                  estimate := (s.mix p.mix).estimate (s.thermal b).maturity } }
            ∧ (∀ x, x ≠ m → t.findPiece x = s.findPiece x)
            ∧ t.bedRec b = { s.bedRec b with
                lines := (s.bedRec b).lines.filter (fun l => l.mark ≠ m) }
            ∧ s.bedMoved t b (s.bedRec b).state
            ∧ t.thermal b = { s.thermal b with margin := (t.thermal b).margin }
            ∧ t = { s with line := { s.line with handed := s.line.handed.erase f }
                           curing := t.curing, bed := t.bed, piece := t.piece
                           runway := t.runway })
        ∧ (∀ n dst m p, o.task = .carry (.slot n) dst → o.lifted = false → o.binding = none →
            o.mark = some m → s.findPiece m = some p →
            ∃ t, exec (.reportLifted f) s = .next t
              ∧ t.crane c = { k with hook := some m } ∧ s.onlyCrane t c
              ∧ t.findPiece m = some
                  { p with state := .onHook, location := .crane c, ready := false }
              ∧ s.unstacked t n m ∧ (t.slot n).claims = (s.slot n).claims
              ∧ (∀ j, j ≠ n → t.slot j = s.slot j)
              ∧ t.stock = { s.stock with
                  slots := t.stock.slots
                  buried := if (s.slot n).stack.getLast? = some m then s.stock.buried
                            else min 65535 (s.stock.buried + 1) }
              ∧ t = { s with line := { s.line with handed := s.line.handed.erase f }
                             piece := t.piece, stock := t.stock, runway := t.runway })
        ∧ (∀ dst, o.task = .carry .hook dst → o.lifted = false →
            exec (.reportLifted f) s = .next (modCrane c (fun _ => k) (takeHanded f s)))
        ∧ (∀ n dst a, o.task = .carry (.slot n) dst → o.lifted = false →
            s.areaOf n.val = some a →
            let held : CraneOrder := { o.started with lifted := true }
            let u := modCrane c (fun _ => k) (takeHanded f s)
            (∀ m, o.binding = some .unbound → o.mark = some m →
              let v := bindMark c held n m u
              exec (.reportLifted f) s =
                .next { v with runway := { v.runway with opportunities := 0 } })
            ∧ (o.binding = some .unbound → o.mark = none →
                ∃ t, exec (.reportLifted f) s = .next t
                  ∧ t.crane c = { k with
                      control := .halted, lastHalt := some .unscanned
                      current := some { held with binding := some .failed } }
                  ∧ s.onlyCrane t c ∧ (t.cause .hookMismatch).flag = true ∧ s.haltSent t c 4
                  ∧ t.area a = { s.area a with failed := min 65535 ((s.area a).failed + 1) }
                  ∧ (∀ k, k ≠ a → t.area k = s.area k)
                  ∧ t.stock = { s.stock with areas := t.stock.areas }
                  ∧ t = { s with line := t.line, heat := t.heat, stock := t.stock
                                 runway := t.runway, notice := t.notice })
            ∧ ((o.binding = some .failed ∨ ∃ m, o.binding = some (.bound m)) →
                exec (.reportLifted f) s = .next u))
        ∧ (((∃ p, o.task = .travel p) ∨ o.lifted = true) →
            exec (.reportLifted f) s = .next (countStrayReport
              (modCrane c (fun _ => { s.reported c pos with current := some o.started })
                (takeHanded f s)))))
    ∧ (∀ src dst u, o.task = .carry src dst → o.lifted = false →
        let g : Frame := { f with payload := 3#8 :: f.payload.tail }
        g ∉ s.line.handed → exec (.reportLifted g) s = .next u →
        (s.orderReport f 4 c o pos loaded →
          exec (.reportComplete f) s = exec (.reportComplete f) u)
        ∧ (s.orderReport f 5 c o pos true →
            exec (.reportAborted f) s = exec (.reportAborted f) u))

/-- COMPLETE of an order whose piece is on the hook ends it: pushed onto the slot with the claim released,
or dispatched to a bay with its record freed, UNSCANNED without a matching scan, or in census without any
scan seen for the order, reservation and order gone and control FREE or still HALTED; a TRAVEL takes the
release alone; a census order whose binding FAILED pushes and frees nothing, releases its claim and ends
with its crane halted and HOOK_MISMATCH raised again; an unknown tag raises UNKNOWN_COMPLETE and changes
nothing more (R93, R110, R115, R132). The lift of a COMPLETE not yet lifted is stated with LIFTED. For the
HALT's sequence see log entries 7 and 33. -/
def Obligations.CompletionTaken : Prop :=
  ∀ (s : State) (f : Frame) (c : Fin 4) (o : CraneOrder) (pos : Nat) (loaded : Bool),
    (s.orderReport f 4 c o pos loaded →
      let k := s.reported c pos
      let scannedFlags := fun p : Piece =>
        { p.flags with
          unscanned := p.flags.unscanned || !(if o.binding = none then o.scanned else o.scanSeen) }
      (∀ p, o.task = .travel p → exec (.reportComplete f) s =
        .next (modCrane c (fun _ => k.ended k.hook) (takeHanded f s)))
      ∧ (∀ src n m p, o.task = .carry src (.slot n) → o.lifted = true → o.piece = some m →
          s.findPiece m = some p →
          let level := (s.slot n).stack.length + 1
          let q := { p with state := .inStock, location := .slot n level, flags := scannedFlags p }
          ∃ t, exec (.reportComplete f) s = .next t
            ∧ t.crane c = k.ended none ∧ s.onlyCrane t c
            ∧ t.slot n = { stack := (s.slot n).stack ++ [m], claims := (s.slot n).claims - 1 }
            ∧ (∀ j, j ≠ n → t.slot j = s.slot j)
            ∧ t.findPiece m = some { q with ready := s.pieceReady q }
            ∧ (∀ x, x ≠ m → t.findPiece x = s.findPiece x)
            ∧ t.stock = { s.stock with slots := t.stock.slots }
            ∧ t = { s with line := t.line, piece := t.piece, stock := t.stock
                           runway := t.runway, notice := t.notice })
      ∧ (∀ src y m p, o.task = .carry src (.bay y) → o.lifted = true → o.piece = some m →
          s.findPiece m = some p →
          ∃ t, exec (.reportComplete f) s = .next t
            ∧ t.crane c = k.ended none ∧ s.onlyCrane t c
            ∧ t.findPiece m = none ∧ (∀ x, x ≠ m → t.findPiece x = s.findPiece x)
            ∧ (t.cause .dispatched).flag = true
            ∧ ((s.cause .dispatched).masked = false → s.notice.queue.length < 32 →
                s.mgmt.noticeStation = none →
                t.notice.queue = s.notice.queue ++
                  [{ cause := .dispatched, cls := (s.cause .dispatched).cls, subject := .mark m
                     value := p.estimateOf, second := p.maturityOf
                     minute := s.sup.worksMinute }])
            ∧ t = { s with line := t.line, piece := t.piece, runway := t.runway
                           notice := t.notice })
      ∧ (∀ n0 dst, o.task = .carry (.slot n0) dst → o.binding = some .failed →
          ∃ t, exec (.reportComplete f) s = .next t
            ∧ t.crane c = { k with
                control := .halted, lastHalt := some .hookMismatch, reservation := none
                current := none }
            ∧ s.onlyCrane t c ∧ (t.cause .hookMismatch).flag = true ∧ s.haltSent t c 3
            ∧ ((s.cause .hookMismatch).masked = false → s.notice.queue.length < 32 →
                s.mgmt.noticeStation = none → s.line.portF.urgent.length < 4 →
                t.notice.queue = s.notice.queue ++
                  [{ cause := .hookMismatch, cls := (s.cause .hookMismatch).cls
                     subject := .crane c, value := 0, second := 0, minute := s.sup.worksMinute }])
            ∧ (∀ n, t.slot n = if dst = Place.slot n then
                  { s.slot n with claims := (s.slot n).claims - 1 } else s.slot n)
            ∧ t.stock = { s.stock with slots := t.stock.slots }
            ∧ t = { s with line := t.line, heat := t.heat, stock := t.stock, runway := t.runway
                           notice := t.notice }))
    ∧ (s.running = true → s.noneWaiting → s.craneOf f.src = some c → s.keepsClear c pos → ∀ tag,
        parseReport f.payload = some { kind := 4, position := pos, tag := tag, loaded := loaded } →
        (∀ x, (s.crane c).current = some x → x.tag ≠ tag) →
        exec (.reportComplete f) s = .next (raise .unknownComplete (.crane c) tag
          (modCrane c (fun _ => s.reported c pos) (takeHanded f s))))

/-- ABORTED ends the order without its destination: with the hook loaded a lifted piece stays on the hook;
with it unloaded a piece lifted from a bed or carried from the hook goes AT_LARGE, one picked from a
slot, or bound in census, returns to that slot where it has room once the order's own claim is released,
and goes AT_LARGE where it has none; one not lifted stays where it is, and an UNBOUND or FAILED census
order leaves the stacks as they were; the claim and the reservation are released; a TRAVEL takes the release
alone; a tag of no admitted or active order is counted stray (R105, R110, R115, R133). -/
def Obligations.AbortTaken : Prop :=
  ∀ (s : State) (f : Frame) (c : Fin 4) (o : CraneOrder) (pos : Nat) (loaded : Bool),
    (s.orderReport f 5 c o pos loaded →
      let k := s.reported c pos
      let left := fun n => if o.task.destSlot = some n then (s.slot n).claims - 1 else (s.slot n).claims
      let claims := fun t : State => ∀ n, (t.slot n).claims = left n
      let room := fun n : Fin 1024 => ∃ a, s.areaOf n.val = some a
        ∧ (s.slot n).stack.length + left n < (s.area a).heightLimit
      let atLarge := fun (m : Nat) => ∃ t, exec (.reportAborted f) s = .next t
        ∧ t.crane c = k.ended none ∧ s.onlyCrane t c ∧ claims t
        ∧ (∀ n, (t.slot n).stack = (s.slot n).stack)
        ∧ (∀ x, t.findPiece x = (s.findPiece x).map fun p => if x = m then
            { p with state := .atLarge, location := .none, ready := false } else p)
        ∧ (t.cause .pieceAtLarge).flag = true
        ∧ t = { s with line := t.line, piece := t.piece, stock := t.stock, runway := t.runway
                       notice := t.notice }
      let stays := ∃ t, exec (.reportAborted f) s = .next t
        ∧ t.crane c = k.ended k.hook ∧ s.onlyCrane t c ∧ claims t
        ∧ (∀ n, (t.slot n).stack = (s.slot n).stack)
        ∧ t.stock = { s.stock with slots := t.stock.slots }
        ∧ t.line = { s.line with handed := s.line.handed.erase f }
        ∧ t = { s with line := t.line, stock := t.stock, runway := t.runway }
      (∀ p, o.task = .travel p → exec (.reportAborted f) s =
        .next (modCrane c (fun _ => k.ended k.hook) (takeHanded f s)))
      ∧ (∀ src dst, o.task = .carry src dst → o.lifted = true ∨ src = .hook → loaded = true → stays)
      ∧ (∀ b dst, o.task = .carry (.bed b) dst → loaded = false →
          (∀ m, o.lifted = true → o.piece = some m → atLarge m) ∧ (o.lifted = false → stays))
      ∧ (∀ dst m, o.task = .carry .hook dst → loaded = false → o.piece = some m → atLarge m)
      ∧ (∀ n dst, o.task = .carry (.slot n) dst → loaded = false →
          (o.lifted = false → o.binding = none → stays)
          ∧ (o.binding = some .unbound ∨ o.binding = some .failed → stays)
          ∧ (∀ m p, o.lifted = true ∨ o.binding = some (.bound m) → o.piece = some m →
              s.findPiece m = some p →
              (¬room n → atLarge m)
              ∧ (room n →
                  let level := (s.slot n).stack.length + 1
                  let q := { p with state := .inStock, location := .slot n level }
                  ∃ t, exec (.reportAborted f) s = .next t
                    ∧ t.crane c = k.ended none ∧ s.onlyCrane t c ∧ claims t
                    ∧ (∀ j, (t.slot j).stack =
                        if j = n then (s.slot n).stack ++ [m] else (s.slot j).stack)
                    ∧ t.findPiece m = some { q with ready := s.pieceReady q }
                    ∧ (∀ x, x ≠ m → t.findPiece x = s.findPiece x)
                    ∧ t.stock = { s.stock with slots := t.stock.slots }
                    ∧ t = { s with line := t.line, piece := t.piece, stock := t.stock
                                   runway := t.runway, notice := t.notice }))))
    ∧ (s.running = true → s.noneWaiting → s.craneOf f.src = some c → s.keepsClear c pos → ∀ tag,
        parseReport f.payload = some { kind := 5, position := pos, tag := tag, loaded := loaded } →
        (∀ x, (s.crane c).current = some x → x.tag ≠ tag) →
        exec (.reportAborted f) s = .next (countStrayReport
          (modCrane c (fun _ => s.reported c pos) (takeHanded f s))))

/-- A HOOK_SCAN for an ACTIVE CARRY outside census sets the scanned indication where it fits the order's
mark and otherwise halts the crane with HOOK_MISMATCH; for a census order that is BOUND it compares
with the bound mark, and one that is UNBOUND or FAILED it binds to the scanned mark; a scan of mark 0,
from no hook reader of a crane in use, or for no ACTIVE CARRY, changes nothing; any other is seen for the
order, for the UNSCANNED of its COMPLETE (R115, R134). That a scan
which fits or binds a census order sets its scanned indication is log entry 17; for the HALT's sequence
see log entries 7 and 33. -/
def Obligations.HookScanJudged : Prop :=
  ∀ (s : State) (f : Frame) (m : Nat), s.running = true → s.noneWaiting → m < 4294967296 →
    f.payload = enc4 m →
    ((m = 0 ∨ s.craneOfReader f.src = none) → exec (.hookScan f) s = .next (takeHanded f s))
    ∧ (∀ c, 0 < m → s.craneOfReader f.src = some c →
        ((∀ o, (s.crane c).current = some o → o.state ≠ .active ∨ ∃ p, o.task = .travel p) →
          exec (.hookScan f) s = .next (takeHanded f s))
        ∧ (∀ o src dst, (s.crane c).current = some o → o.state = .active →
            o.task = .carry src dst →
            (((o.binding = none ∧ o.mark = some m) ∨ o.binding = some (.bound m)) →
              exec (.hookScan f) s = .next (modCrane c (fun k =>
                { k with current := some { o with scanned := true, scanSeen := true } })
                (takeHanded f s)))
            ∧ (((o.binding = none ∧ o.mark ≠ some m)
                  ∨ ∃ b, o.binding = some (.bound b) ∧ b ≠ m) →
                ∃ t, exec (.hookScan f) s = .next t
                  ∧ t.crane c = { s.crane c with
                      control := .halted, lastHalt := some .hookMismatch
                      current := some { o with scanSeen := true } }
                  ∧ s.onlyCrane t c ∧ (t.cause .hookMismatch).flag = true ∧ s.haltSent t c 3
                  ∧ t = { s with line := t.line, heat := t.heat, runway := t.runway
                                 notice := t.notice }))
        ∧ (∀ o n dst, (s.crane c).current = some o → o.state = .active →
            o.task = .carry (.slot n) dst →
            o.binding = some .unbound ∨ o.binding = some .failed →
            let scan := fun x : CraneOrder =>
              if x.binding = some (.bound m) then { x with scanned := true } else x
            let seen := modCrane c (fun k => { k with current := some { o with scanSeen := true } })
              (takeHanded f s)
            let v := modCrane c (fun k => { k with current := k.current.map scan })
              (bindMark c o n m seen)
            exec (.hookScan f) s =
              .next { v with runway := { v.runway with opportunities := 0 } }))

/-- The expiries of the runway unit: a REPORTING crane falls silent and is LOST with CRANE_LOST, its
position, order and reservation kept (R120); a waiting order, wherever it stands in the queue, is refused
WAIT_EXPIRED and removed, and a pass over the orders left follows (R128), which may admit or refuse one; an
ADMITTED order lapses with its claim and reservation released, an answer LAPSED and ORDER_LAPSED
(R129). An expiry that finds nothing to expire, or its timer still running, changes nothing (log entry
11). That the answer comes before the pass is the model's choice (log entry 5). -/
def Obligations.RunwayExpiries : Prop :=
  ∀ (s : State) (c : Fin 4), s.running = true →
    (s.noneWaiting → (s.crane c).presence = .reporting → (s.crane c).silence = 0 →
      ∃ t, exec (.silenceExpiry c) s = .next t
        ∧ t.crane c = { s.crane c with presence := .lost, silence := 0 } ∧ s.onlyCrane t c
        ∧ (t.cause .craneLost).flag = true
        ∧ t = { s with line := t.line, runway := t.runway, notice := t.notice })
    ∧ (s.runway.opportunities = 0 → (s.crane c).presence ≠ .reporting ∨ 0 < (s.crane c).silence →
        exec (.silenceExpiry c) s = .next s)
    ∧ (∀ older o younger, s.runway.waiting = older ++ o :: younger → s.runway.opportunities = 0 →
        o.crane = c → (∀ w ∈ older, w.crane ≠ c ∨ w.tag ≠ o.tag) →
        (0 < o.waitTimer → exec (.waitExpiry c o.tag) s = .next s)
        ∧ (o.waitTimer = 0 → s.replyRoom →
          let u := withPlantFrame (s.orderAnswer o.frame o.tag c.val (.refused .waitExpired))
            (setWaiting (older ++ younger) s)
          exec (.waitExpiry c o.tag) s =
              .next (settle { u with runway := { u.runway with opportunities := 1 } })
          ∧ ((∀ x ∈ older ++ younger, u.trial x = .wait) → exec (.waitExpiry c o.tag) s = .next u)
          ∧ (∀ x, older ++ younger = [x] → u.replyRoom →
              (∀ code, u.trial x = .refused code → exec (.waitExpiry c o.tag) s =
                .next (withPlantFrame (u.orderAnswer x.frame x.tag x.crane.val (.refused code))
                  (setWaiting [] u)))
              ∧ (∀ at_, u.trial x = .admitted → (u.crane x.crane).position = some at_ → u.ringRoom →
                  exec (.waitExpiry c o.tag) s = .next ((setWaiting [] u).afterAdmission x at_)))))
    ∧ (∀ tag, s.runway.opportunities = 0 → (∀ o ∈ s.runway.waiting, o.crane ≠ c ∨ o.tag ≠ tag) →
        exec (.waitExpiry c tag) s = .next s)
    ∧ (∀ o, s.noneWaiting → (s.crane c).current = some o → o.state = .admitted → o.startTimer = 0 →
        s.replyRoom →
        ∃ t, exec (.orderLapse c) s = .next t
          ∧ t.crane c = (s.crane c).ended (s.crane c).hook ∧ s.onlyCrane t c
          ∧ (∀ n, t.slot n = if o.task.destSlot = some n then
                { s.slot n with claims := (s.slot n).claims - 1 } else s.slot n)
          ∧ t.stock = { s.stock with slots := t.stock.slots }
          ∧ s.orderAnswer o.frame o.tag o.crane.val .lapsed ∈ t.line.portP.normal
          ∧ (t.cause .orderLapsed).flag = true
          ∧ t = { s with line := t.line, stock := t.stock, runway := t.runway
                         notice := t.notice })
    ∧ (s.runway.opportunities = 0 →
        (∀ o, (s.crane c).current = some o → o.state ≠ .admitted ∨ 0 < o.startTimer) →
        exec (.orderLapse c) s = .next s)

/-! ### Power and starts -/

/-- POWER_LOSS loses what is outside the record store, the queues, lanes, notices, condition flags, counts
and running timers, and keeps all that is in it; RESETN_ASSERT holds the part and cuts its
transmissions; BACKUP_FALL is latched while main power is off and not while it is on (R165). That the
loss is taken at once, with ATTN released, and that a POWER_LOSS of an unpowered part changes nothing
are the model's reading (log entry 26); that the record store stays as it was when the backup falls is its
choice (log entry 40). -/
def Obligations.SupplyAndReset : Prop :=
  ∀ s : State,
    (s.sup.powered = true → exec .powerLoss s = .next { s with
      line := s.line.started
      probe := { s.probe with malformed := 0 }
      heat := { s.heat with
        recs := tmap (fun h => { h with refresh := 0, wait := none }) s.heat.recs, strayAcks := 0 }
      bed := { s.bed with
        recs := tmap (fun r => { r with permit := 0 }) s.bed.recs, duplicates := 0 }
      stock := { s.stock with buried := 0 }
      runway := { s.runway with
        cranes := tmap (fun k => { k with
          silence := 0
          current := k.current.map fun o => { o with waitTimer := 0, startTimer := 0 } })
          s.runway.cranes
        waiting := s.runway.waiting.map fun o => { o with waitTimer := 0, startTimer := 0 }
        strayReports := 0, opportunities := 0 }
      notice := { causes := tmap (fun x => { x with flag := false }) s.notice.causes
                  queue := [], attn := false }
      sup := { s.sup with powered := false, minuteTimer := 0 } })
    ∧ (s.sup.powered = false → exec .powerLoss s = .next s)
    ∧ exec .resetnAssert s = .next
        { s with
          line := { s.line with portP := { s.line.portP with sending := none }
                                portF := { s.line.portF with sending := none } }
          sup := { s.sup with resetHeld := true } }
    ∧ exec .backupFall s = .next
        (if s.sup.powered = true then s else { s with sup := { s.sup with backupLost := true } })

/-- A start begins at power-up, at the release of RESETn, and at RESTART and CLEAR_ALL, which no reply
follows; its kind is chosen by the rows of R166, and it leaves the state that R164, R167 and R168 give
for a cold and a warm start and R150 and R166 for one into pass-through (log entry 35 for the counts and
the survey there). A start that main power or RESETn cuts off is abandoned with the BACKUP_LOST latch as
it stood, and a warm start taken again after a loss of power leaves the records that the uncut start
leaves (R167; log entry 14 for where a cut falls). That power rising while RESETn is held starts nothing
until the release, and that a rise or release of what is already so changes nothing, is log entry
26. -/
def Obligations.StartsTaken : Prop :=
  ∀ (s : State) (pins : StartPins),
    (s.sup.powered = false → s.sup.resetHeld = false →
      ∃ t, exec (.powerUp pins) s = .next t ∧ startAnswered pins s t)
    ∧ (s.sup.powered = false → s.sup.resetHeld = true →
        exec (.powerUp pins) s = .next { s with sup := { s.sup with powered := true } })
    ∧ (s.sup.powered = true → exec (.powerUp pins) s = .next s)
    ∧ (s.sup.powered = true → s.sup.resetHeld = true →
        ∃ t, exec (.resetnRelease pins) s = .next t ∧ startAnswered pins s t)
    ∧ (s.sup.powered = false → s.sup.resetHeld = true →
        exec (.resetnRelease pins) s = .next { s with sup := { s.sup with resetHeld := false } })
    ∧ (s.sup.resetHeld = false → exec (.resetnRelease pins) s = .next s)
    ∧ (∀ f : Frame, s.running = true → f.payload = [0x46#8] →
        ∃ t, exec (.restart f pins) s = .next t ∧ startAnswered pins (takeIntake f s) t)
    ∧ (∀ f : Frame, s.running = true → f.payload = [0x47#8] →
        ∃ t, exec (.clearAll f pins) s = .next t
          ∧ startAnswered pins { takeIntake f s with sup := { s.sup with backupLost := true } } t)
    ∧ (∀ k t u v, s.sup.powered = false → s.sup.resetHeld = false → s.sup.backupLost = false →
        1 ≤ pins.strap.toNat → pins.strap.toNat ≤ 250 →
        exec (.powerUp { strap := pins.strap }) s = .next t →
        exec (.powerUp { strap := pins.strap, cut := some { steps := k, stop := .powerLoss } }) s
          = .next u →
        exec (.powerUp { strap := pins.strap }) u = .next v →
        v = { t with notice := v.notice })

/-! ### Laws that every step keeps -/

/-- Every step keeps the bounds of the line unit's queues and lanes and of the notice queue, the ring mark
on every frame for port F and on none for port P (R143, R145, R147, R149, R159), and ATTN equal to what
the flags, masks and classes give, released in pass-through (R161). -/
def Obligations.LineLawsKept : Prop :=
  ∀ s t : State, step s = .next t →
    (s.lineBounded → t.lineBounded) ∧ (s.ringMarked → t.ringMarked)
      ∧ (s.attnFollows → t.attnFollows)

/-- Every step keeps the heat law of the part: the grants within the effective budget, no grant above its
request, no request outside CURING, and exactly the CURING beds DRIVEN (R76, R77). -/
def Obligations.HeatLawKept : Prop :=
  ∀ s t : State, step s = .next t → s.heatLaw → t.heatLaw

/-- Every step keeps every maturity account in its range, and every demand within its heat cap and 0
outside CURING (R37, R66, R71). -/
def Obligations.CureLawKept : Prop :=
  ∀ s t : State, step s = .next t → s.cureLaw → t.cureLaw

/-- Every step keeps the record numbers strictly rising below 2048 and no mark held twice (R87, R88). -/
def Obligations.DirectoryLawKept : Prop :=
  ∀ s t : State, step s = .next t → s.directoryLaw → t.directoryLaw

/-- Every step keeps each crane's order with its reservation, the reservations of different cranes apart,
and an order from a bed only while that bed is STRIPPING (R126). -/
def Obligations.RunwayLawKept : Prop :=
  ∀ s t : State, step s = .next t → s.runwayLaw → t.runwayLaw

/-- Every step from a state with the runway law keeps loads off CLOSED and NO_LOAD ground and off stressed
beds, but for the orders that carry LOAD_OVER (R135). -/
def Obligations.GroundLawKept : Prop :=
  ∀ s t : State, step s = .next t → s.runwayLaw → s.groundLaw → t.groundLaw

/-- Every step from a state with the runway law keeps the areas apart, every stack with its claims within
its height limit, and one claim for each live order that will place on the slot (R102 to R105). -/
def Obligations.YardLawKept : Prop :=
  ∀ s t : State, step s = .next t → s.runwayLaw → s.yardLaw → t.yardLaw

/-- Every step keeps the bounds of the waiting queue, the permit timer 0 outside RELEASING, and no
admission opportunity left untaken (R13, R127, R128; the count of opportunities is the model's, log
entry 5). -/
def Obligations.QueueLawsKept : Prop :=
  ∀ s t : State, step s = .next t →
    (s.queueLaw → t.queueLaw) ∧ (s.permitsIdle → t.permitsIdle) ∧ (s.settled → t.settled)

/-- The state after reset has every law of the part. -/
def Obligations.ResetHasLaws : Prop :=
  State.reset.lineBounded ∧ State.reset.ringMarked ∧ State.reset.attnFollows
    ∧ State.reset.heatLaw ∧ State.reset.cureLaw ∧ State.reset.directoryLaw
    ∧ State.reset.runwayLaw ∧ State.reset.groundLaw ∧ State.reset.yardLaw
    ∧ State.reset.queueLaw ∧ State.reset.permitsIdle ∧ State.reset.settled
end

