-- ==== Sys2Proof/Laws/State.lean ====
section
/-! SUPPORT. What each named update leaves as it was, field by field and through each named read, and what it
writes. Each lemma that says a field is kept is a conjunction that `simp` uses part by part. -/

namespace Sys2Proof.Machine

variable (s : State)

@[simp] theorem setBedEntry_fields (b : Fin 24) (e : BedEntry) :
    (setBedEntry b e s).line = s.line ∧ (setBedEntry b e s).probe = s.probe
      ∧ (setBedEntry b e s).curing = s.curing ∧ (setBedEntry b e s).heat = s.heat
      ∧ (setBedEntry b e s).piece = s.piece ∧ (setBedEntry b e s).stock = s.stock
      ∧ (setBedEntry b e s).runway = s.runway ∧ (setBedEntry b e s).mgmt = s.mgmt
      ∧ (setBedEntry b e s).notice = s.notice ∧ (setBedEntry b e s).sup = s.sup
      ∧ (setBedEntry b e s).freeCount = s.freeCount ∧ (setBedEntry b e s).pending = s.pending :=
  ⟨rfl, rfl, rfl, rfl, rfl, rfl, rfl, rfl, rfl, rfl, rfl, rfl⟩
@[simp] theorem setBedEntry_reads (b : Fin 24) (e : BedEntry) :
    (setBedEntry b e s).bedRec = s.bedRec ∧ (setBedEntry b e s).thermal = s.thermal
      ∧ (setBedEntry b e s).mix = s.mix ∧ (setBedEntry b e s).schedule = s.schedule
      ∧ (setBedEntry b e s).heatRec = s.heatRec ∧ (setBedEntry b e s).probeEntry = s.probeEntry
      ∧ (setBedEntry b e s).probeRec = s.probeRec ∧ (setBedEntry b e s).area = s.area
      ∧ (setBedEntry b e s).slot = s.slot ∧ (setBedEntry b e s).inService = s.inService
      ∧ (setBedEntry b e s).craneEntry = s.craneEntry ∧ (setBedEntry b e s).crane = s.crane
      ∧ (setBedEntry b e s).region = s.region ∧ (setBedEntry b e s).bay = s.bay
      ∧ (setBedEntry b e s).cause = s.cause ∧ (setBedEntry b e s).port = s.port
      ∧ (setBedEntry b e s).findPiece = s.findPiece := by
  refine ⟨?_, ?_, ?_, ?_, ?_, ?_, ?_, ?_, ?_, ?_, ?_, ?_, ?_, ?_, ?_, ?_, ?_⟩ <;> rfl

@[simp] theorem modBedRec_fields (b : Fin 24) (f : BedRec → BedRec) :
    (modBedRec b f s).line = s.line ∧ (modBedRec b f s).probe = s.probe
      ∧ (modBedRec b f s).curing = s.curing ∧ (modBedRec b f s).heat = s.heat
      ∧ (modBedRec b f s).piece = s.piece ∧ (modBedRec b f s).stock = s.stock
      ∧ (modBedRec b f s).runway = s.runway ∧ (modBedRec b f s).mgmt = s.mgmt
      ∧ (modBedRec b f s).notice = s.notice ∧ (modBedRec b f s).sup = s.sup
      ∧ (modBedRec b f s).freeCount = s.freeCount ∧ (modBedRec b f s).pending = s.pending :=
  ⟨rfl, rfl, rfl, rfl, rfl, rfl, rfl, rfl, rfl, rfl, rfl, rfl⟩
@[simp] theorem modBedRec_reads (b : Fin 24) (f : BedRec → BedRec) :
    (modBedRec b f s).bedEntry = s.bedEntry ∧ (modBedRec b f s).thermal = s.thermal
      ∧ (modBedRec b f s).mix = s.mix ∧ (modBedRec b f s).schedule = s.schedule
      ∧ (modBedRec b f s).heatRec = s.heatRec ∧ (modBedRec b f s).probeEntry = s.probeEntry
      ∧ (modBedRec b f s).probeRec = s.probeRec ∧ (modBedRec b f s).area = s.area
      ∧ (modBedRec b f s).slot = s.slot ∧ (modBedRec b f s).inService = s.inService
      ∧ (modBedRec b f s).craneEntry = s.craneEntry ∧ (modBedRec b f s).crane = s.crane
      ∧ (modBedRec b f s).region = s.region ∧ (modBedRec b f s).bay = s.bay
      ∧ (modBedRec b f s).cause = s.cause ∧ (modBedRec b f s).port = s.port
      ∧ (modBedRec b f s).findPiece = s.findPiece := by
  refine ⟨?_, ?_, ?_, ?_, ?_, ?_, ?_, ?_, ?_, ?_, ?_, ?_, ?_, ?_, ?_, ?_, ?_⟩ <;> rfl

@[simp] theorem modThermal_fields (b : Fin 24) (f : Thermal → Thermal) :
    (modThermal b f s).line = s.line ∧ (modThermal b f s).probe = s.probe
      ∧ (modThermal b f s).heat = s.heat ∧ (modThermal b f s).bed = s.bed
      ∧ (modThermal b f s).piece = s.piece ∧ (modThermal b f s).stock = s.stock
      ∧ (modThermal b f s).runway = s.runway ∧ (modThermal b f s).mgmt = s.mgmt
      ∧ (modThermal b f s).notice = s.notice ∧ (modThermal b f s).sup = s.sup
      ∧ (modThermal b f s).freeCount = s.freeCount ∧ (modThermal b f s).pending = s.pending :=
  ⟨rfl, rfl, rfl, rfl, rfl, rfl, rfl, rfl, rfl, rfl, rfl, rfl⟩
@[simp] theorem modThermal_reads (b : Fin 24) (f : Thermal → Thermal) :
    (modThermal b f s).bedEntry = s.bedEntry ∧ (modThermal b f s).bedRec = s.bedRec
      ∧ (modThermal b f s).mix = s.mix ∧ (modThermal b f s).schedule = s.schedule
      ∧ (modThermal b f s).heatRec = s.heatRec ∧ (modThermal b f s).probeEntry = s.probeEntry
      ∧ (modThermal b f s).probeRec = s.probeRec ∧ (modThermal b f s).area = s.area
      ∧ (modThermal b f s).slot = s.slot ∧ (modThermal b f s).inService = s.inService
      ∧ (modThermal b f s).craneEntry = s.craneEntry ∧ (modThermal b f s).crane = s.crane
      ∧ (modThermal b f s).region = s.region ∧ (modThermal b f s).bay = s.bay
      ∧ (modThermal b f s).cause = s.cause ∧ (modThermal b f s).port = s.port
      ∧ (modThermal b f s).findPiece = s.findPiece := by
  refine ⟨?_, ?_, ?_, ?_, ?_, ?_, ?_, ?_, ?_, ?_, ?_, ?_, ?_, ?_, ?_, ?_, ?_⟩ <;> rfl

@[simp] theorem modHeat_fields (b : Fin 24) (f : HeatRec → HeatRec) :
    (modHeat b f s).line = s.line ∧ (modHeat b f s).probe = s.probe
      ∧ (modHeat b f s).curing = s.curing ∧ (modHeat b f s).bed = s.bed
      ∧ (modHeat b f s).piece = s.piece ∧ (modHeat b f s).stock = s.stock
      ∧ (modHeat b f s).runway = s.runway ∧ (modHeat b f s).mgmt = s.mgmt
      ∧ (modHeat b f s).notice = s.notice ∧ (modHeat b f s).sup = s.sup
      ∧ (modHeat b f s).freeCount = s.freeCount ∧ (modHeat b f s).pending = s.pending :=
  ⟨rfl, rfl, rfl, rfl, rfl, rfl, rfl, rfl, rfl, rfl, rfl, rfl⟩
@[simp] theorem modHeat_reads (b : Fin 24) (f : HeatRec → HeatRec) :
    (modHeat b f s).bedEntry = s.bedEntry ∧ (modHeat b f s).bedRec = s.bedRec
      ∧ (modHeat b f s).thermal = s.thermal ∧ (modHeat b f s).mix = s.mix
      ∧ (modHeat b f s).schedule = s.schedule ∧ (modHeat b f s).probeEntry = s.probeEntry
      ∧ (modHeat b f s).probeRec = s.probeRec ∧ (modHeat b f s).area = s.area
      ∧ (modHeat b f s).slot = s.slot ∧ (modHeat b f s).inService = s.inService
      ∧ (modHeat b f s).craneEntry = s.craneEntry ∧ (modHeat b f s).crane = s.crane
      ∧ (modHeat b f s).region = s.region ∧ (modHeat b f s).bay = s.bay
      ∧ (modHeat b f s).cause = s.cause ∧ (modHeat b f s).port = s.port
      ∧ (modHeat b f s).findPiece = s.findPiece := by
  refine ⟨?_, ?_, ?_, ?_, ?_, ?_, ?_, ?_, ?_, ?_, ?_, ?_, ?_, ?_, ?_, ?_, ?_⟩ <;> rfl

@[simp] theorem setProbeEntry_fields (i : Fin 128) (e : ProbeEntry) :
    (setProbeEntry i e s).line = s.line ∧ (setProbeEntry i e s).curing = s.curing
      ∧ (setProbeEntry i e s).heat = s.heat ∧ (setProbeEntry i e s).bed = s.bed
      ∧ (setProbeEntry i e s).piece = s.piece ∧ (setProbeEntry i e s).stock = s.stock
      ∧ (setProbeEntry i e s).runway = s.runway ∧ (setProbeEntry i e s).mgmt = s.mgmt
      ∧ (setProbeEntry i e s).notice = s.notice ∧ (setProbeEntry i e s).sup = s.sup
      ∧ (setProbeEntry i e s).freeCount = s.freeCount ∧ (setProbeEntry i e s).pending = s.pending :=
  ⟨rfl, rfl, rfl, rfl, rfl, rfl, rfl, rfl, rfl, rfl, rfl, rfl⟩
@[simp] theorem setProbeEntry_reads (i : Fin 128) (e : ProbeEntry) :
    (setProbeEntry i e s).bedEntry = s.bedEntry ∧ (setProbeEntry i e s).bedRec = s.bedRec
      ∧ (setProbeEntry i e s).thermal = s.thermal ∧ (setProbeEntry i e s).mix = s.mix
      ∧ (setProbeEntry i e s).schedule = s.schedule ∧ (setProbeEntry i e s).heatRec = s.heatRec
      ∧ (setProbeEntry i e s).probeRec = s.probeRec ∧ (setProbeEntry i e s).area = s.area
      ∧ (setProbeEntry i e s).slot = s.slot ∧ (setProbeEntry i e s).inService = s.inService
      ∧ (setProbeEntry i e s).craneEntry = s.craneEntry ∧ (setProbeEntry i e s).crane = s.crane
      ∧ (setProbeEntry i e s).region = s.region ∧ (setProbeEntry i e s).bay = s.bay
      ∧ (setProbeEntry i e s).cause = s.cause ∧ (setProbeEntry i e s).port = s.port
      ∧ (setProbeEntry i e s).findPiece = s.findPiece := by
  refine ⟨?_, ?_, ?_, ?_, ?_, ?_, ?_, ?_, ?_, ?_, ?_, ?_, ?_, ?_, ?_, ?_, ?_⟩ <;> rfl

@[simp] theorem modProbe_fields (i : Fin 128) (f : ProbeRec → ProbeRec) :
    (modProbe i f s).line = s.line ∧ (modProbe i f s).curing = s.curing
      ∧ (modProbe i f s).heat = s.heat ∧ (modProbe i f s).bed = s.bed
      ∧ (modProbe i f s).piece = s.piece ∧ (modProbe i f s).stock = s.stock
      ∧ (modProbe i f s).runway = s.runway ∧ (modProbe i f s).mgmt = s.mgmt
      ∧ (modProbe i f s).notice = s.notice ∧ (modProbe i f s).sup = s.sup
      ∧ (modProbe i f s).freeCount = s.freeCount ∧ (modProbe i f s).pending = s.pending :=
  ⟨rfl, rfl, rfl, rfl, rfl, rfl, rfl, rfl, rfl, rfl, rfl, rfl⟩
@[simp] theorem modProbe_reads (i : Fin 128) (f : ProbeRec → ProbeRec) :
    (modProbe i f s).bedEntry = s.bedEntry ∧ (modProbe i f s).bedRec = s.bedRec
      ∧ (modProbe i f s).thermal = s.thermal ∧ (modProbe i f s).mix = s.mix
      ∧ (modProbe i f s).schedule = s.schedule ∧ (modProbe i f s).heatRec = s.heatRec
      ∧ (modProbe i f s).probeEntry = s.probeEntry ∧ (modProbe i f s).area = s.area
      ∧ (modProbe i f s).slot = s.slot ∧ (modProbe i f s).inService = s.inService
      ∧ (modProbe i f s).craneEntry = s.craneEntry ∧ (modProbe i f s).crane = s.crane
      ∧ (modProbe i f s).region = s.region ∧ (modProbe i f s).bay = s.bay
      ∧ (modProbe i f s).cause = s.cause ∧ (modProbe i f s).port = s.port
      ∧ (modProbe i f s).findPiece = s.findPiece := by
  refine ⟨?_, ?_, ?_, ?_, ?_, ?_, ?_, ?_, ?_, ?_, ?_, ?_, ?_, ?_, ?_, ?_, ?_⟩ <;> rfl

@[simp] theorem setMix_fields (i : Fin 16) (e : Mix) :
    (setMix i e s).line = s.line ∧ (setMix i e s).probe = s.probe
      ∧ (setMix i e s).heat = s.heat ∧ (setMix i e s).bed = s.bed
      ∧ (setMix i e s).piece = s.piece ∧ (setMix i e s).stock = s.stock
      ∧ (setMix i e s).runway = s.runway ∧ (setMix i e s).mgmt = s.mgmt
      ∧ (setMix i e s).notice = s.notice ∧ (setMix i e s).sup = s.sup
      ∧ (setMix i e s).freeCount = s.freeCount ∧ (setMix i e s).pending = s.pending :=
  ⟨rfl, rfl, rfl, rfl, rfl, rfl, rfl, rfl, rfl, rfl, rfl, rfl⟩
@[simp] theorem setMix_reads (i : Fin 16) (e : Mix) :
    (setMix i e s).bedEntry = s.bedEntry ∧ (setMix i e s).bedRec = s.bedRec
      ∧ (setMix i e s).thermal = s.thermal ∧ (setMix i e s).schedule = s.schedule
      ∧ (setMix i e s).heatRec = s.heatRec ∧ (setMix i e s).probeEntry = s.probeEntry
      ∧ (setMix i e s).probeRec = s.probeRec ∧ (setMix i e s).area = s.area
      ∧ (setMix i e s).slot = s.slot ∧ (setMix i e s).inService = s.inService
      ∧ (setMix i e s).craneEntry = s.craneEntry ∧ (setMix i e s).crane = s.crane
      ∧ (setMix i e s).region = s.region ∧ (setMix i e s).bay = s.bay
      ∧ (setMix i e s).cause = s.cause ∧ (setMix i e s).port = s.port
      ∧ (setMix i e s).findPiece = s.findPiece := by
  refine ⟨?_, ?_, ?_, ?_, ?_, ?_, ?_, ?_, ?_, ?_, ?_, ?_, ?_, ?_, ?_, ?_, ?_⟩ <;> rfl

@[simp] theorem setSchedule_fields (i : Fin 16) (e : Schedule) :
    (setSchedule i e s).line = s.line ∧ (setSchedule i e s).probe = s.probe
      ∧ (setSchedule i e s).heat = s.heat ∧ (setSchedule i e s).bed = s.bed
      ∧ (setSchedule i e s).piece = s.piece ∧ (setSchedule i e s).stock = s.stock
      ∧ (setSchedule i e s).runway = s.runway ∧ (setSchedule i e s).mgmt = s.mgmt
      ∧ (setSchedule i e s).notice = s.notice ∧ (setSchedule i e s).sup = s.sup
      ∧ (setSchedule i e s).freeCount = s.freeCount ∧ (setSchedule i e s).pending = s.pending :=
  ⟨rfl, rfl, rfl, rfl, rfl, rfl, rfl, rfl, rfl, rfl, rfl, rfl⟩
@[simp] theorem setSchedule_reads (i : Fin 16) (e : Schedule) :
    (setSchedule i e s).bedEntry = s.bedEntry ∧ (setSchedule i e s).bedRec = s.bedRec
      ∧ (setSchedule i e s).thermal = s.thermal ∧ (setSchedule i e s).mix = s.mix
      ∧ (setSchedule i e s).heatRec = s.heatRec ∧ (setSchedule i e s).probeEntry = s.probeEntry
      ∧ (setSchedule i e s).probeRec = s.probeRec ∧ (setSchedule i e s).area = s.area
      ∧ (setSchedule i e s).slot = s.slot ∧ (setSchedule i e s).inService = s.inService
      ∧ (setSchedule i e s).craneEntry = s.craneEntry ∧ (setSchedule i e s).crane = s.crane
      ∧ (setSchedule i e s).region = s.region ∧ (setSchedule i e s).bay = s.bay
      ∧ (setSchedule i e s).cause = s.cause ∧ (setSchedule i e s).port = s.port
      ∧ (setSchedule i e s).findPiece = s.findPiece := by
  refine ⟨?_, ?_, ?_, ?_, ?_, ?_, ?_, ?_, ?_, ?_, ?_, ?_, ?_, ?_, ?_, ?_, ?_⟩ <;> rfl

@[simp] theorem modArea_fields (a : Fin 16) (f : Area → Area) :
    (modArea a f s).line = s.line ∧ (modArea a f s).probe = s.probe
      ∧ (modArea a f s).curing = s.curing ∧ (modArea a f s).heat = s.heat
      ∧ (modArea a f s).bed = s.bed ∧ (modArea a f s).piece = s.piece
      ∧ (modArea a f s).runway = s.runway ∧ (modArea a f s).mgmt = s.mgmt
      ∧ (modArea a f s).notice = s.notice ∧ (modArea a f s).sup = s.sup
      ∧ (modArea a f s).freeCount = s.freeCount ∧ (modArea a f s).pending = s.pending :=
  ⟨rfl, rfl, rfl, rfl, rfl, rfl, rfl, rfl, rfl, rfl, rfl, rfl⟩
@[simp] theorem modArea_reads (a : Fin 16) (f : Area → Area) :
    (modArea a f s).bedEntry = s.bedEntry ∧ (modArea a f s).bedRec = s.bedRec
      ∧ (modArea a f s).thermal = s.thermal ∧ (modArea a f s).mix = s.mix
      ∧ (modArea a f s).schedule = s.schedule ∧ (modArea a f s).heatRec = s.heatRec
      ∧ (modArea a f s).probeEntry = s.probeEntry ∧ (modArea a f s).probeRec = s.probeRec
      ∧ (modArea a f s).slot = s.slot ∧ (modArea a f s).inService = s.inService
      ∧ (modArea a f s).craneEntry = s.craneEntry ∧ (modArea a f s).crane = s.crane
      ∧ (modArea a f s).region = s.region ∧ (modArea a f s).bay = s.bay
      ∧ (modArea a f s).cause = s.cause ∧ (modArea a f s).port = s.port
      ∧ (modArea a f s).findPiece = s.findPiece := by
  refine ⟨?_, ?_, ?_, ?_, ?_, ?_, ?_, ?_, ?_, ?_, ?_, ?_, ?_, ?_, ?_, ?_, ?_⟩ <;> rfl

@[simp] theorem modSlot_fields (n : Fin 1024) (f : Slot → Slot) :
    (modSlot n f s).line = s.line ∧ (modSlot n f s).probe = s.probe
      ∧ (modSlot n f s).curing = s.curing ∧ (modSlot n f s).heat = s.heat
      ∧ (modSlot n f s).bed = s.bed ∧ (modSlot n f s).piece = s.piece
      ∧ (modSlot n f s).runway = s.runway ∧ (modSlot n f s).mgmt = s.mgmt
      ∧ (modSlot n f s).notice = s.notice ∧ (modSlot n f s).sup = s.sup
      ∧ (modSlot n f s).freeCount = s.freeCount ∧ (modSlot n f s).pending = s.pending :=
  ⟨rfl, rfl, rfl, rfl, rfl, rfl, rfl, rfl, rfl, rfl, rfl, rfl⟩
@[simp] theorem modSlot_reads (n : Fin 1024) (f : Slot → Slot) :
    (modSlot n f s).bedEntry = s.bedEntry ∧ (modSlot n f s).bedRec = s.bedRec
      ∧ (modSlot n f s).thermal = s.thermal ∧ (modSlot n f s).mix = s.mix
      ∧ (modSlot n f s).schedule = s.schedule ∧ (modSlot n f s).heatRec = s.heatRec
      ∧ (modSlot n f s).probeEntry = s.probeEntry ∧ (modSlot n f s).probeRec = s.probeRec
      ∧ (modSlot n f s).area = s.area ∧ (modSlot n f s).inService = s.inService
      ∧ (modSlot n f s).craneEntry = s.craneEntry ∧ (modSlot n f s).crane = s.crane
      ∧ (modSlot n f s).region = s.region ∧ (modSlot n f s).bay = s.bay
      ∧ (modSlot n f s).cause = s.cause ∧ (modSlot n f s).port = s.port
      ∧ (modSlot n f s).findPiece = s.findPiece := by
  refine ⟨?_, ?_, ?_, ?_, ?_, ?_, ?_, ?_, ?_, ?_, ?_, ?_, ?_, ?_, ?_, ?_, ?_⟩ <;> rfl

@[simp] theorem setService_fields (g : Fin 128) (v : Bool) :
    (setService g v s).line = s.line ∧ (setService g v s).probe = s.probe
      ∧ (setService g v s).curing = s.curing ∧ (setService g v s).heat = s.heat
      ∧ (setService g v s).bed = s.bed ∧ (setService g v s).piece = s.piece
      ∧ (setService g v s).runway = s.runway ∧ (setService g v s).mgmt = s.mgmt
      ∧ (setService g v s).notice = s.notice ∧ (setService g v s).sup = s.sup
      ∧ (setService g v s).freeCount = s.freeCount ∧ (setService g v s).pending = s.pending :=
  ⟨rfl, rfl, rfl, rfl, rfl, rfl, rfl, rfl, rfl, rfl, rfl, rfl⟩
@[simp] theorem setService_reads (g : Fin 128) (v : Bool) :
    (setService g v s).bedEntry = s.bedEntry ∧ (setService g v s).bedRec = s.bedRec
      ∧ (setService g v s).thermal = s.thermal ∧ (setService g v s).mix = s.mix
      ∧ (setService g v s).schedule = s.schedule ∧ (setService g v s).heatRec = s.heatRec
      ∧ (setService g v s).probeEntry = s.probeEntry ∧ (setService g v s).probeRec = s.probeRec
      ∧ (setService g v s).area = s.area ∧ (setService g v s).slot = s.slot
      ∧ (setService g v s).craneEntry = s.craneEntry ∧ (setService g v s).crane = s.crane
      ∧ (setService g v s).region = s.region ∧ (setService g v s).bay = s.bay
      ∧ (setService g v s).cause = s.cause ∧ (setService g v s).port = s.port
      ∧ (setService g v s).findPiece = s.findPiece := by
  refine ⟨?_, ?_, ?_, ?_, ?_, ?_, ?_, ?_, ?_, ?_, ?_, ?_, ?_, ?_, ?_, ?_, ?_⟩ <;> rfl

@[simp] theorem setCraneEntry_fields (c : Fin 4) (e : CraneEntry) :
    (setCraneEntry c e s).line = s.line ∧ (setCraneEntry c e s).probe = s.probe
      ∧ (setCraneEntry c e s).curing = s.curing ∧ (setCraneEntry c e s).heat = s.heat
      ∧ (setCraneEntry c e s).bed = s.bed ∧ (setCraneEntry c e s).piece = s.piece
      ∧ (setCraneEntry c e s).stock = s.stock ∧ (setCraneEntry c e s).mgmt = s.mgmt
      ∧ (setCraneEntry c e s).notice = s.notice ∧ (setCraneEntry c e s).sup = s.sup
      ∧ (setCraneEntry c e s).freeCount = s.freeCount ∧ (setCraneEntry c e s).pending = s.pending :=
  ⟨rfl, rfl, rfl, rfl, rfl, rfl, rfl, rfl, rfl, rfl, rfl, rfl⟩
@[simp] theorem setCraneEntry_reads (c : Fin 4) (e : CraneEntry) :
    (setCraneEntry c e s).bedEntry = s.bedEntry ∧ (setCraneEntry c e s).bedRec = s.bedRec
      ∧ (setCraneEntry c e s).thermal = s.thermal ∧ (setCraneEntry c e s).mix = s.mix
      ∧ (setCraneEntry c e s).schedule = s.schedule ∧ (setCraneEntry c e s).heatRec = s.heatRec
      ∧ (setCraneEntry c e s).probeEntry = s.probeEntry ∧ (setCraneEntry c e s).probeRec = s.probeRec
      ∧ (setCraneEntry c e s).area = s.area ∧ (setCraneEntry c e s).slot = s.slot
      ∧ (setCraneEntry c e s).inService = s.inService ∧ (setCraneEntry c e s).crane = s.crane
      ∧ (setCraneEntry c e s).region = s.region ∧ (setCraneEntry c e s).bay = s.bay
      ∧ (setCraneEntry c e s).cause = s.cause ∧ (setCraneEntry c e s).port = s.port
      ∧ (setCraneEntry c e s).findPiece = s.findPiece := by
  refine ⟨?_, ?_, ?_, ?_, ?_, ?_, ?_, ?_, ?_, ?_, ?_, ?_, ?_, ?_, ?_, ?_, ?_⟩ <;> rfl

@[simp] theorem modCrane_fields (c : Fin 4) (f : Crane → Crane) :
    (modCrane c f s).line = s.line ∧ (modCrane c f s).probe = s.probe
      ∧ (modCrane c f s).curing = s.curing ∧ (modCrane c f s).heat = s.heat
      ∧ (modCrane c f s).bed = s.bed ∧ (modCrane c f s).piece = s.piece
      ∧ (modCrane c f s).stock = s.stock ∧ (modCrane c f s).mgmt = s.mgmt
      ∧ (modCrane c f s).notice = s.notice ∧ (modCrane c f s).sup = s.sup
      ∧ (modCrane c f s).freeCount = s.freeCount ∧ (modCrane c f s).pending = s.pending :=
  ⟨rfl, rfl, rfl, rfl, rfl, rfl, rfl, rfl, rfl, rfl, rfl, rfl⟩
@[simp] theorem modCrane_reads (c : Fin 4) (f : Crane → Crane) :
    (modCrane c f s).bedEntry = s.bedEntry ∧ (modCrane c f s).bedRec = s.bedRec
      ∧ (modCrane c f s).thermal = s.thermal ∧ (modCrane c f s).mix = s.mix
      ∧ (modCrane c f s).schedule = s.schedule ∧ (modCrane c f s).heatRec = s.heatRec
      ∧ (modCrane c f s).probeEntry = s.probeEntry ∧ (modCrane c f s).probeRec = s.probeRec
      ∧ (modCrane c f s).area = s.area ∧ (modCrane c f s).slot = s.slot
      ∧ (modCrane c f s).inService = s.inService ∧ (modCrane c f s).craneEntry = s.craneEntry
      ∧ (modCrane c f s).region = s.region ∧ (modCrane c f s).bay = s.bay
      ∧ (modCrane c f s).cause = s.cause ∧ (modCrane c f s).port = s.port
      ∧ (modCrane c f s).findPiece = s.findPiece := by
  refine ⟨?_, ?_, ?_, ?_, ?_, ?_, ?_, ?_, ?_, ?_, ?_, ?_, ?_, ?_, ?_, ?_, ?_⟩ <;> rfl

@[simp] theorem modCurrent_fields (c : Fin 4) (f : CraneOrder → CraneOrder) :
    (modCurrent c f s).line = s.line ∧ (modCurrent c f s).probe = s.probe
      ∧ (modCurrent c f s).curing = s.curing ∧ (modCurrent c f s).heat = s.heat
      ∧ (modCurrent c f s).bed = s.bed ∧ (modCurrent c f s).piece = s.piece
      ∧ (modCurrent c f s).stock = s.stock ∧ (modCurrent c f s).mgmt = s.mgmt
      ∧ (modCurrent c f s).notice = s.notice ∧ (modCurrent c f s).sup = s.sup
      ∧ (modCurrent c f s).freeCount = s.freeCount ∧ (modCurrent c f s).pending = s.pending :=
  ⟨rfl, rfl, rfl, rfl, rfl, rfl, rfl, rfl, rfl, rfl, rfl, rfl⟩
@[simp] theorem modCurrent_reads (c : Fin 4) (f : CraneOrder → CraneOrder) :
    (modCurrent c f s).bedEntry = s.bedEntry ∧ (modCurrent c f s).bedRec = s.bedRec
      ∧ (modCurrent c f s).thermal = s.thermal ∧ (modCurrent c f s).mix = s.mix
      ∧ (modCurrent c f s).schedule = s.schedule ∧ (modCurrent c f s).heatRec = s.heatRec
      ∧ (modCurrent c f s).probeEntry = s.probeEntry ∧ (modCurrent c f s).probeRec = s.probeRec
      ∧ (modCurrent c f s).area = s.area ∧ (modCurrent c f s).slot = s.slot
      ∧ (modCurrent c f s).inService = s.inService ∧ (modCurrent c f s).craneEntry = s.craneEntry
      ∧ (modCurrent c f s).region = s.region ∧ (modCurrent c f s).bay = s.bay
      ∧ (modCurrent c f s).cause = s.cause ∧ (modCurrent c f s).port = s.port
      ∧ (modCurrent c f s).findPiece = s.findPiece := by
  refine ⟨?_, ?_, ?_, ?_, ?_, ?_, ?_, ?_, ?_, ?_, ?_, ?_, ?_, ?_, ?_, ?_, ?_⟩ <;> rfl

@[simp] theorem setRegion_fields (r : Fin 8) (e : Region) :
    (setRegion r e s).line = s.line ∧ (setRegion r e s).probe = s.probe
      ∧ (setRegion r e s).curing = s.curing ∧ (setRegion r e s).heat = s.heat
      ∧ (setRegion r e s).bed = s.bed ∧ (setRegion r e s).piece = s.piece
      ∧ (setRegion r e s).stock = s.stock ∧ (setRegion r e s).mgmt = s.mgmt
      ∧ (setRegion r e s).notice = s.notice ∧ (setRegion r e s).sup = s.sup
      ∧ (setRegion r e s).freeCount = s.freeCount ∧ (setRegion r e s).pending = s.pending :=
  ⟨rfl, rfl, rfl, rfl, rfl, rfl, rfl, rfl, rfl, rfl, rfl, rfl⟩
@[simp] theorem setRegion_reads (r : Fin 8) (e : Region) :
    (setRegion r e s).bedEntry = s.bedEntry ∧ (setRegion r e s).bedRec = s.bedRec
      ∧ (setRegion r e s).thermal = s.thermal ∧ (setRegion r e s).mix = s.mix
      ∧ (setRegion r e s).schedule = s.schedule ∧ (setRegion r e s).heatRec = s.heatRec
      ∧ (setRegion r e s).probeEntry = s.probeEntry ∧ (setRegion r e s).probeRec = s.probeRec
      ∧ (setRegion r e s).area = s.area ∧ (setRegion r e s).slot = s.slot
      ∧ (setRegion r e s).inService = s.inService ∧ (setRegion r e s).craneEntry = s.craneEntry
      ∧ (setRegion r e s).crane = s.crane ∧ (setRegion r e s).bay = s.bay
      ∧ (setRegion r e s).cause = s.cause ∧ (setRegion r e s).port = s.port
      ∧ (setRegion r e s).findPiece = s.findPiece := by
  refine ⟨?_, ?_, ?_, ?_, ?_, ?_, ?_, ?_, ?_, ?_, ?_, ?_, ?_, ?_, ?_, ?_, ?_⟩ <;> rfl

@[simp] theorem setBay_fields (k : Fin 4) (e : Option Nat) :
    (setBay k e s).line = s.line ∧ (setBay k e s).probe = s.probe
      ∧ (setBay k e s).curing = s.curing ∧ (setBay k e s).heat = s.heat
      ∧ (setBay k e s).bed = s.bed ∧ (setBay k e s).piece = s.piece
      ∧ (setBay k e s).stock = s.stock ∧ (setBay k e s).mgmt = s.mgmt
      ∧ (setBay k e s).notice = s.notice ∧ (setBay k e s).sup = s.sup
      ∧ (setBay k e s).freeCount = s.freeCount ∧ (setBay k e s).pending = s.pending :=
  ⟨rfl, rfl, rfl, rfl, rfl, rfl, rfl, rfl, rfl, rfl, rfl, rfl⟩
@[simp] theorem setBay_reads (k : Fin 4) (e : Option Nat) :
    (setBay k e s).bedEntry = s.bedEntry ∧ (setBay k e s).bedRec = s.bedRec
      ∧ (setBay k e s).thermal = s.thermal ∧ (setBay k e s).mix = s.mix
      ∧ (setBay k e s).schedule = s.schedule ∧ (setBay k e s).heatRec = s.heatRec
      ∧ (setBay k e s).probeEntry = s.probeEntry ∧ (setBay k e s).probeRec = s.probeRec
      ∧ (setBay k e s).area = s.area ∧ (setBay k e s).slot = s.slot
      ∧ (setBay k e s).inService = s.inService ∧ (setBay k e s).craneEntry = s.craneEntry
      ∧ (setBay k e s).crane = s.crane ∧ (setBay k e s).region = s.region
      ∧ (setBay k e s).cause = s.cause ∧ (setBay k e s).port = s.port
      ∧ (setBay k e s).findPiece = s.findPiece := by
  refine ⟨?_, ?_, ?_, ?_, ?_, ?_, ?_, ?_, ?_, ?_, ?_, ?_, ?_, ?_, ?_, ?_, ?_⟩ <;> rfl

@[simp] theorem setWaiting_fields (l : List CraneOrder) :
    (setWaiting l s).line = s.line ∧ (setWaiting l s).probe = s.probe
      ∧ (setWaiting l s).curing = s.curing ∧ (setWaiting l s).heat = s.heat
      ∧ (setWaiting l s).bed = s.bed ∧ (setWaiting l s).piece = s.piece
      ∧ (setWaiting l s).stock = s.stock ∧ (setWaiting l s).mgmt = s.mgmt
      ∧ (setWaiting l s).notice = s.notice ∧ (setWaiting l s).sup = s.sup
      ∧ (setWaiting l s).freeCount = s.freeCount ∧ (setWaiting l s).pending = s.pending :=
  ⟨rfl, rfl, rfl, rfl, rfl, rfl, rfl, rfl, rfl, rfl, rfl, rfl⟩
@[simp] theorem setWaiting_reads (l : List CraneOrder) :
    (setWaiting l s).bedEntry = s.bedEntry ∧ (setWaiting l s).bedRec = s.bedRec
      ∧ (setWaiting l s).thermal = s.thermal ∧ (setWaiting l s).mix = s.mix
      ∧ (setWaiting l s).schedule = s.schedule ∧ (setWaiting l s).heatRec = s.heatRec
      ∧ (setWaiting l s).probeEntry = s.probeEntry ∧ (setWaiting l s).probeRec = s.probeRec
      ∧ (setWaiting l s).area = s.area ∧ (setWaiting l s).slot = s.slot
      ∧ (setWaiting l s).inService = s.inService ∧ (setWaiting l s).craneEntry = s.craneEntry
      ∧ (setWaiting l s).crane = s.crane ∧ (setWaiting l s).region = s.region
      ∧ (setWaiting l s).bay = s.bay ∧ (setWaiting l s).cause = s.cause
      ∧ (setWaiting l s).port = s.port ∧ (setWaiting l s).findPiece = s.findPiece := by
  refine ⟨?_, ?_, ?_, ?_, ?_, ?_, ?_, ?_, ?_, ?_, ?_, ?_, ?_, ?_, ?_, ?_, ?_, ?_⟩ <;> rfl

@[simp] theorem modCause_fields (c : Cause) (f : CauseState → CauseState) :
    (modCause c f s).line = s.line ∧ (modCause c f s).probe = s.probe
      ∧ (modCause c f s).curing = s.curing ∧ (modCause c f s).heat = s.heat
      ∧ (modCause c f s).bed = s.bed ∧ (modCause c f s).piece = s.piece
      ∧ (modCause c f s).stock = s.stock ∧ (modCause c f s).runway = s.runway
      ∧ (modCause c f s).mgmt = s.mgmt ∧ (modCause c f s).sup = s.sup
      ∧ (modCause c f s).freeCount = s.freeCount ∧ (modCause c f s).pending = s.pending :=
  ⟨rfl, rfl, rfl, rfl, rfl, rfl, rfl, rfl, rfl, rfl, rfl, rfl⟩
@[simp] theorem modCause_reads (c : Cause) (f : CauseState → CauseState) :
    (modCause c f s).bedEntry = s.bedEntry ∧ (modCause c f s).bedRec = s.bedRec
      ∧ (modCause c f s).thermal = s.thermal ∧ (modCause c f s).mix = s.mix
      ∧ (modCause c f s).schedule = s.schedule ∧ (modCause c f s).heatRec = s.heatRec
      ∧ (modCause c f s).probeEntry = s.probeEntry ∧ (modCause c f s).probeRec = s.probeRec
      ∧ (modCause c f s).area = s.area ∧ (modCause c f s).slot = s.slot
      ∧ (modCause c f s).inService = s.inService ∧ (modCause c f s).craneEntry = s.craneEntry
      ∧ (modCause c f s).crane = s.crane ∧ (modCause c f s).region = s.region
      ∧ (modCause c f s).bay = s.bay ∧ (modCause c f s).port = s.port
      ∧ (modCause c f s).findPiece = s.findPiece := by
  refine ⟨?_, ?_, ?_, ?_, ?_, ?_, ?_, ?_, ?_, ?_, ?_, ?_, ?_, ?_, ?_, ?_, ?_⟩ <;> rfl

@[simp] theorem setNoticeQueue_fields (l : List Notice) :
    (setNoticeQueue l s).line = s.line ∧ (setNoticeQueue l s).probe = s.probe
      ∧ (setNoticeQueue l s).curing = s.curing ∧ (setNoticeQueue l s).heat = s.heat
      ∧ (setNoticeQueue l s).bed = s.bed ∧ (setNoticeQueue l s).piece = s.piece
      ∧ (setNoticeQueue l s).stock = s.stock ∧ (setNoticeQueue l s).runway = s.runway
      ∧ (setNoticeQueue l s).mgmt = s.mgmt ∧ (setNoticeQueue l s).sup = s.sup
      ∧ (setNoticeQueue l s).freeCount = s.freeCount ∧ (setNoticeQueue l s).pending = s.pending :=
  ⟨rfl, rfl, rfl, rfl, rfl, rfl, rfl, rfl, rfl, rfl, rfl, rfl⟩
@[simp] theorem setNoticeQueue_reads (l : List Notice) :
    (setNoticeQueue l s).bedEntry = s.bedEntry ∧ (setNoticeQueue l s).bedRec = s.bedRec
      ∧ (setNoticeQueue l s).thermal = s.thermal ∧ (setNoticeQueue l s).mix = s.mix
      ∧ (setNoticeQueue l s).schedule = s.schedule ∧ (setNoticeQueue l s).heatRec = s.heatRec
      ∧ (setNoticeQueue l s).probeEntry = s.probeEntry ∧ (setNoticeQueue l s).probeRec = s.probeRec
      ∧ (setNoticeQueue l s).area = s.area ∧ (setNoticeQueue l s).slot = s.slot
      ∧ (setNoticeQueue l s).inService = s.inService ∧ (setNoticeQueue l s).craneEntry = s.craneEntry
      ∧ (setNoticeQueue l s).crane = s.crane ∧ (setNoticeQueue l s).region = s.region
      ∧ (setNoticeQueue l s).bay = s.bay ∧ (setNoticeQueue l s).cause = s.cause
      ∧ (setNoticeQueue l s).port = s.port ∧ (setNoticeQueue l s).findPiece = s.findPiece := by
  refine ⟨?_, ?_, ?_, ?_, ?_, ?_, ?_, ?_, ?_, ?_, ?_, ?_, ?_, ?_, ?_, ?_, ?_, ?_⟩ <;> rfl

@[simp] theorem setPieces_fields (l : List Piece) :
    (setPieces l s).line = s.line ∧ (setPieces l s).probe = s.probe
      ∧ (setPieces l s).curing = s.curing ∧ (setPieces l s).heat = s.heat
      ∧ (setPieces l s).bed = s.bed ∧ (setPieces l s).stock = s.stock
      ∧ (setPieces l s).runway = s.runway ∧ (setPieces l s).mgmt = s.mgmt
      ∧ (setPieces l s).notice = s.notice ∧ (setPieces l s).sup = s.sup
      ∧ (setPieces l s).freeCount = s.freeCount ∧ (setPieces l s).pending = s.pending :=
  ⟨rfl, rfl, rfl, rfl, rfl, rfl, rfl, rfl, rfl, rfl, rfl, rfl⟩
@[simp] theorem setPieces_reads (l : List Piece) :
    (setPieces l s).bedEntry = s.bedEntry ∧ (setPieces l s).bedRec = s.bedRec
      ∧ (setPieces l s).thermal = s.thermal ∧ (setPieces l s).mix = s.mix
      ∧ (setPieces l s).schedule = s.schedule ∧ (setPieces l s).heatRec = s.heatRec
      ∧ (setPieces l s).probeEntry = s.probeEntry ∧ (setPieces l s).probeRec = s.probeRec
      ∧ (setPieces l s).area = s.area ∧ (setPieces l s).slot = s.slot
      ∧ (setPieces l s).inService = s.inService ∧ (setPieces l s).craneEntry = s.craneEntry
      ∧ (setPieces l s).crane = s.crane ∧ (setPieces l s).region = s.region
      ∧ (setPieces l s).bay = s.bay ∧ (setPieces l s).cause = s.cause
      ∧ (setPieces l s).port = s.port := by
  refine ⟨?_, ?_, ?_, ?_, ?_, ?_, ?_, ?_, ?_, ?_, ?_, ?_, ?_, ?_, ?_, ?_, ?_⟩ <;> rfl

@[simp] theorem modPiece_fields (m : Nat) (f : Piece → Piece) :
    (modPiece m f s).line = s.line ∧ (modPiece m f s).probe = s.probe
      ∧ (modPiece m f s).curing = s.curing ∧ (modPiece m f s).heat = s.heat
      ∧ (modPiece m f s).bed = s.bed ∧ (modPiece m f s).stock = s.stock
      ∧ (modPiece m f s).runway = s.runway ∧ (modPiece m f s).mgmt = s.mgmt
      ∧ (modPiece m f s).notice = s.notice ∧ (modPiece m f s).sup = s.sup
      ∧ (modPiece m f s).freeCount = s.freeCount ∧ (modPiece m f s).pending = s.pending :=
  ⟨rfl, rfl, rfl, rfl, rfl, rfl, rfl, rfl, rfl, rfl, rfl, rfl⟩
@[simp] theorem modPiece_reads (m : Nat) (f : Piece → Piece) :
    (modPiece m f s).bedEntry = s.bedEntry ∧ (modPiece m f s).bedRec = s.bedRec
      ∧ (modPiece m f s).thermal = s.thermal ∧ (modPiece m f s).mix = s.mix
      ∧ (modPiece m f s).schedule = s.schedule ∧ (modPiece m f s).heatRec = s.heatRec
      ∧ (modPiece m f s).probeEntry = s.probeEntry ∧ (modPiece m f s).probeRec = s.probeRec
      ∧ (modPiece m f s).area = s.area ∧ (modPiece m f s).slot = s.slot
      ∧ (modPiece m f s).inService = s.inService ∧ (modPiece m f s).craneEntry = s.craneEntry
      ∧ (modPiece m f s).crane = s.crane ∧ (modPiece m f s).region = s.region
      ∧ (modPiece m f s).bay = s.bay ∧ (modPiece m f s).cause = s.cause
      ∧ (modPiece m f s).port = s.port := by
  refine ⟨?_, ?_, ?_, ?_, ?_, ?_, ?_, ?_, ?_, ?_, ?_, ?_, ?_, ?_, ?_, ?_, ?_⟩ <;> rfl

@[simp] theorem erasePiece_fields (m : Nat) :
    (erasePiece m s).line = s.line ∧ (erasePiece m s).probe = s.probe
      ∧ (erasePiece m s).curing = s.curing ∧ (erasePiece m s).heat = s.heat
      ∧ (erasePiece m s).bed = s.bed ∧ (erasePiece m s).stock = s.stock
      ∧ (erasePiece m s).runway = s.runway ∧ (erasePiece m s).mgmt = s.mgmt
      ∧ (erasePiece m s).notice = s.notice ∧ (erasePiece m s).sup = s.sup
      ∧ (erasePiece m s).freeCount = s.freeCount ∧ (erasePiece m s).pending = s.pending :=
  ⟨rfl, rfl, rfl, rfl, rfl, rfl, rfl, rfl, rfl, rfl, rfl, rfl⟩
@[simp] theorem erasePiece_reads (m : Nat) :
    (erasePiece m s).bedEntry = s.bedEntry ∧ (erasePiece m s).bedRec = s.bedRec
      ∧ (erasePiece m s).thermal = s.thermal ∧ (erasePiece m s).mix = s.mix
      ∧ (erasePiece m s).schedule = s.schedule ∧ (erasePiece m s).heatRec = s.heatRec
      ∧ (erasePiece m s).probeEntry = s.probeEntry ∧ (erasePiece m s).probeRec = s.probeRec
      ∧ (erasePiece m s).area = s.area ∧ (erasePiece m s).slot = s.slot
      ∧ (erasePiece m s).inService = s.inService ∧ (erasePiece m s).craneEntry = s.craneEntry
      ∧ (erasePiece m s).crane = s.crane ∧ (erasePiece m s).region = s.region
      ∧ (erasePiece m s).bay = s.bay ∧ (erasePiece m s).cause = s.cause
      ∧ (erasePiece m s).port = s.port := by
  refine ⟨?_, ?_, ?_, ?_, ?_, ?_, ?_, ?_, ?_, ?_, ?_, ?_, ?_, ?_, ?_, ?_, ?_⟩ <;> rfl

@[simp] theorem createPiece_fields (p : Piece) :
    (createPiece p s).line = s.line ∧ (createPiece p s).probe = s.probe
      ∧ (createPiece p s).curing = s.curing ∧ (createPiece p s).heat = s.heat
      ∧ (createPiece p s).bed = s.bed ∧ (createPiece p s).stock = s.stock
      ∧ (createPiece p s).runway = s.runway ∧ (createPiece p s).mgmt = s.mgmt
      ∧ (createPiece p s).notice = s.notice ∧ (createPiece p s).sup = s.sup
      ∧ (createPiece p s).freeCount = s.freeCount ∧ (createPiece p s).pending = s.pending :=
  ⟨rfl, rfl, rfl, rfl, rfl, rfl, rfl, rfl, rfl, rfl, rfl, rfl⟩
@[simp] theorem createPiece_reads (p : Piece) :
    (createPiece p s).bedEntry = s.bedEntry ∧ (createPiece p s).bedRec = s.bedRec
      ∧ (createPiece p s).thermal = s.thermal ∧ (createPiece p s).mix = s.mix
      ∧ (createPiece p s).schedule = s.schedule ∧ (createPiece p s).heatRec = s.heatRec
      ∧ (createPiece p s).probeEntry = s.probeEntry ∧ (createPiece p s).probeRec = s.probeRec
      ∧ (createPiece p s).area = s.area ∧ (createPiece p s).slot = s.slot
      ∧ (createPiece p s).inService = s.inService ∧ (createPiece p s).craneEntry = s.craneEntry
      ∧ (createPiece p s).crane = s.crane ∧ (createPiece p s).region = s.region
      ∧ (createPiece p s).bay = s.bay ∧ (createPiece p s).cause = s.cause
      ∧ (createPiece p s).port = s.port := by
  refine ⟨?_, ?_, ?_, ?_, ?_, ?_, ?_, ?_, ?_, ?_, ?_, ?_, ?_, ?_, ?_, ?_, ?_⟩ <;> rfl

@[simp] theorem noteOpportunity_fields :
    (noteOpportunity s).line = s.line ∧ (noteOpportunity s).probe = s.probe
      ∧ (noteOpportunity s).curing = s.curing ∧ (noteOpportunity s).heat = s.heat
      ∧ (noteOpportunity s).bed = s.bed ∧ (noteOpportunity s).piece = s.piece
      ∧ (noteOpportunity s).stock = s.stock ∧ (noteOpportunity s).mgmt = s.mgmt
      ∧ (noteOpportunity s).notice = s.notice ∧ (noteOpportunity s).sup = s.sup
      ∧ (noteOpportunity s).freeCount = s.freeCount ∧ (noteOpportunity s).pending = s.pending :=
  ⟨rfl, rfl, rfl, rfl, rfl, rfl, rfl, rfl, rfl, rfl, rfl, rfl⟩
@[simp] theorem noteOpportunity_reads :
    (noteOpportunity s).bedEntry = s.bedEntry ∧ (noteOpportunity s).bedRec = s.bedRec
      ∧ (noteOpportunity s).thermal = s.thermal ∧ (noteOpportunity s).mix = s.mix
      ∧ (noteOpportunity s).schedule = s.schedule ∧ (noteOpportunity s).heatRec = s.heatRec
      ∧ (noteOpportunity s).probeEntry = s.probeEntry ∧ (noteOpportunity s).probeRec = s.probeRec
      ∧ (noteOpportunity s).area = s.area ∧ (noteOpportunity s).slot = s.slot
      ∧ (noteOpportunity s).inService = s.inService ∧ (noteOpportunity s).craneEntry = s.craneEntry
      ∧ (noteOpportunity s).crane = s.crane ∧ (noteOpportunity s).region = s.region
      ∧ (noteOpportunity s).bay = s.bay ∧ (noteOpportunity s).cause = s.cause
      ∧ (noteOpportunity s).port = s.port ∧ (noteOpportunity s).findPiece = s.findPiece := by
  refine ⟨?_, ?_, ?_, ?_, ?_, ?_, ?_, ?_, ?_, ?_, ?_, ?_, ?_, ?_, ?_, ?_, ?_, ?_⟩ <;> rfl

@[simp] theorem takeHanded_fields (f : Frame) :
    (takeHanded f s).probe = s.probe ∧ (takeHanded f s).curing = s.curing
      ∧ (takeHanded f s).heat = s.heat ∧ (takeHanded f s).bed = s.bed
      ∧ (takeHanded f s).piece = s.piece ∧ (takeHanded f s).stock = s.stock
      ∧ (takeHanded f s).runway = s.runway ∧ (takeHanded f s).mgmt = s.mgmt
      ∧ (takeHanded f s).notice = s.notice ∧ (takeHanded f s).sup = s.sup
      ∧ (takeHanded f s).freeCount = s.freeCount ∧ (takeHanded f s).pending = s.pending :=
  ⟨rfl, rfl, rfl, rfl, rfl, rfl, rfl, rfl, rfl, rfl, rfl, rfl⟩
@[simp] theorem takeHanded_reads (f : Frame) :
    (takeHanded f s).bedEntry = s.bedEntry ∧ (takeHanded f s).bedRec = s.bedRec
      ∧ (takeHanded f s).thermal = s.thermal ∧ (takeHanded f s).mix = s.mix
      ∧ (takeHanded f s).schedule = s.schedule ∧ (takeHanded f s).heatRec = s.heatRec
      ∧ (takeHanded f s).probeEntry = s.probeEntry ∧ (takeHanded f s).probeRec = s.probeRec
      ∧ (takeHanded f s).area = s.area ∧ (takeHanded f s).slot = s.slot
      ∧ (takeHanded f s).inService = s.inService ∧ (takeHanded f s).craneEntry = s.craneEntry
      ∧ (takeHanded f s).crane = s.crane ∧ (takeHanded f s).region = s.region
      ∧ (takeHanded f s).bay = s.bay ∧ (takeHanded f s).cause = s.cause
      ∧ (takeHanded f s).port = s.port ∧ (takeHanded f s).findPiece = s.findPiece := by
  refine ⟨?_, ?_, ?_, ?_, ?_, ?_, ?_, ?_, ?_, ?_, ?_, ?_, ?_, ?_, ?_, ?_, ?_, ?_⟩ <;> rfl

@[simp] theorem takeFree_fields :
    (takeFree s).line = s.line ∧ (takeFree s).probe = s.probe
      ∧ (takeFree s).curing = s.curing ∧ (takeFree s).heat = s.heat
      ∧ (takeFree s).bed = s.bed ∧ (takeFree s).piece = s.piece
      ∧ (takeFree s).stock = s.stock ∧ (takeFree s).runway = s.runway
      ∧ (takeFree s).mgmt = s.mgmt ∧ (takeFree s).notice = s.notice
      ∧ (takeFree s).sup = s.sup ∧ (takeFree s).pending = s.pending :=
  ⟨rfl, rfl, rfl, rfl, rfl, rfl, rfl, rfl, rfl, rfl, rfl, rfl⟩
@[simp] theorem takeFree_reads :
    (takeFree s).bedEntry = s.bedEntry ∧ (takeFree s).bedRec = s.bedRec
      ∧ (takeFree s).thermal = s.thermal ∧ (takeFree s).mix = s.mix
      ∧ (takeFree s).schedule = s.schedule ∧ (takeFree s).heatRec = s.heatRec
      ∧ (takeFree s).probeEntry = s.probeEntry ∧ (takeFree s).probeRec = s.probeRec
      ∧ (takeFree s).area = s.area ∧ (takeFree s).slot = s.slot
      ∧ (takeFree s).inService = s.inService ∧ (takeFree s).craneEntry = s.craneEntry
      ∧ (takeFree s).crane = s.crane ∧ (takeFree s).region = s.region
      ∧ (takeFree s).bay = s.bay ∧ (takeFree s).cause = s.cause
      ∧ (takeFree s).port = s.port ∧ (takeFree s).findPiece = s.findPiece := by
  refine ⟨?_, ?_, ?_, ?_, ?_, ?_, ?_, ?_, ?_, ?_, ?_, ?_, ?_, ?_, ?_, ?_, ?_, ?_⟩ <;> rfl

@[simp] theorem advanceMinute_fields :
    (advanceMinute s).line = s.line ∧ (advanceMinute s).probe = s.probe
      ∧ (advanceMinute s).curing = s.curing ∧ (advanceMinute s).heat = s.heat
      ∧ (advanceMinute s).bed = s.bed ∧ (advanceMinute s).piece = s.piece
      ∧ (advanceMinute s).stock = s.stock ∧ (advanceMinute s).runway = s.runway
      ∧ (advanceMinute s).mgmt = s.mgmt ∧ (advanceMinute s).notice = s.notice
      ∧ (advanceMinute s).freeCount = s.freeCount ∧ (advanceMinute s).pending = s.pending :=
  ⟨rfl, rfl, rfl, rfl, rfl, rfl, rfl, rfl, rfl, rfl, rfl, rfl⟩
@[simp] theorem advanceMinute_reads :
    (advanceMinute s).bedEntry = s.bedEntry ∧ (advanceMinute s).bedRec = s.bedRec
      ∧ (advanceMinute s).thermal = s.thermal ∧ (advanceMinute s).mix = s.mix
      ∧ (advanceMinute s).schedule = s.schedule ∧ (advanceMinute s).heatRec = s.heatRec
      ∧ (advanceMinute s).probeEntry = s.probeEntry ∧ (advanceMinute s).probeRec = s.probeRec
      ∧ (advanceMinute s).area = s.area ∧ (advanceMinute s).slot = s.slot
      ∧ (advanceMinute s).inService = s.inService ∧ (advanceMinute s).craneEntry = s.craneEntry
      ∧ (advanceMinute s).crane = s.crane ∧ (advanceMinute s).region = s.region
      ∧ (advanceMinute s).bay = s.bay ∧ (advanceMinute s).cause = s.cause
      ∧ (advanceMinute s).port = s.port ∧ (advanceMinute s).findPiece = s.findPiece := by
  refine ⟨?_, ?_, ?_, ?_, ?_, ?_, ?_, ?_, ?_, ?_, ?_, ?_, ?_, ?_, ?_, ?_, ?_, ?_⟩ <;> rfl

/-! ### Reads of what was written -/

@[simp] theorem setBedEntry_bedEntry (b : Fin 24) (e : BedEntry) (j : Fin 24) :
    (setBedEntry b e s).bedEntry j = if j = b then e else s.bedEntry j :=
  tget_tset _ _ _ _

@[simp] theorem modBedRec_bedRec (b : Fin 24) (f : BedRec → BedRec) (j : Fin 24) :
    (modBedRec b f s).bedRec j = if j = b then f (s.bedRec b) else s.bedRec j :=
  tget_tset _ _ _ _

@[simp] theorem modThermal_thermal (b : Fin 24) (f : Thermal → Thermal) (j : Fin 24) :
    (modThermal b f s).thermal j = if j = b then f (s.thermal b) else s.thermal j :=
  tget_tset _ _ _ _

@[simp] theorem modHeat_heatRec (b : Fin 24) (f : HeatRec → HeatRec) (j : Fin 24) :
    (modHeat b f s).heatRec j = if j = b then f (s.heatRec b) else s.heatRec j :=
  tget_tset _ _ _ _

@[simp] theorem setProbeEntry_probeEntry (i : Fin 128) (e : ProbeEntry) (j : Fin 128) :
    (setProbeEntry i e s).probeEntry j = if j = i then e else s.probeEntry j :=
  tget_tset _ _ _ _

@[simp] theorem modProbe_probeRec (i : Fin 128) (f : ProbeRec → ProbeRec) (j : Fin 128) :
    (modProbe i f s).probeRec j = if j = i then f (s.probeRec i) else s.probeRec j :=
  tget_tset _ _ _ _

@[simp] theorem setMix_mix (i : Fin 16) (e : Mix) (j : Fin 16) :
    (setMix i e s).mix j = if j = i then e else s.mix j :=
  tget_tset _ _ _ _

@[simp] theorem setSchedule_schedule (i : Fin 16) (e : Schedule) (j : Fin 16) :
    (setSchedule i e s).schedule j = if j = i then e else s.schedule j :=
  tget_tset _ _ _ _

@[simp] theorem modArea_area (a : Fin 16) (f : Area → Area) (j : Fin 16) :
    (modArea a f s).area j = if j = a then f (s.area a) else s.area j :=
  tget_tset _ _ _ _

@[simp] theorem modSlot_slot (n : Fin 1024) (f : Slot → Slot) (j : Fin 1024) :
    (modSlot n f s).slot j = if j = n then f (s.slot n) else s.slot j :=
  tget_tset _ _ _ _

@[simp] theorem setService_inService (g : Fin 128) (v : Bool) (j : Fin 128) :
    (setService g v s).inService j = if j = g then v else s.inService j :=
  tget_tset _ _ _ _

@[simp] theorem setCraneEntry_craneEntry (c : Fin 4) (e : CraneEntry) (j : Fin 4) :
    (setCraneEntry c e s).craneEntry j = if j = c then e else s.craneEntry j :=
  tget_tset _ _ _ _

@[simp] theorem modCrane_crane (c : Fin 4) (f : Crane → Crane) (j : Fin 4) :
    (modCrane c f s).crane j = if j = c then f (s.crane c) else s.crane j :=
  tget_tset _ _ _ _

@[simp] theorem setRegion_region (r : Fin 8) (e : Region) (j : Fin 8) :
    (setRegion r e s).region j = if j = r then e else s.region j :=
  tget_tset _ _ _ _

@[simp] theorem setBay_bay (k : Fin 4) (e : Option Nat) (j : Fin 4) :
    (setBay k e s).bay j = if j = k then e else s.bay j :=
  tget_tset _ _ _ _

theorem Cause.place_injective {c d : Cause} (h : c.place = d.place) : c = d := by
  cases c <;> cases d <;> first | rfl | (exact absurd h (by decide))

@[simp] theorem modCause_cause (c : Cause) (f : CauseState → CauseState) (d : Cause) :
    (modCause c f s).cause d = if d = c then f (s.cause c) else s.cause d := by
  by_cases h : d = c
  · subst h; simp [State.cause, modCause]
  · have hp : d.place ≠ c.place := fun e => h (Cause.place_injective e)
    simp [State.cause, modCause, h, tget_tset_ne _ _ hp]

@[simp] theorem modCurrent_crane (c : Fin 4) (f : CraneOrder → CraneOrder) (j : Fin 4) :
    (modCurrent c f s).crane j =
      if j = c then { s.crane c with current := (s.crane c).current.map f } else s.crane j :=
  tget_tset _ _ _ _

@[simp] theorem setPieces_recs (l : List Piece) : (setPieces l s).piece.recs = l := rfl

@[simp] theorem setWaiting_waiting (l : List CraneOrder) : (setWaiting l s).runway.waiting = l := rfl

@[simp] theorem setNoticeQueue_queue (l : List Notice) : (setNoticeQueue l s).notice.queue = l := rfl

@[simp] theorem noteOpportunity_count :
    (noteOpportunity s).runway.opportunities = s.runway.opportunities + 1 := rfl

@[simp] theorem takeHanded_handed (f : Frame) :
    (takeHanded f s).line.handed = s.line.handed.erase f := rfl

/-- A record changed under its mark keeps the mark's place in the directory (R88). -/
theorem modPiece_findPiece (m : Nat) (f : Piece → Piece) (hf : ∀ p, (f p).mark = p.mark) (k : Nat) :
    (modPiece m f s).findPiece k = if k = m then (s.findPiece k).map f else s.findPiece k := by
  simp only [State.findPiece, modPiece, setPieces_recs]
  induction s.piece.recs with
  | nil => simp
  | cons p rest ih =>
    by_cases hm : p.mark = m
    · by_cases hk : m = k
      · simp_all
      · simp_all [Ne.symm hk]
    · by_cases hk : p.mark = k <;> simp_all

/-- A mark that has been removed names no record; every other mark names what it named (R93). -/
theorem erasePiece_findPiece (m k : Nat) :
    (erasePiece m s).findPiece k = if k = m then none else s.findPiece k := by
  simp only [State.findPiece, erasePiece, setPieces_recs]
  induction s.piece.recs with
  | nil => simp
  | cons p rest ih =>
    by_cases hm : p.mark = m <;> by_cases hk : p.mark = k <;> simp_all

/-! ### Ports -/

@[simp] theorem modPort_fields (q : Port) (f : PortUnit → PortUnit) :
    (modPort q f s).probe = s.probe ∧ (modPort q f s).curing = s.curing
      ∧ (modPort q f s).heat = s.heat ∧ (modPort q f s).bed = s.bed
      ∧ (modPort q f s).piece = s.piece ∧ (modPort q f s).stock = s.stock
      ∧ (modPort q f s).runway = s.runway ∧ (modPort q f s).mgmt = s.mgmt
      ∧ (modPort q f s).notice = s.notice ∧ (modPort q f s).sup = s.sup
      ∧ (modPort q f s).freeCount = s.freeCount ∧ (modPort q f s).pending = s.pending := by
  cases q <;> exact ⟨rfl, rfl, rfl, rfl, rfl, rfl, rfl, rfl, rfl, rfl, rfl, rfl⟩

@[simp] theorem modPort_line (q : Port) (f : PortUnit → PortUnit) :
    (modPort q f s).line.intake = s.line.intake ∧ (modPort q f s).line.handed = s.line.handed
      ∧ (modPort q f s).line.undelivered = s.line.undelivered
      ∧ (modPort q f s).line.stray = s.line.stray ∧ (modPort q f s).line.seq = s.line.seq := by
  cases q <;> exact ⟨rfl, rfl, rfl, rfl, rfl⟩

@[simp] theorem modPort_port (q r : Port) (f : PortUnit → PortUnit) :
    (modPort q f s).port r = if r = q then f (s.port q) else s.port r := by
  cases q <;> cases r <;> rfl

/-- A request is taken from the head of the intake queue, and from nowhere else (R152). -/
@[simp] theorem takeIntake_fields (f : Frame) :
    (takeIntake f s).probe = s.probe ∧ (takeIntake f s).curing = s.curing
      ∧ (takeIntake f s).heat = s.heat ∧ (takeIntake f s).bed = s.bed
      ∧ (takeIntake f s).piece = s.piece ∧ (takeIntake f s).stock = s.stock
      ∧ (takeIntake f s).runway = s.runway ∧ (takeIntake f s).mgmt = s.mgmt
      ∧ (takeIntake f s).notice = s.notice ∧ (takeIntake f s).sup = s.sup
      ∧ (takeIntake f s).freeCount = s.freeCount ∧ (takeIntake f s).pending = s.pending
      ∧ (takeIntake f s).line.portP = s.line.portP ∧ (takeIntake f s).line.portF = s.line.portF
      ∧ (takeIntake f s).line.intake =
          if s.line.intake.head? = some f then s.line.intake.tail else s.line.intake := by
  unfold takeIntake; split <;> simp

/-! ### When commands act -/

/-- A command of a block acts while the part runs. -/
theorem whenRunning_running (body : State → State) (h : s.running = true) :
    whenRunning body s = .next (body s) := by simp [whenRunning, h]

/-- A command of a block changes nothing while the part does not run (R150, R165). -/
theorem whenRunning_stopped (body : State → State) (h : s.running = false) :
    whenRunning body s = .next s := by simp [whenRunning, h]

/-- What every step of a fold over a table leaves, the fold leaves. -/
theorem forEach_keeps {α : Type} {n : Nat} (read : State → α) (act : Fin n → State → State)
    (h : ∀ i t, read (act i t) = read t) : read (forEach act s) = read s := by
  unfold forEach
  generalize indexes n = l
  induction l generalizing s with
  | nil => rfl
  | cons i rest ih => rw [List.foldl_cons, ih, h]

/-- A property that every step of a fold over a table keeps, the fold keeps. -/
theorem forEach_induction {n : Nat} (P : State → Prop) (act : Fin n → State → State)
    (h : ∀ i t, P t → P (act i t)) (hs : P s) : P (forEach act s) := by
  unfold forEach
  generalize indexes n = l
  induction l generalizing s with
  | nil => exact hs
  | cons i rest ih => exact ih _ (h i s hs)

/-- What every step of a fold over a list leaves, the fold leaves. -/
theorem foldl_keeps {α β : Type} (read : State → α) (act : State → β → State)
    (h : ∀ t x, read (act t x) = read t) (l : List β) : read (l.foldl act s) = read s := by
  induction l generalizing s with
  | nil => rfl
  | cons x rest ih => rw [List.foldl_cons, ih, h]

end Sys2Proof.Machine
end

