-- ==== Sys2Proof/Laws/Frames.lean ====
section
/-! SUPPORT. The frames of the shared operations: for each, the blocks it leaves as they were, one conjunction
that `simp` uses part by part; and what the smaller ones do. -/

namespace Sys2Proof.Machine

variable (s : State)

/-! ### The notice unit and the lanes -/

@[simp] theorem updateAttn_keeps :
    (updateAttn s).line = s.line ∧ (updateAttn s).probe = s.probe
      ∧ (updateAttn s).curing = s.curing ∧ (updateAttn s).heat = s.heat
      ∧ (updateAttn s).bed = s.bed ∧ (updateAttn s).piece = s.piece
      ∧ (updateAttn s).stock = s.stock ∧ (updateAttn s).runway = s.runway
      ∧ (updateAttn s).mgmt = s.mgmt ∧ (updateAttn s).sup = s.sup
      ∧ (updateAttn s).freeCount = s.freeCount ∧ (updateAttn s).pending = s.pending := by
  simp [updateAttn]

/-- A raised cause is recorded in the notice unit alone (R156). -/
@[simp] theorem recordCause_keeps (c : Cause) (u : Subject) (v : Int) (n : Nat) :
    (recordCause c u v n s).line = s.line ∧ (recordCause c u v n s).probe = s.probe
      ∧ (recordCause c u v n s).curing = s.curing ∧ (recordCause c u v n s).heat = s.heat
      ∧ (recordCause c u v n s).bed = s.bed ∧ (recordCause c u v n s).piece = s.piece
      ∧ (recordCause c u v n s).stock = s.stock ∧ (recordCause c u v n s).runway = s.runway
      ∧ (recordCause c u v n s).mgmt = s.mgmt ∧ (recordCause c u v n s).sup = s.sup
      ∧ (recordCause c u v n s).freeCount = s.freeCount
      ∧ (recordCause c u v n s).pending = s.pending := by
  unfold recordCause; dsimp only; (repeat' split) <;> simp

@[simp] theorem nextLineSeq_keeps :
    (nextLineSeq s).probe = s.probe ∧ (nextLineSeq s).curing = s.curing
      ∧ (nextLineSeq s).heat = s.heat ∧ (nextLineSeq s).bed = s.bed
      ∧ (nextLineSeq s).piece = s.piece ∧ (nextLineSeq s).stock = s.stock
      ∧ (nextLineSeq s).runway = s.runway ∧ (nextLineSeq s).mgmt = s.mgmt
      ∧ (nextLineSeq s).notice = s.notice ∧ (nextLineSeq s).sup = s.sup
      ∧ (nextLineSeq s).freeCount = s.freeCount ∧ (nextLineSeq s).pending = s.pending := by
  simp [nextLineSeq]

/-- A notice offered changes the lane and the notice queue alone (R159). -/
@[simp] theorem offerNotice_keeps :
    (offerNotice s).probe = s.probe ∧ (offerNotice s).curing = s.curing
      ∧ (offerNotice s).heat = s.heat ∧ (offerNotice s).bed = s.bed
      ∧ (offerNotice s).piece = s.piece ∧ (offerNotice s).stock = s.stock
      ∧ (offerNotice s).runway = s.runway ∧ (offerNotice s).mgmt = s.mgmt
      ∧ (offerNotice s).sup = s.sup ∧ (offerNotice s).freeCount = s.freeCount
      ∧ (offerNotice s).pending = s.pending := by
  unfold offerNotice; (repeat' split) <;> simp

/-- A raised cause changes the notice unit and the port P lane alone. -/
@[simp] theorem raise2_keeps (c : Cause) (u : Subject) (v : Int) (n : Nat) :
    (raise2 c u v n s).probe = s.probe ∧ (raise2 c u v n s).curing = s.curing
      ∧ (raise2 c u v n s).heat = s.heat ∧ (raise2 c u v n s).bed = s.bed
      ∧ (raise2 c u v n s).piece = s.piece ∧ (raise2 c u v n s).stock = s.stock
      ∧ (raise2 c u v n s).runway = s.runway ∧ (raise2 c u v n s).mgmt = s.mgmt
      ∧ (raise2 c u v n s).sup = s.sup ∧ (raise2 c u v n s).freeCount = s.freeCount
      ∧ (raise2 c u v n s).pending = s.pending := by
  simp [raise2]

@[simp] theorem raise_keeps (c : Cause) (u : Subject) (v : Int) :
    (raise c u v s).probe = s.probe ∧ (raise c u v s).curing = s.curing
      ∧ (raise c u v s).heat = s.heat ∧ (raise c u v s).bed = s.bed
      ∧ (raise c u v s).piece = s.piece ∧ (raise c u v s).stock = s.stock
      ∧ (raise c u v s).runway = s.runway ∧ (raise c u v s).mgmt = s.mgmt
      ∧ (raise c u v s).sup = s.sup ∧ (raise c u v s).freeCount = s.freeCount
      ∧ (raise c u v s).pending = s.pending := by
  simp [raise]

/-- A frame offered to a lane changes the line unit and the notice unit alone (R147). -/
@[simp] theorem offerNormal_keeps (q : Port) (f : Frame) :
    (offerNormal q f s).probe = s.probe ∧ (offerNormal q f s).curing = s.curing
      ∧ (offerNormal q f s).heat = s.heat ∧ (offerNormal q f s).bed = s.bed
      ∧ (offerNormal q f s).piece = s.piece ∧ (offerNormal q f s).stock = s.stock
      ∧ (offerNormal q f s).runway = s.runway ∧ (offerNormal q f s).mgmt = s.mgmt
      ∧ (offerNormal q f s).sup = s.sup ∧ (offerNormal q f s).freeCount = s.freeCount
      ∧ (offerNormal q f s).pending = s.pending := by
  unfold offerNormal; split <;> simp

@[simp] theorem putForward_keeps (q : Port) (f : Frame) :
    (putForward q f s).probe = s.probe ∧ (putForward q f s).curing = s.curing
      ∧ (putForward q f s).heat = s.heat ∧ (putForward q f s).bed = s.bed
      ∧ (putForward q f s).piece = s.piece ∧ (putForward q f s).stock = s.stock
      ∧ (putForward q f s).runway = s.runway ∧ (putForward q f s).mgmt = s.mgmt
      ∧ (putForward q f s).sup = s.sup ∧ (putForward q f s).freeCount = s.freeCount
      ∧ (putForward q f s).pending = s.pending := by
  unfold putForward; split <;> simp

@[simp] theorem reply_keeps (f : Frame) (c : Byte) (st : Status) (l : Bytes) :
    (reply f c st l s).probe = s.probe ∧ (reply f c st l s).curing = s.curing
      ∧ (reply f c st l s).heat = s.heat ∧ (reply f c st l s).bed = s.bed
      ∧ (reply f c st l s).piece = s.piece ∧ (reply f c st l s).stock = s.stock
      ∧ (reply f c st l s).runway = s.runway ∧ (reply f c st l s).mgmt = s.mgmt
      ∧ (reply f c st l s).sup = s.sup ∧ (reply f c st l s).freeCount = s.freeCount
      ∧ (reply f c st l s).pending = s.pending := by
  simp [reply]

/-- A frame offered to a normal lane with room enters at its young end (R147). -/
theorem offerNormal_room (q : Port) (f : Frame) (h : s.laneRoom q = true) :
    offerNormal q f s = modPort q (fun u => { u with normal := u.normal ++ [f] }) s := by
  simp [offerNormal, h]

/-- A frame offered to a full normal lane is dropped with INSERT_OVERFLOW (R147). -/
theorem offerNormal_full (q : Port) (f : Frame) (h : s.laneRoom q = false) :
    offerNormal q f s = raise .insertOverflow (.port q) f.kind.toNat s := by
  simp [offerNormal, h]

/-- The queue without the youngest record of a class is no longer than it was (R160). -/
theorem dropYoungest_length (c : Fin 4) (l : List Notice) : (dropYoungest c l).length ≤ l.length := by
  simpa [dropYoungest] using List.length_eraseP_le (l := l.reverse) (p := fun n : Notice => n.cls = c)

/-- What is held of one cause changes for no other cause. -/
theorem modCause_flag (c d : Cause) (h : d ≠ c) (f : CauseState → CauseState) :
    (modCause c f s).cause d = s.cause d := by simp [h]

/-! ### Probes, maturity and curing -/

@[simp] theorem acceptReading_keeps (i : Fin 128) (v : Int) :
    (acceptReading i v s).line = s.line ∧ (acceptReading i v s).curing = s.curing
      ∧ (acceptReading i v s).heat = s.heat ∧ (acceptReading i v s).bed = s.bed
      ∧ (acceptReading i v s).piece = s.piece ∧ (acceptReading i v s).stock = s.stock
      ∧ (acceptReading i v s).runway = s.runway ∧ (acceptReading i v s).mgmt = s.mgmt
      ∧ (acceptReading i v s).notice = s.notice ∧ (acceptReading i v s).sup = s.sup
      ∧ (acceptReading i v s).freeCount = s.freeCount
      ∧ (acceptReading i v s).pending = s.pending := by
  simp [acceptReading]

/-- A reading screened changes the probe record, or raises PROBE_FAULT (R25). -/
@[simp] theorem screenReading_keeps (i : Fin 128) (v : Int) :
    (screenReading i v s).curing = s.curing ∧ (screenReading i v s).heat = s.heat
      ∧ (screenReading i v s).bed = s.bed ∧ (screenReading i v s).piece = s.piece
      ∧ (screenReading i v s).stock = s.stock ∧ (screenReading i v s).runway = s.runway
      ∧ (screenReading i v s).mgmt = s.mgmt ∧ (screenReading i v s).sup = s.sup
      ∧ (screenReading i v s).freeCount = s.freeCount
      ∧ (screenReading i v s).pending = s.pending := by
  unfold screenReading; dsimp only; (repeat' split) <;> simp

@[simp] theorem takeReading_keeps (t : Station) (x : Nat × Int) :
    (takeReading t x s).curing = s.curing ∧ (takeReading t x s).heat = s.heat
      ∧ (takeReading t x s).bed = s.bed ∧ (takeReading t x s).piece = s.piece
      ∧ (takeReading t x s).stock = s.stock ∧ (takeReading t x s).runway = s.runway
      ∧ (takeReading t x s).mgmt = s.mgmt ∧ (takeReading t x s).sup = s.sup
      ∧ (takeReading t x s).freeCount = s.freeCount ∧ (takeReading t x s).pending = s.pending := by
  unfold takeReading; split <;> simp

@[simp] theorem raiseIfBlinded_keeps (u : State) (b : Fin 24) :
    (raiseIfBlinded u b s).probe = s.probe ∧ (raiseIfBlinded u b s).curing = s.curing
      ∧ (raiseIfBlinded u b s).heat = s.heat ∧ (raiseIfBlinded u b s).bed = s.bed
      ∧ (raiseIfBlinded u b s).piece = s.piece ∧ (raiseIfBlinded u b s).stock = s.stock
      ∧ (raiseIfBlinded u b s).runway = s.runway ∧ (raiseIfBlinded u b s).mgmt = s.mgmt
      ∧ (raiseIfBlinded u b s).sup = s.sup ∧ (raiseIfBlinded u b s).freeCount = s.freeCount
      ∧ (raiseIfBlinded u b s).pending = s.pending := by
  unfold raiseIfBlinded; split <;> simp

@[simp] theorem staleProbe_keeps (i : Fin 128) :
    (staleProbe i s).curing = s.curing ∧ (staleProbe i s).heat = s.heat
      ∧ (staleProbe i s).bed = s.bed ∧ (staleProbe i s).piece = s.piece
      ∧ (staleProbe i s).stock = s.stock ∧ (staleProbe i s).runway = s.runway
      ∧ (staleProbe i s).mgmt = s.mgmt ∧ (staleProbe i s).sup = s.sup
      ∧ (staleProbe i s).freeCount = s.freeCount ∧ (staleProbe i s).pending = s.pending := by
  unfold staleProbe; dsimp only; (repeat' split) <;> simp

@[simp] theorem staleSurvey_keeps :
    (staleSurvey s).curing = s.curing ∧ (staleSurvey s).heat = s.heat
      ∧ (staleSurvey s).bed = s.bed ∧ (staleSurvey s).piece = s.piece
      ∧ (staleSurvey s).stock = s.stock ∧ (staleSurvey s).runway = s.runway
      ∧ (staleSurvey s).mgmt = s.mgmt ∧ (staleSurvey s).sup = s.sup
      ∧ (staleSurvey s).freeCount = s.freeCount ∧ (staleSurvey s).pending = s.pending := by
  unfold staleSurvey; dsimp only; (repeat' split) <;> simp [setSurvey]

/-- A margin recomputed changes the thermal part alone (R46). -/
@[simp] theorem refreshMargin_keeps (b : Fin 24) :
    (refreshMargin b s).line = s.line ∧ (refreshMargin b s).probe = s.probe
      ∧ (refreshMargin b s).heat = s.heat ∧ (refreshMargin b s).bed = s.bed
      ∧ (refreshMargin b s).piece = s.piece ∧ (refreshMargin b s).stock = s.stock
      ∧ (refreshMargin b s).runway = s.runway ∧ (refreshMargin b s).mgmt = s.mgmt
      ∧ (refreshMargin b s).notice = s.notice ∧ (refreshMargin b s).sup = s.sup
      ∧ (refreshMargin b s).freeCount = s.freeCount ∧ (refreshMargin b s).pending = s.pending := by
  simp [refreshMargin]

@[simp] theorem accrueBed_keeps (b : Fin 24) :
    (accrueBed b s).line = s.line ∧ (accrueBed b s).probe = s.probe
      ∧ (accrueBed b s).heat = s.heat ∧ (accrueBed b s).bed = s.bed
      ∧ (accrueBed b s).piece = s.piece ∧ (accrueBed b s).stock = s.stock
      ∧ (accrueBed b s).runway = s.runway ∧ (accrueBed b s).mgmt = s.mgmt
      ∧ (accrueBed b s).notice = s.notice ∧ (accrueBed b s).sup = s.sup
      ∧ (accrueBed b s).freeCount = s.freeCount ∧ (accrueBed b s).pending = s.pending := by
  unfold accrueBed; split <;> simp

@[simp] theorem setThermal_keeps (b : Fin 24) (t : Thermal) :
    (setThermal b t s).line = s.line ∧ (setThermal b t s).probe = s.probe
      ∧ (setThermal b t s).heat = s.heat ∧ (setThermal b t s).bed = s.bed
      ∧ (setThermal b t s).piece = s.piece ∧ (setThermal b t s).stock = s.stock
      ∧ (setThermal b t s).runway = s.runway ∧ (setThermal b t s).mgmt = s.mgmt
      ∧ (setThermal b t s).notice = s.notice ∧ (setThermal b t s).sup = s.sup
      ∧ (setThermal b t s).freeCount = s.freeCount ∧ (setThermal b t s).pending = s.pending := by
  simp [setThermal]

@[simp] theorem initThermal_keeps (b : Fin 24) :
    (initThermal b s).line = s.line ∧ (initThermal b s).probe = s.probe
      ∧ (initThermal b s).heat = s.heat ∧ (initThermal b s).bed = s.bed
      ∧ (initThermal b s).piece = s.piece ∧ (initThermal b s).stock = s.stock
      ∧ (initThermal b s).runway = s.runway ∧ (initThermal b s).mgmt = s.mgmt
      ∧ (initThermal b s).notice = s.notice ∧ (initThermal b s).sup = s.sup
      ∧ (initThermal b s).freeCount = s.freeCount ∧ (initThermal b s).pending = s.pending := by
  simp [initThermal]

@[simp] theorem leaveThermal_keeps (b : Fin 24) :
    (leaveThermal b s).line = s.line ∧ (leaveThermal b s).probe = s.probe
      ∧ (leaveThermal b s).heat = s.heat ∧ (leaveThermal b s).bed = s.bed
      ∧ (leaveThermal b s).piece = s.piece ∧ (leaveThermal b s).stock = s.stock
      ∧ (leaveThermal b s).runway = s.runway ∧ (leaveThermal b s).mgmt = s.mgmt
      ∧ (leaveThermal b s).notice = s.notice ∧ (leaveThermal b s).sup = s.sup
      ∧ (leaveThermal b s).freeCount = s.freeCount ∧ (leaveThermal b s).pending = s.pending := by
  simp [leaveThermal]

/-- A readiness recomputed changes one record, or raises PIECE_READY too (R47). -/
@[simp] theorem refreshReady_keeps (m : Nat) :
    (refreshReady m s).probe = s.probe ∧ (refreshReady m s).curing = s.curing
      ∧ (refreshReady m s).heat = s.heat ∧ (refreshReady m s).bed = s.bed
      ∧ (refreshReady m s).stock = s.stock ∧ (refreshReady m s).runway = s.runway
      ∧ (refreshReady m s).mgmt = s.mgmt ∧ (refreshReady m s).sup = s.sup
      ∧ (refreshReady m s).freeCount = s.freeCount ∧ (refreshReady m s).pending = s.pending := by
  unfold refreshReady; dsimp only; (repeat' split) <;> simp

/-! ### Heat -/

@[simp] theorem nextHeatSeq_keeps :
    (nextHeatSeq s).line = s.line ∧ (nextHeatSeq s).probe = s.probe
      ∧ (nextHeatSeq s).curing = s.curing ∧ (nextHeatSeq s).bed = s.bed
      ∧ (nextHeatSeq s).piece = s.piece ∧ (nextHeatSeq s).stock = s.stock
      ∧ (nextHeatSeq s).runway = s.runway ∧ (nextHeatSeq s).mgmt = s.mgmt
      ∧ (nextHeatSeq s).notice = s.notice ∧ (nextHeatSeq s).sup = s.sup
      ∧ (nextHeatSeq s).freeCount = s.freeCount ∧ (nextHeatSeq s).pending = s.pending := by
  simp [nextHeatSeq]

/-- A HEAT frame offered changes the heat record, the lane and the notice unit alone (R80). -/
@[simp] theorem offerHeat_keeps (b : Fin 24) (d : Nat) :
    (offerHeat b d s).probe = s.probe ∧ (offerHeat b d s).curing = s.curing
      ∧ (offerHeat b d s).bed = s.bed ∧ (offerHeat b d s).piece = s.piece
      ∧ (offerHeat b d s).stock = s.stock ∧ (offerHeat b d s).runway = s.runway
      ∧ (offerHeat b d s).mgmt = s.mgmt ∧ (offerHeat b d s).sup = s.sup
      ∧ (offerHeat b d s).freeCount = s.freeCount ∧ (offerHeat b d s).pending = s.pending := by
  simp [offerHeat]

@[simp] theorem takeGrant_keeps (u : State) (b : Fin 24) :
    (takeGrant u b s).probe = s.probe ∧ (takeGrant u b s).curing = s.curing
      ∧ (takeGrant u b s).bed = s.bed ∧ (takeGrant u b s).piece = s.piece
      ∧ (takeGrant u b s).stock = s.stock ∧ (takeGrant u b s).runway = s.runway
      ∧ (takeGrant u b s).mgmt = s.mgmt ∧ (takeGrant u b s).sup = s.sup
      ∧ (takeGrant u b s).freeCount = s.freeCount ∧ (takeGrant u b s).pending = s.pending := by
  unfold takeGrant; dsimp only; split <;> simp

@[simp] theorem regrant_keeps :
    (regrant s).probe = s.probe ∧ (regrant s).curing = s.curing ∧ (regrant s).bed = s.bed
      ∧ (regrant s).piece = s.piece ∧ (regrant s).stock = s.stock
      ∧ (regrant s).runway = s.runway ∧ (regrant s).mgmt = s.mgmt ∧ (regrant s).sup = s.sup
      ∧ (regrant s).freeCount = s.freeCount ∧ (regrant s).pending = s.pending := by
  unfold regrant
  refine ⟨forEach_keeps s State.probe _ fun _ _ => by simp,
    forEach_keeps s State.curing _ fun _ _ => by simp,
    forEach_keeps s State.bed _ fun _ _ => by simp,
    forEach_keeps s State.piece _ fun _ _ => by simp,
    forEach_keeps s State.stock _ fun _ _ => by simp,
    forEach_keeps s State.runway _ fun _ _ => by simp,
    forEach_keeps s State.mgmt _ fun _ _ => by simp,
    forEach_keeps s State.sup _ fun _ _ => by simp,
    forEach_keeps s State.freeCount _ fun _ _ => by simp,
    forEach_keeps s State.pending _ fun _ _ => by simp⟩

@[simp] theorem sendDuty_keeps (x : Fin 24 × Nat) :
    (sendDuty x s).probe = s.probe ∧ (sendDuty x s).curing = s.curing
      ∧ (sendDuty x s).bed = s.bed ∧ (sendDuty x s).piece = s.piece
      ∧ (sendDuty x s).stock = s.stock ∧ (sendDuty x s).runway = s.runway
      ∧ (sendDuty x s).mgmt = s.mgmt ∧ (sendDuty x s).sup = s.sup
      ∧ (sendDuty x s).freeCount = s.freeCount ∧ (sendDuty x s).pending = s.pending := by
  simp [sendDuty]

/-- A recomputation changes the heat records, the lanes and the notice unit alone (R77 to R80). -/
@[simp] theorem recompute_keeps :
    (recompute s).probe = s.probe ∧ (recompute s).curing = s.curing
      ∧ (recompute s).bed = s.bed ∧ (recompute s).piece = s.piece
      ∧ (recompute s).stock = s.stock ∧ (recompute s).runway = s.runway
      ∧ (recompute s).mgmt = s.mgmt ∧ (recompute s).sup = s.sup
      ∧ (recompute s).freeCount = s.freeCount ∧ (recompute s).pending = s.pending := by
  unfold recompute
  have h : ∀ {α : Type} (read : State → α), (∀ t x, read (sendDuty x t) = read t) →
      read ((heatFrames (regrant s)).foldl (fun u x => sendDuty x u) (regrant s))
        = read (regrant s) := fun read hr => foldl_keeps _ read _ hr _
  refine ⟨(h State.probe fun _ _ => by simp).trans (by simp),
    (h State.curing fun _ _ => by simp).trans (by simp),
    (h State.bed fun _ _ => by simp).trans (by simp),
    (h State.piece fun _ _ => by simp).trans (by simp),
    (h State.stock fun _ _ => by simp).trans (by simp),
    (h State.runway fun _ _ => by simp).trans (by simp),
    (h State.mgmt fun _ _ => by simp).trans (by simp),
    (h State.sup fun _ _ => by simp).trans (by simp),
    (h State.freeCount fun _ _ => by simp).trans (by simp),
    (h State.pending fun _ _ => by simp).trans (by simp)⟩

@[simp] theorem handRequest_keeps (b : Fin 24) (n : Nat) :
    (handRequest b n s).probe = s.probe ∧ (handRequest b n s).curing = s.curing
      ∧ (handRequest b n s).bed = s.bed ∧ (handRequest b n s).piece = s.piece
      ∧ (handRequest b n s).stock = s.stock ∧ (handRequest b n s).runway = s.runway
      ∧ (handRequest b n s).mgmt = s.mgmt ∧ (handRequest b n s).sup = s.sup
      ∧ (handRequest b n s).freeCount = s.freeCount ∧ (handRequest b n s).pending = s.pending := by
  unfold handRequest; split <;> simp

@[simp] theorem startHeat_keeps (b : Fin 24) :
    (startHeat b s).probe = s.probe ∧ (startHeat b s).curing = s.curing
      ∧ (startHeat b s).bed = s.bed ∧ (startHeat b s).piece = s.piece
      ∧ (startHeat b s).stock = s.stock ∧ (startHeat b s).runway = s.runway
      ∧ (startHeat b s).mgmt = s.mgmt ∧ (startHeat b s).sup = s.sup
      ∧ (startHeat b s).freeCount = s.freeCount ∧ (startHeat b s).pending = s.pending := by
  simp [startHeat]

@[simp] theorem stopHeat_keeps (b : Fin 24) :
    (stopHeat b s).probe = s.probe ∧ (stopHeat b s).curing = s.curing
      ∧ (stopHeat b s).bed = s.bed ∧ (stopHeat b s).piece = s.piece
      ∧ (stopHeat b s).stock = s.stock ∧ (stopHeat b s).runway = s.runway
      ∧ (stopHeat b s).mgmt = s.mgmt ∧ (stopHeat b s).sup = s.sup
      ∧ (stopHeat b s).freeCount = s.freeCount ∧ (stopHeat b s).pending = s.pending := by
  simp [stopHeat]

@[simp] theorem idleHeat_keeps (b : Fin 24) :
    (idleHeat b s).line = s.line ∧ (idleHeat b s).probe = s.probe
      ∧ (idleHeat b s).curing = s.curing ∧ (idleHeat b s).bed = s.bed
      ∧ (idleHeat b s).piece = s.piece ∧ (idleHeat b s).stock = s.stock
      ∧ (idleHeat b s).runway = s.runway ∧ (idleHeat b s).mgmt = s.mgmt
      ∧ (idleHeat b s).notice = s.notice ∧ (idleHeat b s).sup = s.sup
      ∧ (idleHeat b s).freeCount = s.freeCount ∧ (idleHeat b s).pending = s.pending := by
  unfold idleHeat; split <;> simp

@[simp] theorem dropWaitFor_keeps (f : Frame) :
    (dropWaitFor f s).line = s.line ∧ (dropWaitFor f s).probe = s.probe
      ∧ (dropWaitFor f s).curing = s.curing ∧ (dropWaitFor f s).bed = s.bed
      ∧ (dropWaitFor f s).piece = s.piece ∧ (dropWaitFor f s).stock = s.stock
      ∧ (dropWaitFor f s).runway = s.runway ∧ (dropWaitFor f s).mgmt = s.mgmt
      ∧ (dropWaitFor f s).notice = s.notice ∧ (dropWaitFor f s).sup = s.sup
      ∧ (dropWaitFor f s).freeCount = s.freeCount ∧ (dropWaitFor f s).pending = s.pending := by
  unfold dropWaitFor; (repeat' split) <;> simp

@[simp] theorem ackBed_keeps (b : Fin 24) (d : Nat) (q : Byte) :
    (ackBed b d q s).line = s.line ∧ (ackBed b d q s).probe = s.probe
      ∧ (ackBed b d q s).curing = s.curing ∧ (ackBed b d q s).bed = s.bed
      ∧ (ackBed b d q s).piece = s.piece ∧ (ackBed b d q s).stock = s.stock
      ∧ (ackBed b d q s).runway = s.runway ∧ (ackBed b d q s).mgmt = s.mgmt
      ∧ (ackBed b d q s).notice = s.notice ∧ (ackBed b d q s).sup = s.sup
      ∧ (ackBed b d q s).freeCount = s.freeCount ∧ (ackBed b d q s).pending = s.pending := by
  unfold ackBed countStrayAck; (repeat' split) <;> simp

@[simp] theorem refreshBed_keeps (b : Fin 24) :
    (refreshBed b s).probe = s.probe ∧ (refreshBed b s).curing = s.curing
      ∧ (refreshBed b s).bed = s.bed ∧ (refreshBed b s).piece = s.piece
      ∧ (refreshBed b s).stock = s.stock ∧ (refreshBed b s).runway = s.runway
      ∧ (refreshBed b s).mgmt = s.mgmt ∧ (refreshBed b s).sup = s.sup
      ∧ (refreshBed b s).freeCount = s.freeCount ∧ (refreshBed b s).pending = s.pending := by
  unfold refreshBed; (repeat' split) <;> simp

@[simp] theorem missAck_keeps (b : Fin 24) :
    (missAck b s).probe = s.probe ∧ (missAck b s).curing = s.curing
      ∧ (missAck b s).bed = s.bed ∧ (missAck b s).piece = s.piece
      ∧ (missAck b s).stock = s.stock ∧ (missAck b s).runway = s.runway
      ∧ (missAck b s).mgmt = s.mgmt ∧ (missAck b s).sup = s.sup
      ∧ (missAck b s).freeCount = s.freeCount ∧ (missAck b s).pending = s.pending := by
  unfold missAck; dsimp only; (repeat' split) <;> simp

@[simp] theorem handDemand_keeps (b : Fin 24) :
    (handDemand b s).probe = s.probe ∧ (handDemand b s).curing = s.curing
      ∧ (handDemand b s).bed = s.bed ∧ (handDemand b s).piece = s.piece
      ∧ (handDemand b s).stock = s.stock ∧ (handDemand b s).runway = s.runway
      ∧ (handDemand b s).mgmt = s.mgmt ∧ (handDemand b s).sup = s.sup
      ∧ (handDemand b s).freeCount = s.freeCount ∧ (handDemand b s).pending = s.pending := by
  simp [handDemand]

@[simp] theorem blindMinute_keeps (b : Fin 24) (t : Thermal) :
    (blindMinute b t s).probe = s.probe ∧ (blindMinute b t s).bed = s.bed
      ∧ (blindMinute b t s).piece = s.piece ∧ (blindMinute b t s).stock = s.stock
      ∧ (blindMinute b t s).runway = s.runway ∧ (blindMinute b t s).mgmt = s.mgmt
      ∧ (blindMinute b t s).sup = s.sup ∧ (blindMinute b t s).freeCount = s.freeCount
      ∧ (blindMinute b t s).pending = s.pending := by
  unfold blindMinute; dsimp only; split <;> simp

@[simp] theorem demandMinute_keeps (b : Fin 24) (h : Int) (k : Bool) (t : Thermal) :
    (demandMinute b h k t s).probe = s.probe ∧ (demandMinute b h k t s).bed = s.bed
      ∧ (demandMinute b h k t s).piece = s.piece ∧ (demandMinute b h k t s).stock = s.stock
      ∧ (demandMinute b h k t s).runway = s.runway ∧ (demandMinute b h k t s).mgmt = s.mgmt
      ∧ (demandMinute b h k t s).sup = s.sup ∧ (demandMinute b h k t s).freeCount = s.freeCount
      ∧ (demandMinute b h k t s).pending = s.pending := by
  unfold demandMinute; dsimp only; split <;> simp

/-! ### Beds -/

/-- A change of a bed's state reaches the curing, heat supply and notice units, the lanes, and hands over an
opportunity (R4, R18, R71, R76). -/
@[simp] theorem enterBed_keeps (b : Fin 24) (n : BedState) :
    (enterBed b n s).probe = s.probe ∧ (enterBed b n s).piece = s.piece
      ∧ (enterBed b n s).stock = s.stock ∧ (enterBed b n s).mgmt = s.mgmt
      ∧ (enterBed b n s).sup = s.sup ∧ (enterBed b n s).freeCount = s.freeCount
      ∧ (enterBed b n s).pending = s.pending := by
  unfold enterBed; dsimp only; (repeat' split) <;> simp

/-- A change of a bed's state changes the bed unit only in that bed's record (1.2). -/
theorem enterBed_bed (b : Fin 24) (n : BedState) :
    (enterBed b n s).bed = (modBedRec b (enterRec n) s).bed := by
  unfold enterBed; dsimp only; (repeat' split) <;> simp

/-- A change of a bed's state hands over one opportunity and changes nothing else of the runway unit. -/
theorem enterBed_runway (b : Fin 24) (n : BedState) :
    (enterBed b n s).runway =
      { s.runway with opportunities := s.runway.opportunities + 1 } := by
  unfold enterBed noteOpportunity; dsimp only; (repeat' split) <;> simp

@[simp] theorem removeLine_keeps (b : Fin 24) (m : Nat) :
    (removeLine b m s).line = s.line ∧ (removeLine b m s).probe = s.probe
      ∧ (removeLine b m s).heat = s.heat ∧ (removeLine b m s).piece = s.piece
      ∧ (removeLine b m s).stock = s.stock ∧ (removeLine b m s).runway = s.runway
      ∧ (removeLine b m s).mgmt = s.mgmt ∧ (removeLine b m s).notice = s.notice
      ∧ (removeLine b m s).sup = s.sup ∧ (removeLine b m s).freeCount = s.freeCount
      ∧ (removeLine b m s).pending = s.pending := by
  simp [removeLine]

@[simp] theorem removeOrder_keeps (b : Fin 24) :
    (removeOrder b s).line = s.line ∧ (removeOrder b s).probe = s.probe
      ∧ (removeOrder b s).curing = s.curing ∧ (removeOrder b s).heat = s.heat
      ∧ (removeOrder b s).piece = s.piece ∧ (removeOrder b s).stock = s.stock
      ∧ (removeOrder b s).runway = s.runway ∧ (removeOrder b s).mgmt = s.mgmt
      ∧ (removeOrder b s).notice = s.notice ∧ (removeOrder b s).sup = s.sup
      ∧ (removeOrder b s).freeCount = s.freeCount ∧ (removeOrder b s).pending = s.pending := by
  simp [removeOrder]

/-! ### Pieces and stock -/

@[simp] theorem takeClaim_keeps (n : Fin 1024) :
    (takeClaim n s).line = s.line ∧ (takeClaim n s).probe = s.probe
      ∧ (takeClaim n s).curing = s.curing ∧ (takeClaim n s).heat = s.heat
      ∧ (takeClaim n s).bed = s.bed ∧ (takeClaim n s).piece = s.piece
      ∧ (takeClaim n s).mgmt = s.mgmt ∧ (takeClaim n s).notice = s.notice
      ∧ (takeClaim n s).sup = s.sup ∧ (takeClaim n s).freeCount = s.freeCount
      ∧ (takeClaim n s).pending = s.pending := by
  simp [takeClaim]

@[simp] theorem releaseClaim_keeps (n : Fin 1024) :
    (releaseClaim n s).line = s.line ∧ (releaseClaim n s).probe = s.probe
      ∧ (releaseClaim n s).curing = s.curing ∧ (releaseClaim n s).heat = s.heat
      ∧ (releaseClaim n s).bed = s.bed ∧ (releaseClaim n s).piece = s.piece
      ∧ (releaseClaim n s).mgmt = s.mgmt ∧ (releaseClaim n s).notice = s.notice
      ∧ (releaseClaim n s).sup = s.sup ∧ (releaseClaim n s).freeCount = s.freeCount
      ∧ (releaseClaim n s).pending = s.pending := by
  simp [releaseClaim]

@[simp] theorem relevel_keeps (n : Fin 1024) :
    (relevel n s).line = s.line ∧ (relevel n s).probe = s.probe
      ∧ (relevel n s).curing = s.curing ∧ (relevel n s).heat = s.heat
      ∧ (relevel n s).bed = s.bed ∧ (relevel n s).stock = s.stock
      ∧ (relevel n s).runway = s.runway ∧ (relevel n s).mgmt = s.mgmt
      ∧ (relevel n s).notice = s.notice ∧ (relevel n s).sup = s.sup
      ∧ (relevel n s).freeCount = s.freeCount ∧ (relevel n s).pending = s.pending := by
  simp [relevel]

@[simp] theorem unstack_keeps (n : Fin 1024) (m : Nat) :
    (unstack n m s).line = s.line ∧ (unstack n m s).probe = s.probe
      ∧ (unstack n m s).curing = s.curing ∧ (unstack n m s).heat = s.heat
      ∧ (unstack n m s).bed = s.bed ∧ (unstack n m s).mgmt = s.mgmt
      ∧ (unstack n m s).notice = s.notice ∧ (unstack n m s).sup = s.sup
      ∧ (unstack n m s).freeCount = s.freeCount ∧ (unstack n m s).pending = s.pending := by
  simp [unstack]

@[simp] theorem setHook_keeps (c : Fin 4) (h : Option Nat) :
    (setHook c h s).line = s.line ∧ (setHook c h s).probe = s.probe
      ∧ (setHook c h s).curing = s.curing ∧ (setHook c h s).heat = s.heat
      ∧ (setHook c h s).bed = s.bed ∧ (setHook c h s).piece = s.piece
      ∧ (setHook c h s).stock = s.stock ∧ (setHook c h s).mgmt = s.mgmt
      ∧ (setHook c h s).notice = s.notice ∧ (setHook c h s).sup = s.sup
      ∧ (setHook c h s).freeCount = s.freeCount ∧ (setHook c h s).pending = s.pending := by
  simp [setHook]

@[simp] theorem hookPiece_keeps (c : Fin 4) (m : Nat) :
    (hookPiece c m s).line = s.line ∧ (hookPiece c m s).probe = s.probe
      ∧ (hookPiece c m s).curing = s.curing ∧ (hookPiece c m s).heat = s.heat
      ∧ (hookPiece c m s).bed = s.bed ∧ (hookPiece c m s).stock = s.stock
      ∧ (hookPiece c m s).mgmt = s.mgmt ∧ (hookPiece c m s).notice = s.notice
      ∧ (hookPiece c m s).sup = s.sup ∧ (hookPiece c m s).freeCount = s.freeCount
      ∧ (hookPiece c m s).pending = s.pending := by
  simp [hookPiece]

@[simp] theorem takeBedAccount_keeps (b : Fin 24) (m : Nat) :
    (takeBedAccount b m s).line = s.line ∧ (takeBedAccount b m s).probe = s.probe
      ∧ (takeBedAccount b m s).curing = s.curing ∧ (takeBedAccount b m s).heat = s.heat
      ∧ (takeBedAccount b m s).bed = s.bed ∧ (takeBedAccount b m s).stock = s.stock
      ∧ (takeBedAccount b m s).runway = s.runway ∧ (takeBedAccount b m s).mgmt = s.mgmt
      ∧ (takeBedAccount b m s).notice = s.notice ∧ (takeBedAccount b m s).sup = s.sup
      ∧ (takeBedAccount b m s).freeCount = s.freeCount
      ∧ (takeBedAccount b m s).pending = s.pending := by
  simp [takeBedAccount]

/-- A lift from a bed changes the record, the hook, the line list and the margin alone (R90). -/
@[simp] theorem liftFromBed_keeps (b : Fin 24) (c : Fin 4) (m : Nat) :
    (liftFromBed b c m s).line = s.line ∧ (liftFromBed b c m s).probe = s.probe
      ∧ (liftFromBed b c m s).heat = s.heat ∧ (liftFromBed b c m s).stock = s.stock
      ∧ (liftFromBed b c m s).mgmt = s.mgmt ∧ (liftFromBed b c m s).notice = s.notice
      ∧ (liftFromBed b c m s).sup = s.sup ∧ (liftFromBed b c m s).freeCount = s.freeCount
      ∧ (liftFromBed b c m s).pending = s.pending := by
  simp [liftFromBed]

@[simp] theorem countBuried_keeps :
    (countBuried s).line = s.line ∧ (countBuried s).probe = s.probe
      ∧ (countBuried s).curing = s.curing ∧ (countBuried s).heat = s.heat
      ∧ (countBuried s).bed = s.bed ∧ (countBuried s).piece = s.piece
      ∧ (countBuried s).runway = s.runway ∧ (countBuried s).mgmt = s.mgmt
      ∧ (countBuried s).notice = s.notice ∧ (countBuried s).sup = s.sup
      ∧ (countBuried s).freeCount = s.freeCount ∧ (countBuried s).pending = s.pending := by
  simp [countBuried]

@[simp] theorem pickFromSlot_keeps (n : Fin 1024) (c : Fin 4) (m : Nat) :
    (pickFromSlot n c m s).line = s.line ∧ (pickFromSlot n c m s).probe = s.probe
      ∧ (pickFromSlot n c m s).curing = s.curing ∧ (pickFromSlot n c m s).heat = s.heat
      ∧ (pickFromSlot n c m s).bed = s.bed ∧ (pickFromSlot n c m s).mgmt = s.mgmt
      ∧ (pickFromSlot n c m s).notice = s.notice ∧ (pickFromSlot n c m s).sup = s.sup
      ∧ (pickFromSlot n c m s).freeCount = s.freeCount
      ∧ (pickFromSlot n c m s).pending = s.pending := by
  unfold pickFromSlot; dsimp only; split <;> simp

/-- A push changes the stack and the record, and raises PIECE_READY where it makes the piece ready (R91). -/
@[simp] theorem pushPiece_keeps (n : Fin 1024) (m : Nat) :
    (pushPiece n m s).probe = s.probe ∧ (pushPiece n m s).curing = s.curing
      ∧ (pushPiece n m s).heat = s.heat ∧ (pushPiece n m s).bed = s.bed
      ∧ (pushPiece n m s).mgmt = s.mgmt ∧ (pushPiece n m s).sup = s.sup
      ∧ (pushPiece n m s).freeCount = s.freeCount ∧ (pushPiece n m s).pending = s.pending := by
  simp [pushPiece]

@[simp] theorem placePiece_keeps (n : Fin 1024) (c : Fin 4) (m : Nat) :
    (placePiece n c m s).probe = s.probe ∧ (placePiece n c m s).curing = s.curing
      ∧ (placePiece n c m s).heat = s.heat ∧ (placePiece n c m s).bed = s.bed
      ∧ (placePiece n c m s).mgmt = s.mgmt ∧ (placePiece n c m s).sup = s.sup
      ∧ (placePiece n c m s).freeCount = s.freeCount
      ∧ (placePiece n c m s).pending = s.pending := by
  simp [placePiece]

@[simp] theorem strandPiece_keeps (m : Nat) :
    (strandPiece m s).line = s.line ∧ (strandPiece m s).probe = s.probe
      ∧ (strandPiece m s).curing = s.curing ∧ (strandPiece m s).heat = s.heat
      ∧ (strandPiece m s).bed = s.bed ∧ (strandPiece m s).stock = s.stock
      ∧ (strandPiece m s).runway = s.runway ∧ (strandPiece m s).mgmt = s.mgmt
      ∧ (strandPiece m s).notice = s.notice ∧ (strandPiece m s).sup = s.sup
      ∧ (strandPiece m s).freeCount = s.freeCount ∧ (strandPiece m s).pending = s.pending := by
  simp [strandPiece]

@[simp] theorem strandFromHook_keeps (c : Fin 4) (m : Nat) :
    (strandFromHook c m s).probe = s.probe ∧ (strandFromHook c m s).curing = s.curing
      ∧ (strandFromHook c m s).heat = s.heat ∧ (strandFromHook c m s).bed = s.bed
      ∧ (strandFromHook c m s).stock = s.stock ∧ (strandFromHook c m s).mgmt = s.mgmt
      ∧ (strandFromHook c m s).sup = s.sup ∧ (strandFromHook c m s).freeCount = s.freeCount
      ∧ (strandFromHook c m s).pending = s.pending := by
  simp [strandFromHook]

@[simp] theorem returnPiece_keeps (n : Fin 1024) (c : Fin 4) (m : Nat) :
    (returnPiece n c m s).probe = s.probe ∧ (returnPiece n c m s).curing = s.curing
      ∧ (returnPiece n c m s).heat = s.heat ∧ (returnPiece n c m s).bed = s.bed
      ∧ (returnPiece n c m s).mgmt = s.mgmt ∧ (returnPiece n c m s).sup = s.sup
      ∧ (returnPiece n c m s).freeCount = s.freeCount
      ∧ (returnPiece n c m s).pending = s.pending := by
  unfold returnPiece; split <;> simp

/-- A dispatch frees the record, empties the hook and raises DISPATCHED (R93). -/
@[simp] theorem dispatchPiece_keeps (c : Fin 4) (m : Nat) :
    (dispatchPiece c m s).probe = s.probe ∧ (dispatchPiece c m s).curing = s.curing
      ∧ (dispatchPiece c m s).heat = s.heat ∧ (dispatchPiece c m s).bed = s.bed
      ∧ (dispatchPiece c m s).stock = s.stock ∧ (dispatchPiece c m s).mgmt = s.mgmt
      ∧ (dispatchPiece c m s).sup = s.sup ∧ (dispatchPiece c m s).freeCount = s.freeCount
      ∧ (dispatchPiece c m s).pending = s.pending := by
  unfold dispatchPiece; split <;> simp

/-! ### Halts and the runway -/

@[simp] theorem setNormalF_keeps (l : List Frame) :
    (setNormalF l s).probe = s.probe ∧ (setNormalF l s).curing = s.curing
      ∧ (setNormalF l s).heat = s.heat ∧ (setNormalF l s).bed = s.bed
      ∧ (setNormalF l s).piece = s.piece ∧ (setNormalF l s).stock = s.stock
      ∧ (setNormalF l s).runway = s.runway ∧ (setNormalF l s).mgmt = s.mgmt
      ∧ (setNormalF l s).notice = s.notice ∧ (setNormalF l s).sup = s.sup
      ∧ (setNormalF l s).freeCount = s.freeCount ∧ (setNormalF l s).pending = s.pending := by
  simp [setNormalF]

@[simp] theorem makeHaltRoom_keeps :
    (makeHaltRoom s).probe = s.probe ∧ (makeHaltRoom s).curing = s.curing
      ∧ (makeHaltRoom s).bed = s.bed ∧ (makeHaltRoom s).piece = s.piece
      ∧ (makeHaltRoom s).stock = s.stock ∧ (makeHaltRoom s).runway = s.runway
      ∧ (makeHaltRoom s).mgmt = s.mgmt ∧ (makeHaltRoom s).sup = s.sup
      ∧ (makeHaltRoom s).freeCount = s.freeCount ∧ (makeHaltRoom s).pending = s.pending := by
  unfold makeHaltRoom; (repeat' split) <;> simp

@[simp] theorem haltAtHead_keeps (f : Frame) :
    (haltAtHead f s).probe = s.probe ∧ (haltAtHead f s).curing = s.curing
      ∧ (haltAtHead f s).heat = s.heat ∧ (haltAtHead f s).bed = s.bed
      ∧ (haltAtHead f s).piece = s.piece ∧ (haltAtHead f s).stock = s.stock
      ∧ (haltAtHead f s).runway = s.runway ∧ (haltAtHead f s).mgmt = s.mgmt
      ∧ (haltAtHead f s).notice = s.notice ∧ (haltAtHead f s).sup = s.sup
      ∧ (haltAtHead f s).freeCount = s.freeCount ∧ (haltAtHead f s).pending = s.pending := by
  simp [haltAtHead]

/-- A HALT offered changes the lanes, at most one acknowledgement wait, and the notice unit (R148). -/
@[simp] theorem offerHalt_keeps (f : Frame) :
    (offerHalt f s).probe = s.probe ∧ (offerHalt f s).curing = s.curing
      ∧ (offerHalt f s).bed = s.bed ∧ (offerHalt f s).piece = s.piece
      ∧ (offerHalt f s).stock = s.stock ∧ (offerHalt f s).runway = s.runway
      ∧ (offerHalt f s).mgmt = s.mgmt ∧ (offerHalt f s).sup = s.sup
      ∧ (offerHalt f s).freeCount = s.freeCount ∧ (offerHalt f s).pending = s.pending := by
  unfold offerHalt; split <;> simp

/-- A crane halted keeps its order and reservation (R122). -/
@[simp] theorem haltCrane_keeps (c : Fin 4) (r : HaltReason) :
    (haltCrane c r s).probe = s.probe ∧ (haltCrane c r s).curing = s.curing
      ∧ (haltCrane c r s).bed = s.bed ∧ (haltCrane c r s).piece = s.piece
      ∧ (haltCrane c r s).stock = s.stock ∧ (haltCrane c r s).mgmt = s.mgmt
      ∧ (haltCrane c r s).sup = s.sup ∧ (haltCrane c r s).freeCount = s.freeCount
      ∧ (haltCrane c r s).pending = s.pending := by
  simp [haltCrane]

@[simp] theorem answerTo_keeps (f : Frame) (l : Bytes) (a : Answer) :
    (answerTo f l a s).probe = s.probe ∧ (answerTo f l a s).curing = s.curing
      ∧ (answerTo f l a s).heat = s.heat ∧ (answerTo f l a s).bed = s.bed
      ∧ (answerTo f l a s).piece = s.piece ∧ (answerTo f l a s).stock = s.stock
      ∧ (answerTo f l a s).runway = s.runway ∧ (answerTo f l a s).mgmt = s.mgmt
      ∧ (answerTo f l a s).sup = s.sup ∧ (answerTo f l a s).freeCount = s.freeCount
      ∧ (answerTo f l a s).pending = s.pending := by
  simp [answerTo]

@[simp] theorem answerOrder_keeps (o : CraneOrder) (a : Answer) :
    (answerOrder o a s).probe = s.probe ∧ (answerOrder o a s).curing = s.curing
      ∧ (answerOrder o a s).heat = s.heat ∧ (answerOrder o a s).bed = s.bed
      ∧ (answerOrder o a s).piece = s.piece ∧ (answerOrder o a s).stock = s.stock
      ∧ (answerOrder o a s).runway = s.runway ∧ (answerOrder o a s).mgmt = s.mgmt
      ∧ (answerOrder o a s).sup = s.sup ∧ (answerOrder o a s).freeCount = s.freeCount
      ∧ (answerOrder o a s).pending = s.pending := by
  simp [answerOrder]

@[simp] theorem holdOrder_keeps (o : CraneOrder) (p : Nat) :
    (holdOrder o p s).line = s.line ∧ (holdOrder o p s).probe = s.probe
      ∧ (holdOrder o p s).curing = s.curing ∧ (holdOrder o p s).heat = s.heat
      ∧ (holdOrder o p s).bed = s.bed ∧ (holdOrder o p s).piece = s.piece
      ∧ (holdOrder o p s).stock = s.stock ∧ (holdOrder o p s).mgmt = s.mgmt
      ∧ (holdOrder o p s).notice = s.notice ∧ (holdOrder o p s).sup = s.sup
      ∧ (holdOrder o p s).freeCount = s.freeCount ∧ (holdOrder o p s).pending = s.pending := by
  simp [holdOrder]

@[simp] theorem claimFor_keeps (t : Task) :
    (claimFor t s).line = s.line ∧ (claimFor t s).probe = s.probe
      ∧ (claimFor t s).curing = s.curing ∧ (claimFor t s).heat = s.heat
      ∧ (claimFor t s).bed = s.bed ∧ (claimFor t s).piece = s.piece
      ∧ (claimFor t s).mgmt = s.mgmt ∧ (claimFor t s).notice = s.notice
      ∧ (claimFor t s).sup = s.sup ∧ (claimFor t s).freeCount = s.freeCount
      ∧ (claimFor t s).pending = s.pending := by
  unfold claimFor; split <;> simp

/-- An admission takes the claim, holds the order, and sends the ORDER and its answer (R126). -/
@[simp] theorem admitOrder_keeps (o : CraneOrder) :
    (admitOrder o s).probe = s.probe ∧ (admitOrder o s).curing = s.curing
      ∧ (admitOrder o s).heat = s.heat ∧ (admitOrder o s).bed = s.bed
      ∧ (admitOrder o s).piece = s.piece ∧ (admitOrder o s).mgmt = s.mgmt
      ∧ (admitOrder o s).sup = s.sup ∧ (admitOrder o s).freeCount = s.freeCount
      ∧ (admitOrder o s).pending = s.pending := by
  simp [admitOrder]

@[simp] theorem unqueue_keeps (o : CraneOrder) :
    (unqueue o s).line = s.line ∧ (unqueue o s).probe = s.probe
      ∧ (unqueue o s).curing = s.curing ∧ (unqueue o s).heat = s.heat
      ∧ (unqueue o s).bed = s.bed ∧ (unqueue o s).piece = s.piece
      ∧ (unqueue o s).stock = s.stock ∧ (unqueue o s).mgmt = s.mgmt
      ∧ (unqueue o s).notice = s.notice ∧ (unqueue o s).sup = s.sup
      ∧ (unqueue o s).freeCount = s.freeCount ∧ (unqueue o s).pending = s.pending := by
  simp [unqueue]

/-- A pass tries orders: what an admission and an answer leave, the pass leaves (R128). -/
theorem passOne_keeps {α : Type} (read : State → α)
    (hu : ∀ o t, read (unqueue o t) = read t) (ha : ∀ o t, read (admitOrder o t) = read t)
    (hr : ∀ o a t, read (answerOrder o a t) = read t) (acc : List (Fin 4) × State)
    (o : CraneOrder) : read (passOne acc o).2 = read acc.2 := by
  unfold passOne
  split
  · rfl
  · split
    · simp [ha, hu]
    · simp [hr, hu]
    · rfl

theorem passes_keep {α : Type} (read : State → α)
    (hu : ∀ o t, read (unqueue o t) = read t) (ha : ∀ o t, read (admitOrder o t) = read t)
    (hr : ∀ o a t, read (answerOrder o a t) = read t) (l : List CraneOrder)
    (acc : List (Fin 4) × State) : read (l.foldl passOne acc).2 = read acc.2 := by
  induction l generalizing acc with
  | nil => rfl
  | cons o rest ih => rw [List.foldl_cons, ih, passOne_keeps read hu ha hr]

/-- What an admission, an answer and the opportunity count leave, taking the opportunities leaves
(R128). -/
theorem settle_keep {α : Type} (read : State → α)
    (hu : ∀ o t, read (unqueue o t) = read t) (ha : ∀ o t, read (admitOrder o t) = read t)
    (hr : ∀ o a t, read (answerOrder o a t) = read t)
    (hc : ∀ (t : State) (n : Nat),
      read { t with runway := { t.runway with opportunities := n } } = read t) :
    read (settle s) = read s := by
  unfold settle
  generalize s.runway.opportunities + s.runway.waiting.length = n
  induction n generalizing s with
  | zero => rfl
  | succ n ih =>
    unfold takeOpportunities
    split
    · rfl
    · rw [ih]
      unfold takeOpportunity admissionPass
      rw [passes_keep read hu ha hr]
      exact hc s _

/-- The opportunities taken change the lanes, the claims, the runway unit and the notice unit alone
(R128). -/
@[simp] theorem settle_keeps :
    (settle s).probe = s.probe ∧ (settle s).curing = s.curing ∧ (settle s).heat = s.heat
      ∧ (settle s).bed = s.bed ∧ (settle s).piece = s.piece ∧ (settle s).mgmt = s.mgmt
      ∧ (settle s).sup = s.sup ∧ (settle s).freeCount = s.freeCount
      ∧ (settle s).pending = s.pending := by
  refine ⟨settle_keep s State.probe (by simp) (by simp) (by simp) (by simp),
    settle_keep s State.curing (by simp) (by simp) (by simp) (by simp),
    settle_keep s State.heat (by simp) (by simp) (by simp) (by simp),
    settle_keep s State.bed (by simp) (by simp) (by simp) (by simp),
    settle_keep s State.piece (by simp) (by simp) (by simp) (by simp),
    settle_keep s State.mgmt (by simp) (by simp) (by simp) (by simp),
    settle_keep s State.sup (by simp) (by simp) (by simp) (by simp),
    settle_keep s State.freeCount (by simp) (by simp) (by simp) (by simp),
    settle_keep s State.pending (by simp) (by simp) (by simp) (by simp)⟩

/-- With no order waiting and no opportunity left, nothing is taken. -/
theorem settle_idle (h : s.runway.opportunities = 0) (hw : s.runway.waiting = []) : settle s = s := by
  simp [settle, h, hw, takeOpportunities]

/-- With no order waiting, taking the opportunities only counts them down. -/
theorem settle_noneWaiting (hw : s.runway.waiting = []) :
    settle s = { s with runway := { s.runway with opportunities := 0 } } := by
  unfold settle
  rw [hw]
  simp only [List.length_nil, Nat.add_zero]
  generalize hn : s.runway.opportunities = n
  induction n generalizing s with
  | zero =>
    show s = _
    rw [← hn]
  | succ n ih =>
    unfold takeOpportunities
    rw [if_neg (by omega)]
    have hpass : takeOpportunity s = { s with runway := { s.runway with opportunities := n } } := by
      unfold takeOpportunity admissionPass
      simp [hw, hn]
    rw [hpass, ih]
    · exact hw
    · rfl

@[simp] theorem releaseFor_keeps (t : Task) :
    (releaseFor t s).line = s.line ∧ (releaseFor t s).probe = s.probe
      ∧ (releaseFor t s).curing = s.curing ∧ (releaseFor t s).heat = s.heat
      ∧ (releaseFor t s).bed = s.bed ∧ (releaseFor t s).piece = s.piece
      ∧ (releaseFor t s).mgmt = s.mgmt ∧ (releaseFor t s).notice = s.notice
      ∧ (releaseFor t s).sup = s.sup ∧ (releaseFor t s).freeCount = s.freeCount
      ∧ (releaseFor t s).pending = s.pending := by
  unfold releaseFor; split <;> simp

@[simp] theorem endOrder_keeps (c : Fin 4) :
    (endOrder c s).line = s.line ∧ (endOrder c s).probe = s.probe
      ∧ (endOrder c s).curing = s.curing ∧ (endOrder c s).heat = s.heat
      ∧ (endOrder c s).bed = s.bed ∧ (endOrder c s).piece = s.piece
      ∧ (endOrder c s).stock = s.stock ∧ (endOrder c s).mgmt = s.mgmt
      ∧ (endOrder c s).notice = s.notice ∧ (endOrder c s).sup = s.sup
      ∧ (endOrder c s).freeCount = s.freeCount ∧ (endOrder c s).pending = s.pending := by
  simp [endOrder]

@[simp] theorem overrunTest_keeps (c : Fin 4) :
    (overrunTest c s).probe = s.probe ∧ (overrunTest c s).curing = s.curing
      ∧ (overrunTest c s).bed = s.bed ∧ (overrunTest c s).piece = s.piece
      ∧ (overrunTest c s).stock = s.stock ∧ (overrunTest c s).mgmt = s.mgmt
      ∧ (overrunTest c s).sup = s.sup ∧ (overrunTest c s).freeCount = s.freeCount
      ∧ (overrunTest c s).pending = s.pending := by
  unfold overrunTest; split <;> simp

/-- A position report changes its crane, and halts it where it overruns (R121). -/
@[simp] theorem takePosition_keeps (c : Fin 4) (p : Nat) :
    (takePosition c p s).probe = s.probe ∧ (takePosition c p s).curing = s.curing
      ∧ (takePosition c p s).bed = s.bed ∧ (takePosition c p s).piece = s.piece
      ∧ (takePosition c p s).stock = s.stock ∧ (takePosition c p s).mgmt = s.mgmt
      ∧ (takePosition c p s).sup = s.sup ∧ (takePosition c p s).freeCount = s.freeCount
      ∧ (takePosition c p s).pending = s.pending := by
  simp [takePosition]

@[simp] theorem lateStart_keeps (c : Fin 4) (n : Nat) :
    (lateStart c n s).probe = s.probe ∧ (lateStart c n s).curing = s.curing
      ∧ (lateStart c n s).bed = s.bed ∧ (lateStart c n s).piece = s.piece
      ∧ (lateStart c n s).stock = s.stock ∧ (lateStart c n s).mgmt = s.mgmt
      ∧ (lateStart c n s).sup = s.sup ∧ (lateStart c n s).freeCount = s.freeCount
      ∧ (lateStart c n s).pending = s.pending := by
  simp [lateStart]

@[simp] theorem setBinding_keeps (c : Fin 4) (b : Binding) :
    (setBinding c b s).line = s.line ∧ (setBinding c b s).probe = s.probe
      ∧ (setBinding c b s).curing = s.curing ∧ (setBinding c b s).heat = s.heat
      ∧ (setBinding c b s).bed = s.bed ∧ (setBinding c b s).piece = s.piece
      ∧ (setBinding c b s).stock = s.stock ∧ (setBinding c b s).mgmt = s.mgmt
      ∧ (setBinding c b s).notice = s.notice ∧ (setBinding c b s).sup = s.sup
      ∧ (setBinding c b s).freeCount = s.freeCount ∧ (setBinding c b s).pending = s.pending := by
  simp [setBinding]

@[simp] theorem mismatch_keeps (c : Fin 4) (n : Nat) :
    (mismatch c n s).probe = s.probe ∧ (mismatch c n s).curing = s.curing
      ∧ (mismatch c n s).heat = s.heat ∧ (mismatch c n s).bed = s.bed
      ∧ (mismatch c n s).piece = s.piece ∧ (mismatch c n s).stock = s.stock
      ∧ (mismatch c n s).runway = s.runway ∧ (mismatch c n s).mgmt = s.mgmt
      ∧ (mismatch c n s).sup = s.sup ∧ (mismatch c n s).freeCount = s.freeCount
      ∧ (mismatch c n s).pending = s.pending := by
  simp [mismatch]

@[simp] theorem countAt_confirmed_keeps (n : Fin 1024) :
    (countAt n countConfirmed s).line = s.line
      ∧ (countAt n countConfirmed s).probe = s.probe
      ∧ (countAt n countConfirmed s).curing = s.curing
      ∧ (countAt n countConfirmed s).heat = s.heat ∧ (countAt n countConfirmed s).bed = s.bed
      ∧ (countAt n countConfirmed s).piece = s.piece
      ∧ (countAt n countConfirmed s).runway = s.runway
      ∧ (countAt n countConfirmed s).mgmt = s.mgmt
      ∧ (countAt n countConfirmed s).notice = s.notice
      ∧ (countAt n countConfirmed s).sup = s.sup
      ∧ (countAt n countConfirmed s).freeCount = s.freeCount
      ∧ (countAt n countConfirmed s).pending = s.pending := by
  unfold countAt countConfirmed; split <;> simp

@[simp] theorem countAt_relocated_keeps (n : Fin 1024) :
    (countAt n countRelocated s).line = s.line
      ∧ (countAt n countRelocated s).probe = s.probe
      ∧ (countAt n countRelocated s).curing = s.curing
      ∧ (countAt n countRelocated s).heat = s.heat ∧ (countAt n countRelocated s).bed = s.bed
      ∧ (countAt n countRelocated s).piece = s.piece
      ∧ (countAt n countRelocated s).runway = s.runway
      ∧ (countAt n countRelocated s).mgmt = s.mgmt
      ∧ (countAt n countRelocated s).notice = s.notice
      ∧ (countAt n countRelocated s).sup = s.sup
      ∧ (countAt n countRelocated s).freeCount = s.freeCount
      ∧ (countAt n countRelocated s).pending = s.pending := by
  unfold countAt countRelocated; split <;> simp

@[simp] theorem countAt_created_keeps (n : Fin 1024) :
    (countAt n countCreated s).line = s.line ∧ (countAt n countCreated s).probe = s.probe
      ∧ (countAt n countCreated s).curing = s.curing
      ∧ (countAt n countCreated s).heat = s.heat ∧ (countAt n countCreated s).bed = s.bed
      ∧ (countAt n countCreated s).piece = s.piece
      ∧ (countAt n countCreated s).runway = s.runway
      ∧ (countAt n countCreated s).mgmt = s.mgmt
      ∧ (countAt n countCreated s).notice = s.notice ∧ (countAt n countCreated s).sup = s.sup
      ∧ (countAt n countCreated s).freeCount = s.freeCount
      ∧ (countAt n countCreated s).pending = s.pending := by
  unfold countAt countCreated; split <;> simp

@[simp] theorem countAt_failed_keeps (n : Fin 1024) :
    (countAt n countFailed s).line = s.line ∧ (countAt n countFailed s).probe = s.probe
      ∧ (countAt n countFailed s).curing = s.curing ∧ (countAt n countFailed s).heat = s.heat
      ∧ (countAt n countFailed s).bed = s.bed ∧ (countAt n countFailed s).piece = s.piece
      ∧ (countAt n countFailed s).runway = s.runway ∧ (countAt n countFailed s).mgmt = s.mgmt
      ∧ (countAt n countFailed s).notice = s.notice ∧ (countAt n countFailed s).sup = s.sup
      ∧ (countAt n countFailed s).freeCount = s.freeCount
      ∧ (countAt n countFailed s).pending = s.pending := by
  unfold countAt countFailed; split <;> simp

@[simp] theorem failBinding_keeps (c : Fin 4) (n : Fin 1024) (r : HaltReason) (m : Nat) :
    (failBinding c n r m s).probe = s.probe ∧ (failBinding c n r m s).curing = s.curing
      ∧ (failBinding c n r m s).bed = s.bed ∧ (failBinding c n r m s).piece = s.piece
      ∧ (failBinding c n r m s).mgmt = s.mgmt ∧ (failBinding c n r m s).sup = s.sup
      ∧ (failBinding c n r m s).freeCount = s.freeCount
      ∧ (failBinding c n r m s).pending = s.pending := by
  simp [failBinding]

@[simp] theorem bindMoved_keeps (c : Fin 4) (m : Nat) :
    (bindMoved c m s).line = s.line ∧ (bindMoved c m s).probe = s.probe
      ∧ (bindMoved c m s).curing = s.curing ∧ (bindMoved c m s).heat = s.heat
      ∧ (bindMoved c m s).bed = s.bed ∧ (bindMoved c m s).stock = s.stock
      ∧ (bindMoved c m s).mgmt = s.mgmt ∧ (bindMoved c m s).notice = s.notice
      ∧ (bindMoved c m s).sup = s.sup ∧ (bindMoved c m s).freeCount = s.freeCount
      ∧ (bindMoved c m s).pending = s.pending := by
  simp [bindMoved]

/-- A binding moves one record and its stack, or halts the crane (R114). -/
@[simp] theorem bindMark_keeps (c : Fin 4) (o : CraneOrder) (n : Fin 1024) (m : Nat) :
    (bindMark c o n m s).probe = s.probe ∧ (bindMark c o n m s).curing = s.curing
      ∧ (bindMark c o n m s).bed = s.bed ∧ (bindMark c o n m s).mgmt = s.mgmt
      ∧ (bindMark c o n m s).sup = s.sup ∧ (bindMark c o n m s).freeCount = s.freeCount
      ∧ (bindMark c o n m s).pending = s.pending := by
  unfold bindMark; (repeat' split) <;> simp

@[simp] theorem bindLifted_keeps (c : Fin 4) (o : CraneOrder) (n : Fin 1024) :
    (bindLifted c o n s).probe = s.probe ∧ (bindLifted c o n s).curing = s.curing
      ∧ (bindLifted c o n s).bed = s.bed ∧ (bindLifted c o n s).mgmt = s.mgmt
      ∧ (bindLifted c o n s).sup = s.sup ∧ (bindLifted c o n s).freeCount = s.freeCount
      ∧ (bindLifted c o n s).pending = s.pending := by
  unfold bindLifted; split <;> simp

@[simp] theorem liftBySource_keeps (c : Fin 4) (o : CraneOrder) (x : Source) :
    (liftBySource c o x s).probe = s.probe ∧ (liftBySource c o x s).mgmt = s.mgmt
      ∧ (liftBySource c o x s).sup = s.sup ∧ (liftBySource c o x s).freeCount = s.freeCount
      ∧ (liftBySource c o x s).pending = s.pending := by
  unfold liftBySource; (repeat' split) <;> simp

/-- A lift taken by its source (R131). -/
@[simp] theorem takeLift_keeps (c : Fin 4) :
    (takeLift c s).probe = s.probe ∧ (takeLift c s).mgmt = s.mgmt
      ∧ (takeLift c s).sup = s.sup ∧ (takeLift c s).freeCount = s.freeCount
      ∧ (takeLift c s).pending = s.pending := by
  unfold takeLift; (repeat' split) <;> simp

/-! ### The line unit and time -/

@[simp] theorem pumpNotice_keeps :
    (pumpNotice s).probe = s.probe ∧ (pumpNotice s).curing = s.curing
      ∧ (pumpNotice s).heat = s.heat ∧ (pumpNotice s).bed = s.bed
      ∧ (pumpNotice s).piece = s.piece ∧ (pumpNotice s).stock = s.stock
      ∧ (pumpNotice s).runway = s.runway ∧ (pumpNotice s).mgmt = s.mgmt
      ∧ (pumpNotice s).sup = s.sup ∧ (pumpNotice s).freeCount = s.freeCount
      ∧ (pumpNotice s).pending = s.pending := by
  unfold pumpNotice; split <;> simp

/-- A port chooses its next frame: the line unit and the notice queue alone (R149, R159). -/
@[simp] theorem freePort_keeps (q : Port) :
    (freePort q s).probe = s.probe ∧ (freePort q s).curing = s.curing
      ∧ (freePort q s).heat = s.heat ∧ (freePort q s).bed = s.bed
      ∧ (freePort q s).piece = s.piece ∧ (freePort q s).stock = s.stock
      ∧ (freePort q s).runway = s.runway ∧ (freePort q s).mgmt = s.mgmt
      ∧ (freePort q s).sup = s.sup ∧ (freePort q s).freeCount = s.freeCount
      ∧ (freePort q s).pending = s.pending := by
  cases q <;> simp [freePort]

/-- A second runs timers, and the notice unit may offer a record (log entry 11). -/
@[simp] theorem tickSecond_keeps :
    (tickSecond s).probe = s.probe ∧ (tickSecond s).curing = s.curing
      ∧ (tickSecond s).bed = s.bed ∧ (tickSecond s).piece = s.piece
      ∧ (tickSecond s).stock = s.stock ∧ (tickSecond s).mgmt = s.mgmt
      ∧ (tickSecond s).freeCount = s.freeCount ∧ (tickSecond s).pending = s.pending := by
  unfold tickSecond; split <;> simp [tickTimers]

/-! ### Entry layouts (R170) -/

/-- Curve points are parsed exactly where the bytes hold them, six bytes each. -/
theorem parsePoints_length :
    ∀ (n : Nat) (l : Bytes) (x : List (Nat × Nat) × Bytes), parsePoints n l = some x →
      l.length = 6 * n + x.2.length
  | 0, l, x, h => by simp [parsePoints] at h; simp [← h]
  | n + 1, [], _, h => by simp [parsePoints] at h
  | n + 1, [_], _, h => by simp [parsePoints] at h
  | n + 1, [_, _], _, h => by simp [parsePoints] at h
  | n + 1, [_, _, _], _, h => by simp [parsePoints] at h
  | n + 1, [_, _, _, _], _, h => by simp [parsePoints] at h
  | n + 1, [_, _, _, _, _], _, h => by simp [parsePoints] at h
  | n + 1, a :: b :: c :: d :: e :: f :: rest, x, h => by
    simp only [parsePoints] at h
    split at h
    · rename_i ps tail hp
      have := parsePoints_length n rest _ hp
      cases h
      simp at this ⊢
      omega
    · cases h

/-- A schedule entry has the 23 bytes of its layout, present or absent (R50, R170). -/
theorem parseSchedule_length (l : Bytes) (e : Schedule) (h : parseSchedule l = some e) :
    l.length = 23 := by
  unfold parseSchedule at h
  split at h
  · rfl
  · cases h

/-- A mix entry has the length that its count byte asks for, present or absent (R40, R170). -/
theorem parseMix_length (l : Bytes) (x : Mix) (h : parseMix l = some x) :
    ∃ p d1 d0 n rest, l = p :: d1 :: d0 :: n :: rest ∧ rest.length = 6 * n.toNat + 6 := by
  unfold parseMix at h
  split at h
  · rename_i p d1 d0 n more
    refine ⟨p, d1, d0, n, more, rfl, ?_⟩
    split at h
    · rename_i hp
      simpa using parsePoints_length _ _ _ hp
    · cases h
  · cases h

end Sys2Proof.Machine
end

