-- ==== Sys2Proof/Tests/Slice0.lean ====
section
/-! SUPPORT. Tests: ill-formed commands refused by `Instr.wf`, worked values of the manual, and for every
statement that has hypotheses a state and operands that meet them, each clause at values of its own. -/

namespace Sys2Proof.Tests

set_option Elab.async false

open Sys2Proof Sys2Proof.Machine

/-! ### A small part -/

/-- A MGMT frame from station 200. -/
def mg (p : Bytes) : Frame :=
  { dst := 1#8, src := 200#8, kind := 0x0B#8, seq := 7#8, flags := 0#8, payload := p }

/-- A frame of a kind from a field station. -/
def fromField (src kind : Byte) (p : Bytes) : Frame :=
  { dst := 1#8, src := src, kind := kind, seq := 7#8, flags := 0#8, payload := p }

/-- A bed with panel 41 and heater 42. -/
def bedE : BedEntry :=
  { spanStart := 100, spanEnd := 400, panel := some 41#8, heater := some 42#8, channel := 2
    ratedPower := 1400, enabled := true }

/-- A mix of two points. -/
def mixE : Mix :=
  { present := true, datum := -100, points := [(20000, 80), (40000, 180)], release := 50
    dispatch := 100, maxTemp := 700 }

/-- A schedule. -/
def recipe : Recipe :=
  { presetMinutes := 5, presetFloor := 100, rampRate := 200, tmax := 600, holdMax := 30
    coolRate := 100, stripDelta := 100, coolMax := 30, lagLimit := 50, kp := 40, ki := 8
    heatCap := 900 }

/-- A line, its record and its order. -/
def line1 : OrderLine := { line := 1, mark := 7, mix := 0, cls := 1, length := 50, weight := 10 }
def piece1 : Piece := { linePiece 3 line1 with state := .onBed, castStamp := some 0#32 }
def order1 : CastOrder := { schedule := 0, heatClass := 2, policy := .resume, override := none }

/-- A configured part with bed 3, crane 0 (station 80, reader 84), area 0, mix 0, schedule 0, probe 0. -/
def part : State :=
  { setProbeEntry 0 { station := 57#8, channel := 0, role := .bed, bed := 3, enabled := true }
      (setMix 0 mixE (setSchedule 0 (some recipe) (setBedEntry 3 bedE
        (setCraneEntry 0 { station := some 80#8, hookReader := some 84#8, clearance := 50 }
          (modArea 0 (fun _ => { firstSlot := 0, count := 4, base := 6000, pitch := 40
                                 heightLimit := 2, classes := 7#8 })
            (setNoticeQueue [] State.reset)))))) with
    mgmt := { configured := true } }

/-- Bed 3 in a state, with its order, line and record. -/
def bedIn (st : BedState) : State :=
  setPieces [piece1] (modBedRec 3 (fun _ =>
    { state := st, order := some order1, lines := [line1] }) part)

/-- Bed 3 in a state, empty. -/
def bareIn (st : BedState) : State := modBedRec 3 (fun _ => { state := st }) part

/-- A panel report for bed 3. -/
def panel (event : Byte) : Frame := fromField 41#8 0x04#8 [3#8, event]

/-- A crane order with tag 5. -/
def carry (src : Source) (dst : Place) : CraneOrder :=
  { frame := mg [], crane := 0, tag := 5, mark := some 7, markLine := none, task := .carry src dst
    state := .active, span := some ⟨50, 7000⟩, loadedSpan := some ⟨50, 6050⟩ }

/-- A TRAVEL with tag 5. -/
def travel : CraneOrder :=
  { carry .hook (.bay 0) with task := .travel 500, mark := none, loadedSpan := none }

/-- Crane 0 at 200 with an order. -/
def holding (o : CraneOrder) (s : State) : State :=
  modCrane 0 (fun k =>
    { k with presence := .reporting, silence := 10, position := some 200
             envelope := some ⟨150, 250⟩, control := .ordered, reservation := some ⟨50, 7000⟩
             current := some o }) s

/-- A report of crane 0 from 200 with a tag. -/
def report (kind : Nat) (tag : Nat) (loaded : Bool) : Frame :=
  fromField 80#8 0x08#8 (enc1 kind ++ enc2 200 ++ enc2 tag ++ [if loaded then 1#8 else 0#8])

/-- The part with the record of mark 7 in stock on slot 2. -/
def stocked : State :=
  modSlot 2 (fun x => { x with stack := [7] }) (setPieces [{ piece1 with
    state := .inStock, location := .slot 2 1
    account := some { maturity := 30000, remainder := 0, estimate := 130 } }] part)

/-- A lane of n frames of a kind. -/
def lane (n : Nat) (kind : Byte) : List Frame :=
  (List.range n).map fun i => { fromField 9#8 kind [3#8] with flags := 1#8, seq := byteOf i }

/-- The part with lanes of port F. -/
def lanes (urgent normal : List Frame) : State :=
  modPort .fPort (fun u => { u with urgent := urgent, normal := normal }) part

/-- The part with n notices of a class and one of class 0 before them. -/
def noticed (n : Nat) (cls : Fin 4) : State :=
  setNoticeQueue ((List.range n).map fun i =>
    { cause := .dispatched, cls := if i = 1 then 0 else cls, subject := .part, value := i
      second := 0, minute := 0#32 }) part

/-! ### WellFormed -/

theorem test_wf_frames :
    Instr.wf (.frameReceiveP [1#8, 2#8]) = false
      ∧ Instr.wf (.frameReceiveF []) = false
      ∧ Instr.wf (.frameError .fPort (wireOf (mg [0x3C#8]))) = false
      ∧ Instr.wf (.frameReceiveP (wireOf (mg [0x3C#8]))) = true := by decide +kernel

theorem test_wf_kind :
    Instr.wf (.sample (mg [1#8])) = false ∧ Instr.wf (.heatAck (mg [])) = false
      ∧ Instr.wf (.order (mg [])) = false ∧ Instr.wf (.hookScan (mg [])) = false
      ∧ Instr.wf (.hookScan { fromField 84#8 0x0A#8 [] with dst := 251#8 }) = false
      ∧ Instr.wf (.hookScan (fromField 84#8 0x0A#8 (List.replicate 193 0#8))) = false := by
  decide +kernel

theorem test_wf_panel_and_report :
    Instr.wf (.panelStressed (panel 2#8)) = false ∧ Instr.wf (.panelCastDone (panel 1#8)) = false
      ∧ Instr.wf (.panelDetensionAsk (panel 4#8)) = false
      ∧ Instr.wf (.panelDetensioned (panel 5#8)) = false
      ∧ Instr.wf (.panelBedClear (panel 3#8)) = false
      ∧ Instr.wf (.reportPosition (report 2 0 false)) = false
      ∧ Instr.wf (.reportStarted (report 3 0 false)) = false
      ∧ Instr.wf (.reportLifted (report 4 0 false)) = false
      ∧ Instr.wf (.reportComplete (report 5 0 false)) = false
      ∧ Instr.wf (.reportAborted (report 1 0 false)) = false := by decide +kernel

theorem test_wf_requests :
    Instr.wf (.tableWriteBed (mg [1#8, 2#8])) = false
      ∧ Instr.wf (.tableWriteParameter (mg [2#8, 10#8])) = false
      ∧ Instr.wf (.bedOrder (mg [0x11#8])) = false ∧ Instr.wf (.restart (mg []) { strap := 1#8 }) = false
      ∧ Instr.wf (.clearAll (mg [0x46#8]) { strap := 1#8 }) = false
      ∧ Instr.wf (.powerUp { strap := 1#8, cut := some { steps := 5, stop := .resetn } }) = false
      ∧ Instr.wf (.resetnRelease { strap := 1#8, cut := some { steps := 5, stop := .powerLoss } }) = false
      ∧ Instr.wf (.unknownRequest (mg [0x3C#8])) = false
      ∧ Instr.wf (.unknownRequest (mg [0x77#8])) = true
      ∧ Instr.wf (.waitExpiry 0 65536) = false ∧ Instr.wf (.waitExpiry 0 65535) = true := by
  decide +kernel

/-! ### Worked values of the manual -/

/-- The check value of the CRC (12.1). -/
theorem test_crc_check_value :
    crc16 [0x31#8, 0x32#8, 0x33#8, 0x34#8, 0x35#8, 0x36#8, 0x37#8, 0x38#8, 0x39#8] = 0x29B1#16 := by
  decide +kernel

/-- A minute exactly at the datum and one below it leave the account as it was (R35). -/
theorem test_accrue_at_datum :
    accrue (-100) (-100) 500 3 = (500, 3) ∧ accrue (-101) (-100) 500 3 = (500, 3) := by decide

/-- The controller's worked figures: 12.5 truncated to 12, and no change (R66). -/
theorem test_controller :
    (controller 550 { recipe := recipe, target := 600, prevError := some 40, demand := 430 }).demand
        = 442
      ∧ (controller 575
          { recipe := recipe, target := 600, prevError := some 30, demand := 430 }).demand = 430 := by
  decide

/-- The minute that ends COOL in SOAK is still a COOL minute: its demand is the controller's, 100 and
trunc(8 × 250 / 64), at the target COOL left, 600 - 100 × 30 / 60; the next one's is 0 (R67). -/
theorem test_soak_entry_is_a_cool_minute :
    let t : Thermal :=
      { recipe := recipe, phase := .cool, clock := 29, coolStart := some 600, target := 552
        margin := some (-1), demand := 100 }
    let u := (sightedMinute 3 300 false t (bedIn .curing)).thermal 3
    u.phase = .soak ∧ u.target = 550 ∧ u.demand = 131
      ∧ ((sightedMinute 3 300 false u (bedIn .curing)).thermal 3).demand = 0 := by decide +kernel

/-- A word of the table spells no command, since no row has bits (log entry 12). -/
theorem test_no_row_has_bits : decodeTableWord 16 1 = none := rfl

/-! ### What meets the hypotheses of the statements -/

/-- The part with a notice station, a lane of n MGMT_REPLY frames and one of NOTICE. -/
def offering (n : Nat) (notice : List Frame) : State :=
  { noticed 3 2 with
    mgmt := { configured := true, noticeStation := some 200#8 }
    line := { part.line with portP := { part.line.portP with normal := lane n 0x0C#8 ++ notice } } }

theorem test_meets_IdleSecond :
    part.pending = [] ∧ part.running = true
      ∧ { part with sup := { part.sup with powered := false } }.running = false
      ∧ part.mgmt.noticeStation = none ∧ part.notice.queue = []
      ∧ (offering 0 (lane 1 0x0D#8)).running = true
      ∧ (∃ f ∈ (offering 0 (lane 1 0x0D#8)).line.portP.normal, f.kind = 0x0D#8)
      ∧ 16 ≤ (offering 16 []).line.portP.normal.length
      ∧ (offering 15 []).line.portP.normal.length < 16
      ∧ (∀ f ∈ (offering 15 []).line.portP.normal, f.kind ≠ 0x0D#8)
      ∧ (match (offering 15 []).notice.queue with
         | n :: post => decide (∀ m ∈ post, m.cls ≤ n.cls)
         | [] => false) = true := by decide +kernel

/-- The second of `offering 15` sends the oldest notice of class 2 with sequence 1, the sixteenth frame of
the lane (R159). -/
theorem test_second_offers_notice :
    (let t := tickSecond (offering 15 [])
     t.line.portP.normal.length = 16 ∧ t.line.seq = 1#8
       ∧ t.notice.queue.map (·.value) = [1, 2]
       ∧ t.line.portP.normal.getLast?.map (·.seq) = some 1#8) := by decide +kernel

theorem test_meets_WireFrames :
    (mg [0x3C#8]).wf = true ∧ judge (wireOf (mg [0x3C#8])) = .ok (mg [0x3C#8]) := by decide +kernel

theorem test_meets_TableEntries :
    parseBedEntry (encBedEntry bedE) = some bedE ∧ parseMix (encMix mixE) = some mixE
      ∧ mixE.present = true ∧ parseSchedule (encSchedule (some recipe)) = some (some recipe)
      ∧ parseCraneEntry [80#8, 0#8, 0#8, 50#8]
          = some { station := some 80#8, hookReader := none, clearance := 50 }
      ∧ parseRegion [0#8, 1#8, 0#8, 9#8, 1#8, 1#8]
          = some { start := 1, stop := 9, kind := .noLoad, enabled := true }
      ∧ parseBay [0xFF#8, 0xFF#8] = some none ∧ parseService [1#8] = some false := by decide +kernel

theorem test_meets_GoodFrameOnPortP :
    part.running = true
      ∧ judge (wireOf (mg [0x3C#8])) = .ok (mg [0x3C#8]) ∧ (mg [0x3C#8]).dst = part.sup.station
      ∧ part.line.intake.length < 4
      ∧ 4 ≤ { part with line := { part.line with intake := lane 4 9#8 } }.line.intake.length
      ∧ judge (wireOf (fromField 9#8 3#8 [])) = .ok (fromField 9#8 3#8 [])
      ∧ judge (wireOf { mg [] with kind := 6#8, dst := 80#8 })
          = .ok { mg [] with kind := 6#8, dst := 80#8 }
      ∧ (part.craneEntry 0).station = some 80#8
      ∧ judge (wireOf { mg [] with dst := 0#8 }) = .ok { mg [] with dst := 0#8 }
      ∧ (∀ c, (part.craneEntry c).station ≠ some 0#8)
      ∧ part.line.portF.forward.length < 8
      ∧ 8 ≤ (modPort .fPort (fun u => { u with forward := lane 8 9#8 }) part).line.portF.forward.length := by
  decide +kernel

theorem test_meets_GoodFrameOnPortF :
    judge (wireOf { fromField 9#8 3#8 [] with flags := 1#8 })
        = .ok { fromField 9#8 3#8 [] with flags := 1#8 }
      ∧ judge (wireOf (fromField 1#8 3#8 [])) = .ok (fromField 1#8 3#8 [])
      ∧ judge (wireOf (fromField 9#8 3#8 [])) = .ok (fromField 9#8 3#8 [])
      ∧ judge (wireOf (fromField 9#8 0x0B#8 [5#8])) = .ok (fromField 9#8 0x0B#8 [5#8])
      ∧ judge (wireOf (fromField 9#8 0x77#8 [])) = .ok (fromField 9#8 0x77#8 [])
      ∧ judge (wireOf { fromField 9#8 0x0A#8 [] with dst := 0#8 })
          = .ok { fromField 9#8 0x0A#8 [] with dst := 0#8 }
      ∧ part.fieldStation 0#8 = false ∧ part.fieldStation 42#8 = true
      ∧ judge (wireOf { fromField 9#8 3#8 [] with dst := 42#8 })
          = .ok { fromField 9#8 3#8 [] with dst := 42#8 }
      ∧ part.line.portP.forward.length < 8
      ∧ 8 ≤ (modPort .pPort (fun u => { u with forward := lane 8 9#8 }) part).line.portP.forward.length := by
  decide +kernel

theorem test_meets_FailedFrameCounted :
    judge [1#8, 2#8] = .error .gap ∧ (part.port .fPort).consecutive = 0
      ∧ (part.port .fPort).faultLimit = 4
      ∧ (let u := (modPort .fPort (fun u => { u with consecutive := 3 }) part).port .fPort
         u.consecutive < u.faultLimit ∧ u.faultLimit ≤ min 255 (u.consecutive + 1))
      ∧ ¬((part.port .fPort).consecutive < 4 ∧ 4 ≤ min 255 ((part.port .fPort).consecutive + 1)) := by
  decide +kernel

theorem test_meets_ArbiterChooses :
    part.operating = true ∧ part.notice.queue = []
      ∧ ((lanes (lane 1 9#8) []).port .fPort).urgent = lane 1 9#8
      ∧ (let u := (modPort .pPort (fun u =>
            { u with forward := lane 1 3#8, normal := lane 1 12#8, run := 3 }) part).port .pPort
         u.urgent = [] ∧ u.forward ≠ [] ∧ u.normal ≠ [] ∧ u.run < 4)
      ∧ (let u := (modPort .pPort (fun u =>
            { u with forward := lane 1 3#8, normal := lane 1 12#8, run := 4 }) part).port .pPort
         u.forward ≠ [] ∧ u.normal ≠ [] ∧ 4 ≤ u.run) := by decide +kernel

theorem test_meets_StoppedAndPassThrough :
    (let s : State := { part with sup := { part.sup with resetHeld := true } }
     s.running = false ∧ s.operating = false)
      ∧ ofPins .curingMinute = false
      ∧ (let s : State := { part with sup := { part.sup with kind := .passThrough } }
         s.running = false ∧ s.operating = true ∧ s.sup.kind = .passThrough)
      ∧ judge [] = .error .gap ∧ judge (wireOf (mg [])) = .ok (mg []) := by decide +kernel

theorem test_meets_HaltPlacement :
    (lanes (lane 3 9#8) []).line.portF.urgent.length < 4
      ∧ 4 ≤ (lanes (lane 4 9#8) []).line.portF.urgent.length
      ∧ (lanes (lane 4 9#8) (lane 2 5#8 ++ lane 1 2#8)).line.portF.normal
          = lane 2 5#8 ++ ({ fromField 9#8 2#8 [3#8] with flags := 1#8, seq := 0#8 } :: [])
      ∧ (∀ x ∈ lane 15 5#8, x.kind ≠ 2#8) ∧ (lane 15 5#8).length < 16 ∧ 16 ≤ (lane 16 5#8).length
      ∧ (∀ y ∈ lane 16 9#8, y.kind = 9#8 ∧ y.kind ≠ 2#8)
      ∧ lane 16 9#8 = (lane 16 9#8).dropLast ++ (lane 16 9#8).drop 15 := by decide +kernel

theorem test_meets_RaisedCauseRecorded :
    (part.cause .pieceReady).masked = true ∧ (part.cause .overheat).masked = false
      ∧ part.notice.queue.length < 32 ∧ (part.port .pPort).normal.length < 16
      ∧ 16 ≤ ((lanes [] (lane 16 5#8)).port .fPort).normal.length := by decide +kernel

theorem test_meets_FullNoticeQueue :
    (noticed 32 3).notice.queue.length = 32 ∧ ((noticed 32 3).cause .overheat).masked = false
      ∧ (∃ x ∈ (noticed 32 3).notice.queue, x.cls < ((noticed 32 3).cause .overheat).cls)
      ∧ (∀ m ∈ (noticed 32 3).notice.queue, ((noticed 32 3).cause .dispatched).cls ≤ m.cls)
      ∧ (firstNotice (noticed 32 3).notice.queue).map (·.value) = some 0 := by decide +kernel

theorem test_meets_CauseAndTablesSet :
    part.running = true ∧ part.replyRoom ∧ (5#8 : Byte) = byteOf (Cause.overheat.place.val + 1)
      ∧ (3#8 : Byte) = byteOf (3 : Fin 4).val ∧ 28 < (29#8 : Byte).toNat ∧ part.notice.queue = [] := by
  decide +kernel

theorem test_meets_reads :
    part.running = true ∧ part.replyRoom ∧ (24#8 : Byte).toNat = 24
      ∧ ([0x2D#8] ++ enc4 7 : Bytes) = 0x2D#8 :: enc4 7
      ∧ (part.tableEntry 1#8 3).isSome = true ∧ part.tableEntry 1#8 24 = none := by decide +kernel

/-- A TABLE_WRITE of an entry. -/
def write (table index : Byte) (entry : Bytes) : Bytes := [1#8, table, index] ++ entry

theorem test_meets_TablesWritten :
    (writeOperands tMix 16 parseMix (write 3#8 0#8 (encMix mixE))).isSome = true
      ∧ (writeOperands tSchedule 16 parseSchedule
          (write 4#8 15#8 (0#8 :: List.replicate 22 0xFF#8))).isSome = true
      ∧ write 3#8 0#8 [0#8, 9#8, 9#8, 0#8, 1#8, 2#8, 3#8, 4#8, 5#8, 6#8]
          = [0x01#8, 3#8, 0#8, 0#8, 9#8, 9#8, 0#8] ++ [1#8, 2#8, 3#8, 4#8, 5#8, 6#8]
      ∧ ([1#8, 2#8, 3#8, 4#8, 5#8, 6#8] : Bytes).length = 6 * (0#8 : Byte).toNat + 6
      ∧ (0#8 : Byte) = byteOf (0 : Fin 16).val ∧ (15#8 : Byte) = byteOf (15 : Fin 16).val
      ∧ (writeOperands tRegion 8 parseRegion (write 8#8 7#8 (encRegion { stop := 9 }))).isSome = true
      ∧ (writeOperands tBay 4 parseBay (write 9#8 3#8 (enc2 20000))).isSome = true
      ∧ (writeOperands tCrane 4 parseCraneEntry (write 7#8 0#8 [80#8, 0#8, 0#8, 200#8])).isSome = true
      ∧ part.noneWaiting
      ∧ (writeOperands tArea 16 parseArea
          (write 5#8 0#8 (enc2 0 ++ enc2 4 ++ enc2 6000 ++ enc2 40 ++ [2#8, 7#8, 0#8]))).isSome = true
      ∧ (writeOperands tService 128 parseService (write 6#8 127#8 [1#8])).isSome = true := by
  decide +kernel

theorem test_meets_BedAndProbeWritten :
    (writeOperands tBed 24 parseBedEntry (write 1#8 3#8 (encBedEntry bedE))).isSome = true
      ∧ (∃ e, writeOperands tProbeMap 128 parseProbeEntry
            (write 2#8 127#8 [57#8, 3#8, 2#8, 0#8, 0#8, 0#8, 0#8]) = some (127, e)
          ∧ e.station ≠ part.sup.station ∧ e.enabled = false) := by
  refine ⟨by decide +kernel, { station := 57#8, channel := 3, role := .yard }, ?_, ?_, rfl⟩ <;>
    decide +kernel

/-- An absent entry is taken with any fields at the length of the layout, and at no other length (R170). -/
theorem test_absent_entry_length :
    parseMix [0#8, 9#8, 9#8, 1#8, 1#8, 2#8, 3#8, 4#8, 5#8, 6#8] = none
      ∧ parseMix ([0#8, 9#8, 9#8, 1#8] ++ List.replicate 12 0xFF#8) = some {}
      ∧ parseMix [0#8] = none ∧ parseSchedule [0#8] = none
      ∧ parseSchedule (0#8 :: List.replicate 22 0xFF#8) = some none
      ∧ parseSchedule (0#8 :: List.replicate 23 0#8) = none := by decide +kernel

/-- The part with a consecutive count of 3 on port F and a lane of n replies. -/
def counted (n : Nat) : State :=
  { offering n [] with line := { (offering n []).line with
      portF := { part.line.portF with consecutive := 3 } }
                       notice := part.notice }

theorem test_meets_ParameterWritten :
    part.running = true ∧ part.replyRoom
      ∧ write 10#8 (byteOf (0 : Fin 6).val) (enc1 60)
          = [0x01#8, 10#8, byteOf (0 : Fin 6).val] ++ enc1 60
      ∧ (60 : Nat) < 256 ∧ (601 : Nat) < 65536
      ∧ (counted 14).replyRoom ∧ (counted 15).replyRoom
      ∧ ((counted 15).port .fPort).consecutive = 3 ∧ ((counted 15).port .fPort).faultLimit = 4
      ∧ (raise .lineFault (.port .fPort) 3 (counted 14)).replyRoom
      ∧ ¬(raise .lineFault (.port .fPort) 3 (counted 15)).replyRoom := by decide +kernel

/-- A fault limit written to the count raises LINE_FAULT, one above it does not (R141); the reply
that finds the lane filled by the NOTICE raises INSERT_OVERFLOW (R147). -/
theorem test_lowered_fault_limit :
    ((tableWriteParameter (mg [0x01#8, 10#8, 5#8, 3#8]) (counted 14)).cause .lineFault).flag = true
      ∧ ((tableWriteParameter (mg [0x01#8, 10#8, 5#8, 4#8]) (counted 14)).cause .lineFault).flag = false
      ∧ ((tableWriteParameter (mg [0x01#8, 10#8, 5#8, 3#8]) (counted 15)).cause .insertOverflow).flag
          = true := by decide +kernel

theorem test_meets_ReadingScreened :
    (part.probeRec 0).forced = false ∧ (part.probeRec 0).state = .stale
      ∧ (let s := modProbe 0 (fun r => { r with value := some 300, state := .fresh, jumps := 2 }) part
         (s.probeRec 0).state = .fresh ∧ (s.probeRec 0).value = some 300
           ∧ 2 ≤ (s.probeRec 0).jumps) := by decide +kernel

theorem test_meets_ProbesFedAndAged :
    (enc1 1 ++ ([(0, -400)] : List (Fin 8 × Int)).flatMap (fun x => enc1 x.1.val ++ encS2 x.2))
        = [1#8, 0#8, 0xFE#8, 0x70#8]
      ∧ ([0#8] : Bytes).length ≠ 3 * (1#8 : Byte).toNat ∧ part.running = true
      ∧ (part.probeEntry 0).enabled = true ∧ (part.probeEntry 127).enabled = false
      ∧ 128 ≤ (128#8 : Byte).toNat := by decide +kernel

theorem test_meets_StrengthCurve :
    mixE.present = true ∧ curveRises ((0, 0) :: mixE.points) = true
      ∧ mixE.estimate 20000 = 80 ∧ mixE.estimate 39999 = 179 ∧ mixE.estimate 40000 = 180 := by
  decide +kernel

/-- A FRESH probe gives bed 3 its cold temperature. -/
def warm (st : BedState) : State :=
  modProbe 0 (fun r => { r with value := some 300, age := 0, state := .fresh }) (bedIn st)

/-- Bed 3 in CURING at 300 with a thermal part changed. -/
def curing (f : Thermal → Thermal) : State :=
  modThermal 3 (fun t => f { t with recipe := recipe }) (warm .curing)

theorem test_meets_CuringMinuteTaken :
    (warm .curing).running = true ∧ (warm .curing).watched 3 = true
      ∧ (warm .curing).coldTemp 3 = some 300 ∧ (warm .curing).hotTemp 3 = some 300
      ∧ (warm .curing).bedDatum 3 = some (-100) ∧ (warm .curing).curingBed 3 = true
      ∧ (bedIn .curing).coldTemp 3 = none ∧ (bedIn .curing).hotTemp 3 = none
      ∧ (warm .stripping).watched 3 = true ∧ (warm .stripping).curingBed 3 = false
      ∧ (warm .vacant).watched 3 = false
      ∧ ((curing fun t => { t with coolPending := true }).thermal 3).coolPending = true
      ∧ ((curing fun t => { t with waiting := .pause }).thermal 3).waiting = .pause
      ∧ ((curing fun t => { t with waiting := .resume, pause := .paused }).thermal 3).pause = .paused
      ∧ min 10 (((modThermal 3 (fun t => { t with blindCount := 9 }) (bedIn .curing)).thermal 3).blindCount
          + 1) = 10
      ∧ (let t : Thermal := { recipe := recipe, phase := .ramp, rampStart := some 180, target := 293 }
         t.phase = .ramp ∧ t.rampStart = some 180 ∧ (242 : Int) < t.target - t.recipe.lagLimit
           ∧ t.target - t.recipe.lagLimit ≤ 243 ∧ (600 : Int) + 50 < 651) := by decide +kernel

/-- What meets the clauses on phases: PRESET before and at its last minute, HOLD before and at its longest
with the margin met and not, COOL that ends by the strip delta or the cool maximum, SOAK. -/
theorem test_meets_phases :
    (let t : Thermal := { recipe := recipe, margin := some (-1) }
     min 65535 ({ t with clock := 3 }.clock + 1) < t.recipe.presetMinutes
       ∧ t.recipe.presetMinutes ≤ min 65535 ({ t with clock := 4 }.clock + 1)
       ∧ (599 : Int) < t.recipe.tmax ∧ t.recipe.tmax ≤ (600 : Int)
       ∧ min 65535 ({ t with clock := 28 }.clock + 1) < t.recipe.holdMax
       ∧ t.recipe.holdMax ≤ min 65535 ({ t with clock := 29 }.clock + 1)
       ∧ ¬(∀ x ∈ t.margin, 0 ≤ x) ∧ (∀ x ∈ { t with margin := some 0 }.margin, 0 ≤ x)
       ∧ (∀ x ∈ { t with margin := none }.margin, 0 ≤ x)
       ∧ (∃ x ∈ (some 200 : Option Int), 300 - x ≤ t.recipe.stripDelta)
       ∧ ¬(∃ x ∈ (some 199 : Option Int), 300 - x ≤ t.recipe.stripDelta)
       ∧ ¬(t.recipe.coolMax ≤ min 65535 ({ t with clock := 28 }.clock + 1))
       ∧ t.recipe.coolMax ≤ min 65535 ({ t with clock := 29 }.clock + 1)) := by decide +kernel

/-- A bed in SOAK with its margin met passes to RELEASABLE at a sighted minute (R65), and the tenth blind
minute withholds its heat (R68). -/
theorem test_soak_done_and_withheld :
    (let t := treatBed 3 (curing fun t => { t with phase := .soak, maturity := 30000 })
     (t.bedRec 3).state = .releasable ∧ (t.cause .bedReleasable).flag = true
       ∧ (t.heatRec 3).state = .stopping)
      ∧ (let t := treatBed 3 (modThermal 3 (fun t => { t with blindCount := 9, demand := 40 })
          (bedIn .curing))
         (t.thermal 3).demand = 0 ∧ (t.cause .heatWithheld).flag = true) := by decide +kernel

theorem test_meets_PauseResumeCool :
    (bedIn .curing).bedRequest (mg [0x13#8, 3#8]) 0x13#8 3
      ∧ (bedIn .curing).bedRequest (mg [0x14#8, 3#8]) 0x14#8 3
      ∧ (bedIn .curing).bedRequest (mg [0x15#8, 3#8]) 0x15#8 3
      ∧ (bedIn .curing).curingBed 3 = true ∧ (bedIn .vacant).curingBed 3 = false
      ∧ ((bedIn .curing).thermal 3).phase ≠ .cool ∧ 24 ≤ (24#8 : Byte).toNat := by decide +kernel

/-- Beds 3 and 5 in CURING and DRIVEN, with a budget of 1000: bed 3 asks for 140 and holds nothing, bed 5
asks for nothing and holds 700 at duty 500. -/
def twoBeds : State :=
  let s := modBedRec 5 (fun _ => { state := .curing, order := some order1 })
    (setBedEntry 5 { bedE with heater := some 44#8, channel := 1 } (bedIn .curing))
  let t := modHeat 3 (fun h => { h with state := .driven, request := 140 })
    (modHeat 5 (fun h => { h with state := .driven, grant := 700, duty := 500 }) s)
  { t with heat := { t.heat with budget := 1000 } }

/-- One duty falls and one rises: bed 5's frame comes before bed 3's, 140 kW of 1400 is 100 per mille, and
the counter's next two values are taken (R80). -/
theorem test_falling_before_rising :
    (recompute twoBeds).line.portF.normal.map (fun g => (g.seq, g.payload))
      = [(1#8, [5#8, 1#8, 0#8, 0#8]), (2#8, [3#8, 2#8, 0#8, 100#8])] := by decide +kernel

/-- What meets the clauses on a recomputation: a bed newly short, a queue with room, a lane with room and
one without. -/
theorem test_meets_recomputation :
    (let s := { twoBeds with heat := { twoBeds.heat with budget := 100 } }
     (s.heatRec 3).short = false ∧ ((recompute s).heatRec 3).short = true
       ∧ (s.cause .budgetShort).masked = false ∧ s.mgmt.noticeStation = none
       ∧ s.notice.queue.length + 1 ≤ 32 ∧ 2 ≤ 16 - s.line.portF.normal.length)
      ∧ 16 - (lanes [] (lane 15 2#8)).line.portF.normal.length < 2 := by decide +kernel

theorem test_meets_BudgetAndShed :
    part.running = true ∧ (mg (0x20#8 :: enc2 60001)).payload = 0x20#8 :: enc2 60001
      ∧ (65535 : Nat) < 65536 ∧ (recompute twoBeds).replyRoom
      ∧ (1000 : Nat) = twoBeds.heat.budget := by decide +kernel

/-- The recomputed allocation is one that a ceiling already held leaves alone. -/
theorem test_meets_held_ceiling :
    (let s := recompute twoBeds
     s.replyRoom ∧ ∀ b, (s.heatRec b).grant = s.grantOf b
       ∧ (s.heatRec b).short = decide ((s.heatRec b).grant < (s.heatRec b).request)
       ∧ ((s.heatRec b).state = .driven →
           (s.heatRec b).duty = (s.heatRec b).grant * 1000 / (s.bedEntry b).ratedPower)) := by
  decide +kernel

/-- The final frame of a bed that leaves CURING comes after the frames of the other beds (R76; log entry
8), with room for more; a full lane drops it. -/
theorem test_final_heat_frame :
    ((stopHeat 3 (modBedRec 3 (fun r => { r with state := .stripping }) twoBeds)).line.portF.normal.map
        (fun g => (g.seq, g.payload)))
      = [(1#8, [5#8, 1#8, 0#8, 0#8]), (2#8, [3#8, 2#8, 0#8, 0#8])]
      ∧ 16 ≤ (lanes [] (lane 16 2#8)).line.portF.normal.length := by decide +kernel

/-- Bed 3 DRIVEN with its refresh timer run out, and with some misses and a wait for duty 9 that has `left`
seconds to run. -/
def driven (misses left : Nat) : State :=
  modHeat 3 (fun h => { h with state := .driven, duty := 9, misses := misses, refresh := 0
                               wait := some { duty := 9, left := left, seq := 1#8 } }) (bedIn .curing)

theorem test_meets_HeaterExchange :
    (mg [3#8, 2#8, 0#8, 9#8, 1#8]).payload = [3#8, 2#8, 0#8, 9#8, 1#8]
      ∧ (3#8 : Byte) = byteOf (3 : Fin 24).val ∧ ((driven 2 0).bedEntry 3).enabled = true
      ∧ ((driven 2 0).bedEntry 3).heater = some 42#8 ∧ ((driven 2 0).bedEntry 3).channel.val = 2
      ∧ ((driven 2 0).heatRec 3).wait = some { duty := 9, left := 0, seq := 1#8 }
      ∧ (∀ w ∈ ((driven 2 3).heatRec 3).wait, 0 < w.left)
      ∧ (part.heatRec 3).wait = none ∧ (part.heatRec 3).state = .idle
      ∧ ((driven 2 0).heatRec 3).state ≠ .idle ∧ ((driven 2 0).heatRec 3).refresh = 0
      ∧ 0 < ((offerHeat 3 9 (driven 2 0)).heatRec 3).refresh ∧ (driven 2 0).ringRoom
      ∧ ((driven 2 0).heatRec 3).misses = 2 ∧ ((driven 3 0).heatRec 3).misses ≠ 2
      ∧ ((driven 2 0).bedEntry 0).enabled = false := by decide +kernel

/-- A refresh after a frame that has started its timer again sends no second frame (R81). -/
theorem test_refresh_restarted :
    (refreshBed 3 (offerHeat 3 9 (driven 2 0))).line.portF.normal.length = 1
      ∧ (refreshBed 3 (driven 2 0)).line.portF.normal.length = 1 := by decide +kernel

theorem test_meets_PanelReportRefused :
    part.running = true ∧ part.ringRoom
      ∧ (∀ b : Fin 24, (panel 9#8).payload ≠ [byteOf b.val, 1#8])
      ∧ (∀ b : Fin 24, (fromField 41#8 4#8 []).payload ≠ [byteOf b.val, 5#8]) := by decide +kernel

theorem test_meets_panel_reports :
    (∀ e ∈ ([1#8, 2#8, 3#8, 4#8, 5#8] : List Byte), (bedIn .stressed).panelTaken (panel e) e 3)
      ∧ (bedIn .stressed).noneWaiting ∧ ((bedIn .vacant).bedRec 3).state = .vacant
      ∧ ((bareIn .stressed).bedRec 3).order = none ∧ (bareIn .stressed).panelTaken (panel 2#8) 2#8 3
      ∧ ((bedIn .stressed).bedRec 3).order ≠ none ∧ ((bedIn .stressed).bedRec 3).castSeen = none
      ∧ ((modBedRec 3 (fun r => { r with castSeen := some 0#32 }) (bareIn .stressed)).bedRec 3).castSeen
          ≠ none := by decide +kernel

theorem test_meets_StressedTaken :
    (holding (carry .hook (.slot 2)) (bedIn .vacant)).panelTaken (panel 1#8) 1#8 3
      ∧ (holding (carry .hook (.slot 2)) (bedIn .vacant)).carryOver 3 0
          = some (carry .hook (.slot 2))
      ∧ (∀ c, (bedIn .vacant).carryOver 3 c = none) := by decide +kernel

theorem test_meets_PermitsAndDetension :
    (∀ st ∈ ([.releasable, .releasing, .curing, .stripping, .vacant, .stressed, .clearing]
        : List BedState), (bedIn st).panelTaken (panel 3#8) 3#8 3 ∧ (bedIn st).noneWaiting
          ∧ (bedIn st).panelTaken (panel 4#8) 4#8 3)
      ∧ part.running = true := by decide +kernel

theorem test_meets_BedClearTaken :
    (bedIn .stripping).panelTaken (panel 5#8) 5#8 3 ∧ (bedIn .stripping).liveFromBed 3 = false
      ∧ (holding (carry (.bed 3) (.slot 2)) (bedIn .stripping)).liveFromBed 3 = true
      ∧ (holding (carry (.bed 3) (.slot 2)) (bedIn .stripping)).panelTaken (panel 5#8) 5#8 3
      ∧ (bedIn .clearing).noneWaiting := by decide +kernel

/-- A BED_ORDER for bed 3 with one line of a length. -/
def bedOrderBytes (len : Nat) : Bytes :=
  [0x10#8, 3#8, 0#8, 2#8, 0#8, 0xFF#8, 0xFF#8, 1#8] ++ enc4 7 ++ [1#8] ++ enc2 len ++ enc2 10

theorem test_meets_BedOrderTaken :
    (parseBedOrder (bedOrderBytes 300)).isSome = true
      ∧ (parseBedOrder (bedOrderBytes 300)).bind (bareIn .stressed).bedOrderArgs
          = some (3, order1, [{ line1 with length := 300 }])
      ∧ (parseBedOrder (bedOrderBytes 301)).bind part.bedOrderArgs = none
      ∧ (match part.bedOrderCheck 3 order1 [line1] with
         | .ok r => decide (r = recipe) | .error _ => false) = true
      ∧ (match (bedIn .curing).bedOrderCheck 3 order1 [line1] with
         | .ok _ => false | .error e => decide (e = .state)) = true
      ∧ part.noneWaiting ∧ State.reset.mgmt.configured = false := by decide +kernel

theorem test_meets_OrderDropped :
    (bedIn .stressed).bedRequest (mg [0x11#8, 3#8]) 0x11#8 3
      ∧ ((bedIn .stressed).bedRec 3).order ≠ none ∧ ((bareIn .vacant).bedRec 3).order = none
      ∧ (bedIn .curing).bedRequest (mg [0x12#8, 3#8]) 0x12#8 3 ∧ (bedIn .curing).noneWaiting := by
  decide +kernel

theorem test_meets_PieceMinuteAges :
    stocked.running = true ∧ stocked.directoryLaw ∧ stocked.piece.recs ≠ [] := by decide +kernel

/-- The record of mark 7 at large. -/
def atLarge : State :=
  setPieces [{ piece1 with
    state := .atLarge, location := .none, flags := { unrated := true }
    account := some { maturity := 0, remainder := 0, estimate := 0 } }] part

theorem test_meets_PieceDeclared :
    atLarge.mgmt.configured = true ∧ atLarge.noneWaiting
      ∧ (atLarge.findPiece 7).map (·.state) = some .atLarge ∧ atLarge.findPiece 8 = none
      ∧ (stocked.findPiece 7).map (·.state) = some .inStock
      ∧ atLarge.placementCheck 1 2 = none ∧ atLarge.placementCheck 3 2 = some .classNotAccepted
      ∧ atLarge.placementCheck 1 1023 = some .slotUnknown := by decide +kernel

theorem test_meets_PieceRatedOrDropped :
    (atLarge.findPiece 7).map (·.flags.unrated) = some true
      ∧ (stocked.findPiece 7).map (·.flags.unrated) = some false
      ∧ stocked.pieceBusy 7 = false ∧ (holding (carry (.slot 2) (.slot 3)) stocked).pieceBusy 7 = true
      ∧ (stocked.findPiece 7).map (·.location) = some (.slot 2 1)
      ∧ ((bedIn .curing).findPiece 7).map (·.location) = some (.bed 3)
      ∧ (atLarge.findPiece 7).map (·.location) = some .none ∧ stocked.noneWaiting := by decide +kernel

/-- A drop closes the stack: of marks 7, 8 and 9 on slot 2 the second goes and the third is at level 2
(R98, R104). -/
theorem test_drop_closes_stack :
    (let at_ := fun (m level : Nat) => { piece1 with
       number := m, mark := m, state := .inStock, location := .slot 2 level : Piece }
     let s := modSlot 2 (fun x => { x with stack := [7, 8, 9] })
       (setPieces [at_ 7 1, at_ 8 2, at_ 9 3] part)
     let t := pieceDrop (mg (0x2C#8 :: enc4 8)) s
     (t.slot 2).stack = [7, 9] ∧ (t.findPiece 9).map (·.location) = some (.slot 2 2)
       ∧ (t.findPiece 7).map (·.location) = some (.slot 2 1) ∧ t.findPiece 8 = none) := by
  decide +kernel

/-- A census order of crane 0 from slot 2. -/
def census : CraneOrder := { carry (.slot 2) (.slot 3) with binding := some .unbound }

theorem test_meets_CensusBinding :
    ((holding census stocked).crane 0).current = some census
      ∧ (holding census stocked).areaOf (2 : Fin 1024).val = some 0
      ∧ (holding census stocked).busyElsewhere 0 7 = false
      ∧ (modCrane 1 (fun k => { k with current := some census })
          (holding census stocked)).busyElsewhere 0 7 = true
      ∧ ((holding census stocked).slot 2).stack.getLast? = some 7
      ∧ ((holding census stocked).slot 1).stack.getLast? ≠ some 7
      ∧ (holding census stocked).findPiece 8 = none
      ∧ (holding census stocked).piece.recs.length < 2048 := by decide +kernel

theorem test_meets_CensusBinding_full :
    2048 ≤ (setPieces (List.replicate 2048 piece1) (holding census part)).piece.recs.length :=
  le_of_eq (List.length_replicate (n := 2048) (a := piece1)).symm

theorem test_meets_CensusAndRelease :
    part.running = true ∧ part.replyRoom ∧ part.noneWaiting ∧ (part.area 0).count ≠ 0
      ∧ (part.area 1).count = 0 ∧ part.picksFrom 0 = false
      ∧ (holding census part).picksFrom 0 = true ∧ (part.crane 0).control ≠ .halted
      ∧ ((modCrane 0 (fun k => { k with control := .halted }) part).crane 0).control = .halted := by
  decide +kernel

/-- An ORDER to crane 0: a CARRY of mark 7 from slot 2 to slot 3. -/
def orderFrame : Frame :=
  { mg (enc2 5 ++ [0#8, 2#8] ++ enc4 7 ++ [0xFF#8, 2#8] ++ enc2 2 ++ [2#8] ++ enc2 3 ++ [0#8, 0#8])
    with kind := 6#8, dst := 80#8 }

/-- Crane 0 at 200, with no order. -/
def ready : State :=
  modCrane 0 (fun k => { k with presence := .reporting, position := some 200
                                envelope := some ⟨150, 250⟩ }) stocked

/-- The order as it is held. -/
def heldOrder : CraneOrder :=
  { frame := orderFrame, crane := 0, tag := 5, mark := some 7, markLine := none
    task := .carry (.slot 2) (.slot 3) }

theorem test_meets_OrderOutcomes :
    ready.running = true ∧ ready.noneWaiting ∧ 3 ≤ orderFrame.payload.length
      ∧ ready.mgmt.configured = true
      ∧ (parseOrder orderFrame.payload).bind ready.formCheck
          = some (.carry (.slot 2) (.slot 3), none)
      ∧ (parseOrder orderFrame.payload).bind (ready.orderCrane orderFrame) = some 0
      ∧ ready.liveOrder 0 5 = none ∧ ready.trial heldOrder = .admitted
      ∧ stocked.trial heldOrder = .wait ∧ part.trial { heldOrder with task := .travel 5 } = .wait
      ∧ (modCrane 0 (fun k => { k with control := .halted }) ready).trial heldOrder
          = .refused .craneHalted
      ∧ parseOrder [0#8] = none
      ∧ (parseOrder orderFrame.payload).bind (ready.orderCrane { orderFrame with dst := 9#8 }) = none
      ∧ 0 < ready.runway.waitLimit ∧ ready.replyRoom ∧ ready.ringRoom := by decide +kernel

/-- What meets the clauses on a queue that holds orders: an older one of the crane, four of it, sixteen of
another, and another crane's beside an order that takes no claim. -/
theorem test_meets_OrderOutcomes_queue :
    (let young := { heldOrder with tag := 9 }
     let other := { heldOrder with tag := 9, crane := 1 }
     (setWaiting [young] ready).trial heldOrder = .admitted
       ∧ (setWaiting [young] ready).liveOrder 0 5 = none
       ∧ [young].filter (fun w => w.crane = 0) ≠ []
       ∧ 4 ≤ ((List.replicate 4 young).filter fun w => w.crane = 0).length
       ∧ 16 ≤ (List.replicate 16 other).length
       ∧ (setWaiting [other] ready).trial { heldOrder with task := .travel 5, mark := none }
           = .admitted
       ∧ [other].filter (fun w => w.crane = 0) = []
       ∧ (Task.travel 5).destSlot = none) := by decide +kernel

/-- The outcomes of a trial, each by the first test of R125 that fails: the admission itself, then tests 1
to 12 in turn. -/
theorem test_meets_AdmissionTests :
    ready.trial heldOrder = .admitted
      ∧ (modCrane 0 (fun k => { k with control := .halted }) ready).trial heldOrder
          = .refused .craneHalted
      ∧ (modCrane 0 (fun k => { k with hook := some 9 }) ready).trial heldOrder
          = .refused .hookOccupied
      ∧ stocked.trial heldOrder = .wait
      ∧ (setRegion 0 { start := 0, stop := 150, kind := .closed, enabled := true } ready).trial heldOrder
          = .refused .closedRegion
      ∧ ready.trial { heldOrder with mark := some 8 } = .refused .pieceUnknown
      ∧ (modCrane 1 (fun k => { k with hook := some 7 }) ready).trial heldOrder
          = .refused .pieceNotHere
      ∧ ready.trial { heldOrder with task := .carry (.slot 1) (.slot 3) } = .refused .pieceNotHere
      ∧ ready.trial { heldOrder with task := .carry .hook (.slot 3) } = .refused .pieceNotHere
      ∧ ready.trial { heldOrder with task := .carry (.slot 2) (.bay 0) } = .refused .notDispatchable
      ∧ ready.trial { heldOrder with task := .carry (.slot 2) (.slot 9) } = .refused .slotUnknown
      ∧ (setService 0 false ready).trial heldOrder = .refused .slotOutOfService
      ∧ (modArea 0 (fun a => { a with dispatchOnly := true }) ready).trial heldOrder
          = .refused .areaDispatchOnly
      ∧ (modArea 0 (fun a => { a with classes := 5#8 }) ready).trial heldOrder
          = .refused .classNotAccepted
      ∧ (modSlot 3 (fun x => { x with claims := 2 }) ready).trial heldOrder = .refused .stackFull
      ∧ (modCrane 0 (fun k => { k with control := .ordered }) ready).trial heldOrder = .wait
      ∧ (modCrane 1 (fun k => { k with envelope := some ⟨250, 300⟩ }) ready).trial heldOrder = .wait
      ∧ (setRegion 0 { start := 6000, stop := 6050, kind := .noLoad, enabled := true } ready).trial
          heldOrder = .wait := by decide +kernel

/-- Bed 3 in a state with crane 0 at 200 and no order. -/
def readyBed (st : BedState) : State :=
  modCrane 0 (fun k => { k with presence := .reporting, position := some 200
                                envelope := some ⟨150, 250⟩ }) (bedIn st)

/-- Tests 5, 6, 10 and 13 of a CARRY from a bed: it waits for a permit, is refused otherwise, and is
admitted in STRIPPING. -/
theorem test_meets_AdmissionTests_bed :
    (let o := { heldOrder with task := .carry (.bed 3) (.slot 2) }
     (readyBed .stripping).trial o = .admitted ∧ (readyBed .releasable).trial o = .wait
       ∧ (readyBed .releasing).trial o = .wait
       ∧ (readyBed .curing).trial o = .refused .bedNotStripping
       ∧ (readyBed .clearing).trial o = .refused .bedNotStripping
       ∧ ready.trial { heldOrder with task := .carry (.bed 3) (.slot 2) } = .refused .pieceNotHere) := by
  decide +kernel

/-- Crane 0 HALTED and without an order, with waiting orders. -/
def releasing (l : List CraneOrder) (s : State) : State :=
  setWaiting l (modCrane 0 (fun k => { k with control := .halted }) s)

/-- What meets the clauses on the pass at CRANE_RELEASE, its order admitted, refused, left and skipped, and
on a repeat of a waiting, an active and another order. -/
theorem test_meets_AdmissionPass :
    (let free := fun l s => modCrane 0 (fun k => { k with control := .free }) (releasing l s)
     (releasing [heldOrder] ready).running = true ∧ (releasing [heldOrder] ready).replyRoom
       ∧ (releasing [heldOrder] ready).runway.opportunities = 0
       ∧ ((releasing [heldOrder] ready).crane 0).control = .halted
       ∧ ((releasing [heldOrder] ready).crane 0).current = none
       ∧ (free [heldOrder] ready).trial heldOrder = .admitted
       ∧ (free [] stocked).trial heldOrder = .wait
       ∧ (free [] ready).trial { heldOrder with mark := some 8 } = .refused .pieceUnknown)
      ∧ ({ heldOrder with tag := 6 }).crane = heldOrder.crane
      ∧ (parseOrder orderFrame.payload).map (·.tag) = some 5
      ∧ (∀ k, ((setWaiting [heldOrder] ready).crane 0).current ≠ some k)
      ∧ heldOrder.frame.src = orderFrame.src ∧ heldOrder.state = .waiting
      ∧ (carry (.slot 2) (.slot 3)).state ≠ .waiting
      ∧ (carry (.slot 2) (.slot 3)).frame.payload.take 15 ≠ orderFrame.payload.take 15 := by
  refine ⟨by decide +kernel, by decide +kernel, by decide +kernel, ?_, by decide +kernel,
    by decide +kernel, by decide +kernel, by decide +kernel⟩
  intro k h
  have hc : ((setWaiting [heldOrder] ready).crane 0).current = none := by decide +kernel
  rw [hc] at h
  cases h

/-- The order waiting at CRANE_RELEASE is admitted with grant number 1 and leaves the queue, the younger one
finds the crane ORDERED and waits on (R128). -/
theorem test_pass_at_release :
    (let young := { travel with tag := 6, state := .waiting }
     let t := craneRelease (mg [0x1E#8, 0#8]) (releasing [heldOrder, young] ready)
     t.runway.waiting = [young] ∧ t.runway.grantNumber = 1#8
       ∧ (t.crane 0).control = .ordered ∧ t.runway.opportunities = 0) := by decide +kernel

theorem test_meets_PositionTaken :
    parseReport (report 1 5 false).payload
        = some { kind := 1, position := 200, tag := 5, loaded := false }
      ∧ part.craneOf (report 1 5 false).src = some 0 ∧ part.craneOf 9#8 = none
      ∧ parseReport [6#8, 0#8, 0#8, 0#8, 0#8, 0#8] = none ∧ part.noneWaiting
      ∧ ((⟨150, 250⟩ : Interval).within ⟨160, 7000⟩) = false := by decide +kernel

theorem test_meets_reports :
    (holding (carry (.bed 3) (.slot 2)) (bedIn .stripping)).orderReport (report 2 5 false) 2 0
        (carry (.bed 3) (.slot 2)) 200 false
      ∧ (holding (carry (.bed 3) (.slot 2)) (bedIn .stripping)).orderReport (report 3 5 true) 3 0
        (carry (.bed 3) (.slot 2)) 200 true
      ∧ (holding (carry (.slot 2) (.slot 3)) stocked).orderReport (report 3 5 true) 3 0
        (carry (.slot 2) (.slot 3)) 200 true
      ∧ (holding travel part).orderReport (report 4 5 false) 4 0 travel 200 false
      ∧ (holding { carry .hook (.slot 2) with lifted := true } part).orderReport (report 5 5 true) 5 0
        { carry .hook (.slot 2) with lifted := true } 200 true := by decide +kernel

theorem test_meets_late_start :
    (modCrane 0 (fun k => { k with control := .halted }) (holding travel part)).keepsClear 0 200
      ∧ ready.keepsClear 0 200 ∧ (ready.crane 0).control = .free
      ∧ (∀ x ∈ (ready.crane 0).current, x.tag ≠ 6) ∧ (holding travel part).keepsClear 0 200
      ∧ ¬(holding travel part).keepsClear 0 99 ∧ (holding travel part).keepsClear 0 100 := by
  decide +kernel

theorem test_meets_StartedAndLifted :
    (carry (.bed 3) (.slot 2)).lifted = false
      ∧ ((bedIn .stripping).findPiece 7).isSome = true ∧ (stocked.findPiece 7).isSome = true
      ∧ (carry (.slot 2) (.slot 3)).binding = none
      ∧ report 3 5 false ∉ (holding census stocked).line.handed := by decide +kernel

theorem test_meets_census_lift :
    (holding census stocked).orderReport (report 3 5 true) 3 0 census 200 true
      ∧ census.binding = some .unbound ∧ census.lifted = false ∧ census.mark = some 7
      ∧ (let o := { census with mark := none }
         (holding o stocked).orderReport (report 3 5 true) 3 0 o 200 true)
      ∧ stocked.areaOf (2 : Fin 1024).val = some 0
      ∧ (holding census stocked).orderReport (report 4 5 false) 4 0 census 200 false
      ∧ (holding census stocked).orderReport (report 5 5 true) 5 0 census 200 true := by
  decide +kernel

/-- A LIFTED and an ABORTED of a tag that the crane does not hold are counted stray (R131, R133). -/
theorem test_stray_tags :
    (takeReport (report 3 6 true) takeLifted (holding travel part)).runway.strayReports = 1
      ∧ (takeReport (report 5 6 true) takeAborted (holding travel part)).runway.strayReports = 1
      ∧ parseReport (report 5 6 true).payload
          = some { kind := 5, position := 200, tag := 6, loaded := true } := by decide +kernel

/-- LIFTED of an UNBOUND census order binds its mark, or halts the crane UNSCANNED (R115). -/
theorem test_census_lift :
    ((takeReport (report 3 5 true) takeLifted (holding census stocked)).crane 0).hook = some 7
      ∧ ((takeReport (report 3 5 true) takeLifted
          (holding { census with mark := none } stocked)).crane 0).lastHalt = some .unscanned := by
  decide +kernel

theorem test_meets_CompletionTaken :
    (let o := { carry .hook (.slot 2) with lifted := true }
     o.lifted = true ∧ o.piece = some 7 ∧ (stocked.findPiece 7).isSome = true)
      ∧ (stocked.cause .dispatched).masked = false ∧ stocked.notice.queue.length < 32
      ∧ stocked.mgmt.noticeStation = none ∧ (stocked.cause .hookMismatch).masked = false
      ∧ (let o := { census with binding := some .failed }
         (holding o stocked).orderReport (report 4 5 false) 4 0 o 200 false
           ∧ o.binding = some .failed)
      ∧ stocked.line.portF.urgent.length < 4 ∧ ready.keepsClear 0 200
      ∧ (∀ x ∈ (ready.crane 0).current, x.tag ≠ 5) := by decide +kernel

/-- The part with mark 7 on the hook of crane 0. -/
def hooked : State :=
  modCrane 0 (fun k => { k with hook := some 7 }) (setPieces [{ piece1 with
    state := .onHook, location := .crane 0
    account := some { maturity := 30000, remainder := 0, estimate := 130 } }] part)

/-- What meets the clauses of ABORTED: lifted, bound in census and not lifted, not lifted, UNBOUND, FAILED. -/
theorem test_meets_AbortTaken :
    (∀ o ∈ [{ carry (.slot 2) (.slot 3) with lifted := true }, { census with binding := some (.bound 7) },
        { census with binding := some .failed }, census, carry (.slot 2) (.slot 3)],
      (holding o hooked).orderReport (report 5 5 false) 5 0 o 200 false)
      ∧ { census with binding := some (.bound 7) }.piece = some 7
      ∧ (holding census hooked).findPiece 7 ≠ none
      ∧ (holding (carry (.bed 3) (.slot 2)) (bedIn .stripping)).orderReport (report 5 5 false) 5 0
          (carry (.bed 3) (.slot 2)) 200 false
      ∧ ready.keepsClear 0 200 ∧ (∀ x ∈ (ready.crane 0).current, x.tag ≠ 6) := by decide +kernel

/-- A slot of two levels has room for a returned piece under one claim of another order, and has none
under two; the order's own claim on its source slot is released before the test (R110). -/
theorem test_abort_room :
    (let back := { carry (.slot 2) (.slot 2) with lifted := true }
     let full := modSlot 2 (fun x => { x with stack := [9], claims := 1 }) hooked
     let busy := modSlot 2 (fun x => { x with claims := 2 }) hooked
     ((takeReport (report 5 5 false) takeAborted (holding back full)).slot 2).stack = [9, 7]
       ∧ ((takeReport (report 5 5 false) takeAborted
           (holding { carry (.slot 2) (.slot 3) with lifted := true } busy)).findPiece 7).map (·.state)
             = some .atLarge) := by decide +kernel

theorem test_meets_HookScanJudged :
    (holding (carry .hook (.slot 2)) part).craneOfReader 84#8 = some 0
      ∧ part.craneOfReader 9#8 = none ∧ (carry .hook (.slot 2)).state = .active
      ∧ (carry .hook (.slot 2)).binding = none ∧ (carry .hook (.slot 2)).mark = some 7
      ∧ { census with binding := some (.bound 9) }.binding = some (.bound 9)
      ∧ ((holding census stocked).crane 0).current = some census ∧ census.state = .active
      ∧ census.task = .carry (.slot 2) (.slot 3) ∧ census.binding = some .unbound
      ∧ { census with binding := some .failed }.binding = some .failed
      ∧ (part.crane 0).current = none ∧ (holding (carry .hook (.slot 2)) part).noneWaiting := by
  decide +kernel

/-- A census order bound to mark 7 at LIFTED completes without UNSCANNED where any scan was seen for it, one
of another mark too, and with it where none was (R115). -/
theorem test_census_scan_seen :
    let bound := takeReport (report 3 5 true) takeLifted (holding census stocked)
    let unscanned := fun s : State =>
      ((takeReport (report 4 5 false) takeComplete s).findPiece 7).map (·.flags.unscanned)
    unscanned bound = some true
      ∧ unscanned (takeScan (fromField 84#8 0x0A#8 (enc4 9)) bound) = some false
      ∧ unscanned (takeScan (fromField 84#8 0x0A#8 (enc4 7)) bound) = some false := by decide +kernel

theorem test_meets_RunwayExpiries :
    (let s := modCrane 0 (fun k => { k with silence := 0 }) ready
     (s.crane 0).presence = .reporting ∧ (s.crane 0).silence = 0 ∧ s.noneWaiting)
      ∧ 0 < ((holding travel part).crane 0).silence ∧ (part.crane 0).presence ≠ .reporting
      ∧ heldOrder.waitTimer = 0 ∧ (carry .hook (.slot 2)).startTimer = 0
      ∧ (let o := { heldOrder with waitTimer := 1 }
         0 < o.waitTimer ∧ (setWaiting [o] ready).runway.waiting = [] ++ o :: [])
      ∧ (setWaiting [heldOrder] ready).runway.waiting = [heldOrder]
      ∧ (setWaiting [heldOrder] ready).runway.opportunities = 0 ∧ ready.replyRoom
      ∧ (let young := { heldOrder with tag := 6 }
         [heldOrder, young, { heldOrder with tag := 7 }]
             = [heldOrder] ++ young :: [{ heldOrder with tag := 7 }]
           ∧ (∀ w ∈ [heldOrder], w.crane ≠ 0 ∨ w.tag ≠ young.tag)
           ∧ stocked.trial heldOrder = .wait ∧ ready.trial heldOrder = .admitted
           ∧ ready.trial { heldOrder with mark := some 8 } = .refused .pieceUnknown)
      ∧ ((holding { carry .hook (.slot 2) with state := .admitted } part).crane 0).current
          = some { carry .hook (.slot 2) with state := .admitted } := by decide +kernel

theorem test_meets_starts :
    part.sup.powered = true ∧ part.running = true
      ∧ { part with sup := { part.sup with powered := false } }.sup.resetHeld = false
      ∧ { part with sup := { part.sup with resetHeld := true } }.sup.resetHeld = true
      ∧ (mg [0x46#8]).payload = [0x46#8] ∧ (mg [0x47#8]).payload = [0x47#8]
      ∧ 1 ≤ (250#8 : Byte).toNat ∧ (250#8 : Byte).toNat ≤ 250 ∧ 250 < (251#8 : Byte).toNat
      ∧ part.sup.backupLost = false
      ∧ ({ strap := 1#8, cut := some { steps := 4, stop := .resetn } } : StartPins).cut
          = some { steps := 4, stop := .resetn } := by
  decide +kernel

/-- A cold start that power cuts off after any of its steps leaves BACKUP_LOST latched, and the next start is
cold; a complete one clears the latch (R167). -/
theorem test_cut_cold_start :
    (∀ k ∈ [0, 1, 2, 3, 4], (startPart
        { strap := 1#8, cut := some { steps := k, stop := .powerLoss } } true part).sup.backupLost = true)
      ∧ (startPart { strap := 1#8 } true part).sup.backupLost = false
      ∧ (startPart { strap := 1#8 } false (setPowered true (startPart
          { strap := 1#8, cut := some { steps := 2, stop := .powerLoss } } true part))).sup.kind
          = .cold := by decide +kernel

/-- A start into pass-through sets the stale survey (R28), and POWER_LOSS loses a permit timer (R165). -/
theorem test_survey_and_permit :
    (startPart { strap := 0#8 } false (setSurvey false part)).probe.survey = true
      ∧ ((powerFalls (modBedRec 3 (fun r => { r with permit := 6 }) (bedIn .releasing))).bedRec 3).permit
          = 0 := by decide +kernel

/-- A part in use has the laws of the line, of heat, of cures, of the directory, of the queue and of the
permits, and it answers a step. -/
theorem test_meets_laws :
    ready.lineBounded ∧ ready.ringMarked ∧ ready.attnFollows ∧ ready.heatLaw ∧ ready.directoryLaw
      ∧ ready.queueLaw ∧ ready.permitsIdle ∧ ready.settled ∧ ready.runwayLaw := by decide +kernel

theorem test_meets_yard_law : part.yardLaw := by
  have hs : ∀ n, part.slot n = {} := fun n => tget_tableOf 1024 ({} : Slot) n
  have hc : ∀ c : Fin 4, (part.crane c).current = none := by decide +kernel
  refine ⟨by decide +kernel, fun n => ?_, fun n => ?_⟩
  · unfold State.slotFits
    rw [hs n]
    cases part.areaOf n.val <;> simp [Slot.load]
  · rw [hs n]
    simp [State.ordersTo, hc]

theorem test_meets_cure_and_ground_laws :
    ready.cureLaw ∧ ready.groundLaw := by
  refine ⟨⟨by decide +kernel, by decide +kernel⟩, ?_⟩
  intro c o h
  have hc : ∀ c : Fin 4, (ready.crane c).current = none := by decide +kernel
  rw [hc c] at h
  exact absurd h (by simp)

end Sys2Proof.Tests
end

section
/-!
The screening of a matched reading (R25): when a reading is invalid, when it is near the record's value, and
what each of the four steps does.
-/
namespace Sys2Proof.ProbeProofs

open Sys2Proof Sys2Proof.Machine

section
variable {s : State} {i : Fin 128} {v : Int}

theorem readingInvalid_iff (r : ProbeRec) (v : Int) :
    readingInvalid r v = true ↔ r.forced = true ∨ v < -400 ∨ 1200 < v := by
  simp [readingInvalid]

theorem readingNear_iff {r : ProbeRec} {w : Int} (hw : r.value = some w) (v : Int) :
    readingNear r v = true ↔ -100 ≤ v - w ∧ v - w ≤ 100 := by
  simp only [readingNear, hw, decide_eq_true_eq]
  omega

/-- Step 1 of R25. -/
theorem screenReading_of_invalid (hinv : readingInvalid (s.probeRec i) v = true) :
    screenReading i v s = raise .probeFault (.probe i) v s := by
  simp [screenReading, hinv]

/-- Step 2 of R25. -/
theorem screenReading_of_stale (hval : readingInvalid (s.probeRec i) v = false)
    (hstale : (s.probeRec i).state = .stale) :
    screenReading i v s = acceptReading i v s := by
  simp [screenReading, hval, hstale]

/-- Step 3 of R25; a STALE record accepts the reading as well. -/
theorem screenReading_of_near (hval : readingInvalid (s.probeRec i) v = false)
    (hnear : readingNear (s.probeRec i) v = true) :
    screenReading i v s = acceptReading i v s := by
  simp [screenReading, hval, hnear]

/-- Step 4 of R25: a jump counts until two have been counted, and the next one is accepted. -/
theorem screenReading_of_jump (hval : readingInvalid (s.probeRec i) v = false)
    (hfresh : (s.probeRec i).state = .fresh) (hfar : readingNear (s.probeRec i) v = false) :
    screenReading i v s =
      if (s.probeRec i).jumps < 2 then modProbe i (fun r => { r with jumps := r.jumps + 1 }) s
      else acceptReading i v s := by
  simp [screenReading, hval, hfresh, hfar]

end

/-- Settles O20: the four steps of R25, one lemma each. -/
theorem readingScreened : Obligations.ReadingScreened := by
  intro s i v r accepted
  refine ⟨fun hinv => screenReading_of_invalid ((readingInvalid_iff _ _).2 hinv), ?_⟩
  intro hforced hlo hhi
  have hval : readingInvalid r v = false := by
    rw [Bool.eq_false_iff, ne_eq, readingInvalid_iff]
    rintro (hforced' | hout)
    · exact Bool.false_ne_true (hforced.symm.trans hforced')
    · omega
  refine ⟨screenReading_of_stale hval, ?near, ?jump⟩
  case near =>
    intro w _ hw hge hle
    exact screenReading_of_near hval ((readingNear_iff hw v).2 ⟨hge, hle⟩)
  case jump =>
    intro w hfresh hw hdiff
    have hfar : readingNear r v = false := by
      rw [Bool.eq_false_iff, ne_eq, readingNear_iff hw]
      omega
    have hjump := screenReading_of_jump hval hfresh hfar
    exact ⟨fun hfew => hjump.trans (if_pos hfew),
      fun hmany => hjump.trans (if_neg (Nat.not_lt.2 hmany))⟩

end Sys2Proof.ProbeProofs
end

section
/-!
Maturity and strength (chapter 3): the accrual step (R35), and the estimate on a mix curve (R42). The estimate
is followed along the curve: a curve read from one of its points on (`curveFrom_eq_from_point`) gives its value
everywhere, and on one segment the value rises from the strength of its first point to at most that of its
second.
-/
namespace Sys2Proof.MaturityProofs

open Sys2Proof Sys2Proof.Machine

/-! ### The accrual step (R35) -/

section
variable (temp datum : Int) (m r : Nat)

theorem accrue_fst :
    (accrue temp datum m r).1 = min 9999999 (m + ((temp - datum).toNat + r) / 6) := rfl

theorem accrue_snd : (accrue temp datum m r).2 = ((temp - datum).toNat + r) % 6 := rfl

/-- Step 1 of R35. -/
theorem excess_eq :
    ((temp - datum).toNat : Int) = if temp - datum < 0 then 0 else temp - datum := by
  split <;> omega

end

/-- Settles O22: the model's excess, a natural number, is that of step 1 of R35. -/
theorem accrualStep : Obligations.AccrualStep := by
  intro temp datum m r d
  have hd : ((temp - datum).toNat : Int) = d := excess_eq temp datum
  rw [accrue_fst, accrue_snd, ← hd]
  push_cast
  exact ⟨rfl, rfl⟩

/-! ### One segment of a curve (R42) -/

/-- The line from point `a` to point `b`, rounded down. -/
def segment (a b : Nat × Nat) (m : Nat) : Nat := a.2 + (m - a.1) * (b.2 - a.2) / (b.1 - a.1)

section
variable {a b : Nat × Nat} {m n : Nat}

theorem le_segment : a.2 ≤ segment a b m := Nat.le_add_right _ _

theorem segment_le (hs : a.2 ≤ b.2) (hm : m ≤ b.1) : segment a b m ≤ b.2 := by
  have hpart : (m - a.1) * (b.2 - a.2) / (b.1 - a.1) ≤ b.2 - a.2 :=
    Nat.div_le_of_le_mul (Nat.mul_le_mul_right _ (Nat.sub_le_sub_right hm _))
  unfold segment
  omega

theorem segment_mono (hmn : m ≤ n) : segment a b m ≤ segment a b n := by
  unfold segment
  gcongr

end

/-! ### The estimate along a curve (R42) -/

section
variable {a b c : Nat × Nat} {rest post : List (Nat × Nat)} {m n : Nat}

theorem curveRises_cons_cons :
    curveRises (a :: b :: rest) = true ↔ a.1 < b.1 ∧ a.2 ≤ b.2 ∧ curveRises (b :: rest) = true := by
  simp [curveRises, and_assoc]

/-- The first point of a rising curve has the least maturity. -/
theorem head_maturity_le (h : curveRises (a :: rest) = true) (hc : c ∈ a :: rest) : a.1 ≤ c.1 := by
  induction rest generalizing a with
  | nil => rw [List.mem_singleton.1 hc]
  | cons b rest ih =>
    obtain ⟨hab, -, hrest⟩ := curveRises_cons_cons.1 h
    rcases List.mem_cons.1 hc with rfl | hc
    · exact le_rfl
    · exact hab.le.trans (ih hrest hc)

theorem curveFrom_of_lt (h : m < b.1) : curveFrom a.1 a.2 m (b :: rest) = segment a b m :=
  if_pos h

theorem curveFrom_of_le (h : b.1 ≤ m) :
    curveFrom a.1 a.2 m (b :: rest) = curveFrom b.1 b.2 m rest :=
  if_neg (Nat.not_lt.2 h)

/-- From the maturity of a point of the curve on, the points before it do not matter. -/
theorem curveFrom_eq_from_point {pre : List (Nat × Nat)} (h : curveRises (a :: rest) = true)
    (hsplit : a :: rest = pre ++ c :: post) (hc : c.1 ≤ m) :
    curveFrom a.1 a.2 m rest = curveFrom c.1 c.2 m post := by
  induction pre generalizing a rest with
  | nil =>
    cases hsplit
    rfl
  | cons p pre ih =>
    obtain ⟨rfl, hrest⟩ := List.cons.inj hsplit
    cases rest with
    | nil => simp at hrest
    | cons b rest =>
      obtain ⟨-, -, hrises⟩ := curveRises_cons_cons.1 h
      have hbc : b.1 ≤ c.1 := head_maturity_le hrises (by simp [hrest])
      exact (curveFrom_of_le (hbc.trans hc)).trans (ih hrises hrest)

theorem le_curveFrom (h : curveRises (a :: rest) = true) : a.2 ≤ curveFrom a.1 a.2 m rest := by
  induction rest generalizing a with
  | nil => exact le_rfl
  | cons b rest ih =>
    obtain ⟨-, hs, hrest⟩ := curveRises_cons_cons.1 h
    rcases Nat.lt_or_ge m b.1 with hm | hm
    · exact curveFrom_of_lt hm ▸ le_segment
    · exact curveFrom_of_le hm ▸ hs.trans (ih hrest)

theorem curveFrom_mono (h : curveRises (a :: rest) = true) (hmn : m ≤ n) :
    curveFrom a.1 a.2 m rest ≤ curveFrom a.1 a.2 n rest := by
  induction rest generalizing a with
  | nil => exact le_rfl
  | cons b rest ih =>
    obtain ⟨-, hs, hrest⟩ := curveRises_cons_cons.1 h
    rcases Nat.lt_or_ge n b.1 with hn | hn
    · rw [curveFrom_of_lt (hmn.trans_lt hn), curveFrom_of_lt hn]
      exact segment_mono hmn
    · rw [curveFrom_of_le hn]
      rcases Nat.lt_or_ge m b.1 with hm | hm
      · rw [curveFrom_of_lt hm]
        exact (segment_le hs hm.le).trans (le_curveFrom hrest)
      · rw [curveFrom_of_le hm]
        exact ih hrest

theorem lastStrength_concat (l : List (Nat × Nat)) : lastStrength (l ++ [c]) = c.2 := by
  simp [lastStrength]

/-- The estimate has risen no further than it stands at the last point. -/
theorem curveFrom_le_lastStrength (h : curveRises (a :: rest) = true) :
    curveFrom a.1 a.2 m rest ≤ lastStrength (a :: rest) := by
  obtain ⟨pre, last, hsplit⟩ := (List.eq_nil_or_concat' (a :: rest)).resolve_left (by simp)
  calc curveFrom a.1 a.2 m rest
      ≤ curveFrom a.1 a.2 (max m last.1) rest := curveFrom_mono h (le_max_left ..)
    _ = last.2 := curveFrom_eq_from_point h hsplit (le_max_right ..)
    _ = lastStrength (a :: rest) := by rw [hsplit, lastStrength_concat]

end

theorem estimate_of_present {x : Mix} (hx : x.present = true) (m : Nat) :
    x.estimate m = curveFrom 0 0 m x.points :=
  if_pos hx

/-- Settles O23: the mix's curve is followed from the implied origin. -/
theorem strengthCurve : Obligations.StrengthCurve := by
  intro x hx hrises
  simp only [estimate_of_present hx]
  refine ⟨?last, ?between, ?rise, ?bound⟩
  case last =>
    intro m pre last hsplit hm
    exact curveFrom_eq_from_point hrises hsplit hm
  case between =>
    intro m pre a b post hsplit ha hb
    exact (curveFrom_eq_from_point hrises hsplit ha).trans (curveFrom_of_lt hb)
  case rise => exact fun m n hmn => curveFrom_mono hrises hmn
  case bound => exact fun m => curveFrom_le_lastStrength hrises

end Sys2Proof.MaturityProofs
end

section
/-!
BED_PAUSE, BED_RESUME and BED_COOL (4.4). A request that names a bed comes down to its act on that bed
(`forBed_of_bedRequest`) or to BAD_ARG (`forBed_of_large`); the tables of R57 and R58 are stated row by row on
the outcome functions, and a row that keeps the pending request leaves the thermal part as it was
(`pend_waiting`).
-/
namespace Sys2Proof.CuringRequestProofs

open Sys2Proof Sys2Proof.Machine

/-! ### A request that names a bed -/

theorem idx?_val {n : Nat} (i : Fin n) : idx? n i.val = some i := dif_pos i.isLt

theorem idx?_of_le {n i : Nat} (h : n ≤ i) : idx? n i = none := dif_neg (Nat.not_lt.2 h)

theorem byteOf_toNat {n : Nat} (h : n < 256) : (byteOf n).toNat = n := by
  rw [byteOf, BitVec.toNat_ofNat, Nat.mod_eq_of_lt h]

section
variable {s : State} {f : Frame} {b : Fin 24} {code : Byte} {act : Fin 24 → State → State}

@[simp] theorem takeIntake_thermal : (takeIntake f s).thermal = s.thermal := by
  funext i
  simp [State.thermal]

@[simp] theorem takeIntake_bedRec : (takeIntake f s).bedRec = s.bedRec := by
  funext i
  simp [State.bedRec]

@[simp] theorem takeIntake_curingBed : (takeIntake f s).curingBed = s.curingBed := by
  funext i
  rw [State.curingBed, takeIntake_bedRec, State.curingBed]

/-- The intake queue and the thermal parts are changed apart from each other. -/
theorem modThermal_takeIntake (g : Thermal → Thermal) :
    modThermal b g (takeIntake f s) = takeIntake f (modThermal b g s) := by
  unfold takeIntake
  split <;> simp_all [modThermal, State.thermal]

theorem modThermal_of_fixed {g : Thermal → Thermal} (h : g (s.thermal b) = s.thermal b) :
    modThermal b g s = s := by
  have hset : tset s.curing.thermal b (s.thermal b) = s.curing.thermal :=
    Vector.set_getElem_self b.isLt
  rw [modThermal, h, hset]

/-- A reply to a request taken, with room in the lane (R147, R152). -/
theorem reply_takeIntake (hroom : s.replyRoom) (st : Status) (contents : Bytes) :
    reply f code st contents (takeIntake f s) = answered f code st contents s := by
  have hlane : (takeIntake f s).laneRoom .pPort = true := by
    simpa [State.laneRoom, State.port] using hroom
  rw [reply, offerNormal_room _ _ _ hlane]
  unfold takeIntake
  split <;> simp_all [answered, withPlantFrame, modPort, plantFrame, State.station]

/-- A reply to a request taken that changed a thermal part. -/
theorem reply_modThermal_takeIntake (hroom : s.replyRoom) (st : Status) (g : Thermal → Thermal) :
    reply f code st [] (modThermal b g (takeIntake f s)) =
      answered f code st [] (modThermal b g s) := by
  have hroom' : (modThermal b g s).replyRoom := by simpa using hroom
  rw [modThermal_takeIntake, reply_takeIntake hroom']

theorem forBed_of_bedRequest (h : s.bedRequest f code b) :
    whenRunning (fun t => forBed f code act (takeIntake f t)) s = .next (act b (takeIntake f s)) := by
  obtain ⟨hrun, -, hpayload⟩ := h
  have hbed : idx? 24 (byteOf b.val).toNat = some b := by
    rw [byteOf_toNat (by omega), idx?_val]
  simp only [whenRunning_running _ _ hrun, forBed, hpayload, hbed]

theorem forBed_of_large {x y : Byte} (hx : 24 ≤ x.toNat) (hrun : s.running = true)
    (hroom : s.replyRoom) (hpayload : f.payload = [y, x]) :
    whenRunning (fun t => forBed f code act (takeIntake f t)) s =
      .next (answered f code .badArg [] s) := by
  simp only [whenRunning_running _ _ hrun, forBed, hpayload, idx?_of_le hx, reply_takeIntake hroom]

end

/-! ### The pending request (4.2) -/

/-- The pending request of a bed replaced. -/
def pend (b : Fin 24) (p : PendingPause) (s : State) : State :=
  modThermal b (fun t => { t with waiting := p }) s

theorem pend_waiting (b : Fin 24) (s : State) : pend b (s.thermal b).waiting s = s :=
  modThermal_of_fixed rfl

/-! ### The rows of the tables -/

section
variable {curing : Bool} {t : Thermal}

theorem pauseOutcome_refused (h : curing = false ∨ t.coolPending = true) :
    pauseOutcome curing t = (.state, t.waiting) := by
  rcases h with h | h <;> simp [pauseOutcome, h]

/-- The rows of R57 for a bed in CURING with no cool pending. -/
theorem pauseOutcome_curing (hcuring : curing = true) (hcool : t.coolPending = false) :
    (t.pause = .running → t.waiting = .none → pauseOutcome curing t = (.ok, .pause))
    ∧ (t.pause = .paused → t.waiting = .resume → pauseOutcome curing t = (.ok, .none))
    ∧ (t.waiting = .pause ∨ (t.pause = .paused ∧ t.waiting = .none) →
        pauseOutcome curing t = (.ok, t.waiting)) := by
  refine ⟨?starts, ?withdraws, ?keeps⟩
  case starts =>
    intro hp hw
    simp [pauseOutcome, hcuring, hcool, hp, hw]
  case withdraws =>
    intro hp hw
    simp [pauseOutcome, hcuring, hcool, hp, hw]
  case keeps =>
    rintro (hw | ⟨hp, hw⟩)
    · simp [pauseOutcome, hcuring, hcool, hw]
    · simp [pauseOutcome, hcuring, hcool, hp, hw]

theorem resumeOutcome_refused (h : curing = false) :
    resumeOutcome curing t = (.state, t.waiting) := by
  simp [resumeOutcome, h]

/-- The rows of R58 for a bed in CURING. -/
theorem resumeOutcome_curing (hcuring : curing = true) :
    (t.waiting = .pause → resumeOutcome curing t = (.ok, .none))
    ∧ (t.pause = .paused → t.waiting = .none → resumeOutcome curing t = (.ok, .resume))
    ∧ (t.waiting = .resume ∨ (t.pause = .running ∧ t.waiting = .none) →
        resumeOutcome curing t = (.ok, t.waiting)) := by
  refine ⟨?withdraws, ?starts, ?keeps⟩
  case withdraws =>
    intro hw
    simp [resumeOutcome, hcuring, hw]
  case starts =>
    intro hp hw
    simp [resumeOutcome, hcuring, hp, hw]
  case keeps =>
    rintro (hw | ⟨hp, hw⟩)
    · cases hp : t.pause <;> simp [resumeOutcome, hcuring, hp, hw]
    · simp [resumeOutcome, hcuring, hp, hw]

end

/-! ### The commands -/

section
variable {s : State} {f : Frame} {b : Fin 24} {st : Status} {p : PendingPause}

theorem exec_bedPause (h : s.bedRequest f qBedPause b)
    (hout : pauseOutcome (s.curingBed b) (s.thermal b) = (st, p)) :
    exec (.bedPause f) s = .next (answered f qBedPause st [] (pend b p s)) := by
  have ⟨_, hroom, _⟩ := h
  have hact : pauseBed f b (takeIntake f s) = answered f qBedPause st [] (pend b p s) := by
    simp only [pauseBed, takeIntake_curingBed, takeIntake_thermal, hout]
    exact reply_modThermal_takeIntake hroom st _
  exact hact ▸ forBed_of_bedRequest h

theorem exec_bedResume (h : s.bedRequest f qBedResume b)
    (hout : resumeOutcome (s.curingBed b) (s.thermal b) = (st, p)) :
    exec (.bedResume f) s = .next (answered f qBedResume st [] (pend b p s)) := by
  have ⟨_, hroom, _⟩ := h
  have hact : resumeBed f b (takeIntake f s) = answered f qBedResume st [] (pend b p s) := by
    simp only [resumeBed, takeIntake_curingBed, takeIntake_thermal, hout]
    exact reply_modThermal_takeIntake hroom st _
  exact hact ▸ forBed_of_bedRequest h

/-- A row of R57 that keeps the pending request changes the line unit alone. -/
theorem exec_bedPause_keeps (h : s.bedRequest f qBedPause b)
    (hout : pauseOutcome (s.curingBed b) (s.thermal b) = (st, (s.thermal b).waiting)) :
    exec (.bedPause f) s = .next (answered f qBedPause st [] s) := by
  rw [exec_bedPause h hout, pend_waiting]

/-- A row of R58 that keeps the pending request changes the line unit alone. -/
theorem exec_bedResume_keeps (h : s.bedRequest f qBedResume b)
    (hout : resumeOutcome (s.curingBed b) (s.thermal b) = (st, (s.thermal b).waiting)) :
    exec (.bedResume f) s = .next (answered f qBedResume st [] s) := by
  rw [exec_bedResume h hout, pend_waiting]

/-- The first row of R59. -/
theorem exec_bedCool_sets (h : s.bedRequest f qBedCool b) (hcuring : s.curingBed b = true)
    (hcool : (s.thermal b).phase ≠ .cool) (hsoak : (s.thermal b).phase ≠ .soak) :
    exec (.bedCool f) s = .next (answered f qBedCool .ok []
      (modThermal b (fun t => { t with coolPending := true }) s)) := by
  have ⟨_, hroom, _⟩ := h
  have hact : coolBed f b (takeIntake f s) = answered f qBedCool .ok []
      (modThermal b (fun t => { t with coolPending := true }) s) := by
    rw [← reply_modThermal_takeIntake hroom]
    simp [coolBed, hcuring, hcool, hsoak]
  exact hact ▸ forBed_of_bedRequest h

/-- The other rows of R59. -/
theorem exec_bedCool_refused (h : s.bedRequest f qBedCool b)
    (hno : s.curingBed b = false ∨ (s.thermal b).phase = .cool ∨ (s.thermal b).phase = .soak) :
    exec (.bedCool f) s = .next (answered f qBedCool .state [] s) := by
  have ⟨_, hroom, _⟩ := h
  have hact : coolBed f b (takeIntake f s) = answered f qBedCool .state [] s := by
    rw [← reply_takeIntake hroom]
    rcases hno with hno | hno | hno <;> simp [coolBed, hno]
  exact hact ▸ forBed_of_bedRequest h

end

/-- Settles O25: each row by the outcome its table gives. -/
theorem pauseResumeCool : Obligations.PauseResumeCool := by
  intro s f b _ _
  refine ⟨fun h => ⟨?pauseRefused, ?pauseRows⟩, fun h => ⟨?resumeRefused, ?resumeRows⟩,
    fun h => ⟨exec_bedCool_sets h, exec_bedCool_refused h⟩, ?badArg⟩
  case pauseRefused => exact fun hno => exec_bedPause_keeps h (pauseOutcome_refused hno)
  case pauseRows =>
    intro hcuring hcool
    obtain ⟨hstart, hwithdraw, hkeep⟩ := pauseOutcome_curing hcuring hcool
    exact ⟨fun hp hw => exec_bedPause h (hstart hp hw),
      fun hp hw => exec_bedPause h (hwithdraw hp hw),
      fun hrow => exec_bedPause_keeps h (hkeep hrow)⟩
  case resumeRefused => exact fun hno => exec_bedResume_keeps h (resumeOutcome_refused hno)
  case resumeRows =>
    intro hcuring
    obtain ⟨hwithdraw, hstart, hkeep⟩ := resumeOutcome_curing hcuring
    exact ⟨fun hw => exec_bedResume h (hwithdraw hw),
      fun hp hw => exec_bedResume h (hstart hp hw),
      fun hrow => exec_bedResume_keeps h (hkeep hrow)⟩
  case badArg =>
    intro x hx hrun hroom
    exact ⟨forBed_of_large hx hrun hroom, forBed_of_large hx hrun hroom,
      forBed_of_large hx hrun hroom⟩

end Sys2Proof.CuringRequestProofs
end

section
/-!
The fate of a good frame (R143, R144). A good run on a running part comes down to the fate of its frame
(`exec_frameReceiveP_of`, `exec_frameReceiveF_of`); each row of a table is one lemma on `fateP` or `fateF`, and
the queues a row fills are taken apart once, with room and full.
-/
namespace Sys2Proof.FrameFateProofs

open Sys2Proof Sys2Proof.Machine

/-! ### A good run on a running part -/

section
variable {s t : State} {q : Port} {run : Bytes} {f : Frame}

theorem receiveRun_of_good (hrun : s.running = true) (hgood : judge run = .ok f) :
    receiveRun q run s = runFate q f s := by
  have hop : s.operating = true := (Bool.and_eq_true_iff.1 hrun).1
  simp [receiveRun, hop, hgood, hrun]

theorem exec_frameReceiveP_of (hrun : s.running = true) (hgood : judge run = .ok f)
    (hfate : fateP f (goodFrame .pPort s) = t) : exec (.frameReceiveP run) s = .next t :=
  congrArg _ ((receiveRun_of_good (q := .pPort) hrun hgood).trans hfate)

theorem exec_frameReceiveF_of (hrun : s.running = true) (hgood : judge run = .ok f)
    (hfate : fateF f (goodFrame .fPort s) = t) : exec (.frameReceiveF run) s = .next t :=
  congrArg _ ((receiveRun_of_good (q := .fPort) hrun hgood).trans hfate)

end

/-! ### The queues (R143, R146) -/

section
variable {s : State} {q : Port} {f : Frame}

theorem takeMgmt_room (h : s.line.intake.length < 4) :
    takeMgmt f s = { s with line := { s.line with intake := s.line.intake ++ [f] } } :=
  if_pos h

theorem takeMgmt_full (h : 4 ≤ s.line.intake.length) :
    takeMgmt f s = raise .forwardOverflow (.port .pPort) 11 s :=
  if_neg (Nat.not_lt.2 h)

theorem putForward_room (h : (s.port q).forward.length < 8) :
    putForward q f s = modPort q (fun u => { u with forward := u.forward ++ [f] }) s :=
  if_pos h

theorem putForward_full (h : 8 ≤ (s.port q).forward.length) :
    putForward q f s = raise .forwardOverflow (.port q) f.kind.toNat s :=
  if_neg (Nat.not_lt.2 h)

end

/-! ### Stations and kinds -/

section
variable {s : State} {x : Station} {k : Byte}

theorem exists_mem_indexes {n : Nat} {p : Fin n → Prop} : (∃ i ∈ indexes n, p i) ↔ ∃ i, p i :=
  exists_congr fun i => and_iff_right (mem_indexes i)

theorem craneOf_isSome_iff :
    (s.craneOf x).isSome = true ↔ ∃ c, (s.craneEntry c).station = some x := by
  simp only [State.craneOf, List.find?_isSome, exists_mem_indexes, decide_eq_true_eq]

theorem probeStation_iff : s.probeStation x = true ↔
    ∃ i, (s.probeEntry i).enabled = true ∧ (s.probeEntry i).station = x := by
  simp only [State.probeStation, List.any_eq_true, exists_mem_indexes, Bool.and_eq_true,
    decide_eq_true_eq]

theorem bedStation_iff : s.bedStation x = true ↔
    ∃ b, (s.bedEntry b).enabled = true
      ∧ ((s.bedEntry b).panel = some x ∨ (s.bedEntry b).heater = some x) := by
  simp only [State.bedStation, List.any_eq_true, exists_mem_indexes, Bool.and_eq_true,
    Bool.or_eq_true, decide_eq_true_eq]

theorem craneStation_iff : s.craneStation x = true ↔
    ∃ c, (s.craneEntry c).station.isSome = true
      ∧ ((s.craneEntry c).station = some x ∨ (s.craneEntry c).hookReader = some x) := by
  simp only [State.craneStation, ofCraneInUse, List.any_eq_true, exists_mem_indexes, Bool.and_eq_true,
    Bool.or_eq_true, decide_eq_true_eq]

theorem fieldStation_iff : s.fieldStation x = true ↔
    (∃ i, (s.probeEntry i).enabled = true ∧ (s.probeEntry i).station = x)
      ∨ (∃ b, (s.bedEntry b).enabled = true
          ∧ ((s.bedEntry b).panel = some x ∨ (s.bedEntry b).heater = some x))
      ∨ (∃ c, (s.craneEntry c).station.isSome = true
          ∧ ((s.craneEntry c).station = some x ∨ (s.craneEntry c).hookReader = some x)) := by
  rw [State.fieldStation, Bool.or_eq_true, Bool.or_eq_true, probeStation_iff, bedStation_iff,
    craneStation_iff, or_assoc]

theorem consumedKind_iff : consumedKind k = true ↔ k = kHeatAck ∨ k = kBedPanel ∨ k = kSample := by
  simp [consumedKind, or_assoc]

theorem observedKind_iff : observedKind k = true ↔ k = kSample ∨ k = kCraneReport ∨ k = kHookScan := by
  simp [observedKind, or_assoc]

end

/-! ### The rows of R143 -/

section
variable {s : State} {f : Frame}

theorem fateP_mgmt (hdst : f.dst = s.station) (hkind : f.kind = kMgmt) :
    fateP f s = takeMgmt f s :=
  (if_pos hdst).trans (if_pos hkind)

theorem fateP_stray (hdst : f.dst = s.station) (hkind : f.kind ≠ kMgmt) :
    fateP f s = countStray s :=
  (if_pos hdst).trans (if_neg hkind)

theorem fateP_order (hdst : f.dst ≠ s.station) (hkind : f.kind = kOrder)
    (hcrane : ∃ c, (s.craneEntry c).station = some f.dst) : fateP f s = handOver f s := by
  simp [fateP, hdst, hkind, craneOf_isSome_iff.2 hcrane]

theorem fateP_forward (hdst : f.dst ≠ s.station)
    (hother : f.kind ≠ kOrder ∨ ∀ c, (s.craneEntry c).station ≠ some f.dst) :
    fateP f s = putForward .fPort (withRingMark f) s := by
  have hrow : ¬(f.kind = kOrder ∧ (s.craneOf f.dst).isSome = true) := by
    rwa [craneOf_isSome_iff, not_and_or, not_exists]
  refine (if_neg hdst).trans (if_neg ?_)
  rwa [Bool.and_eq_true, decide_eq_true_eq]

end

/-! ### The rows of R144 -/

section
variable {s : State} {f : Frame}

/-- Rows 1 and 2: a frame that has been round the ring. -/
theorem fateF_marked (hmark : ringMark f = true) :
    fateF f s = if f.dst = 0#8 ∨ f.dst = s.station then s else countUndelivered s :=
  if_pos hmark

theorem fateF_unmarked (hmark : ringMark f = false) :
    fateF f s = if f.src = s.station then countStray s
      else if f.dst = s.station then fateOwn f s
      else if f.dst ≠ 0#8 && s.fieldStation f.dst then putForward .fPort (withRingMark f) s
      else passToPlant f s :=
  if_neg (Bool.eq_false_iff.1 hmark)

theorem fateF_ownSource (hmark : ringMark f = false) (hsrc : f.src = s.station) :
    fateF f s = countStray s :=
  (fateF_unmarked hmark).trans (if_pos hsrc)

theorem fateF_own (hmark : ringMark f = false) (hsrc : f.src ≠ s.station)
    (hdst : f.dst = s.station) : fateF f s = fateOwn f s := by
  rw [fateF_unmarked hmark, if_neg hsrc, if_pos hdst]

theorem fateOwn_consumed (hkind : f.kind = kHeatAck ∨ f.kind = kBedPanel ∨ f.kind = kSample) :
    fateOwn f s = handOver f s :=
  if_pos (consumedKind_iff.2 hkind)

theorem fateOwn_mgmt (hkind : f.kind = kMgmt) : fateOwn f s = denyMgmt f s := by
  have hother : consumedKind kMgmt = false := by decide
  simp [fateOwn, hkind, hother]

theorem fateOwn_stray (hkind : ¬(f.kind = kHeatAck ∨ f.kind = kBedPanel ∨ f.kind = kSample))
    (hmgmt : f.kind ≠ kMgmt) : fateOwn f s = countStray s :=
  (if_neg (mt consumedKind_iff.1 hkind)).trans (if_neg hmgmt)

/-- Row 8: a frame to no field station goes to the plant, its observed kinds handed over on the way. -/
theorem fateF_plant (hmark : ringMark f = false) (hsrc : f.src ≠ s.station)
    (hdst : f.dst ≠ s.station) (hplant : f.dst = 0#8 ∨ s.fieldStation f.dst = false) :
    fateF f s = putForward .pPort f
      (if f.kind = kSample ∨ f.kind = kCraneReport ∨ f.kind = kHookScan then handOver f s else s) := by
  have hrow : ¬(f.dst ≠ 0#8 && s.fieldStation f.dst) = true := by
    rcases hplant with hzero | hfield
    · simp [hzero]
    · simp [hfield]
  rw [fateF_unmarked hmark, if_neg hsrc, if_neg hdst, if_neg hrow]
  simp only [passToPlant, observedKind_iff]

theorem fateF_field (hmark : ringMark f = false) (hsrc : f.src ≠ s.station)
    (hdst : f.dst ≠ s.station) (hone : f.dst ≠ 0#8) (hfield : s.fieldStation f.dst = true) :
    fateF f s = putForward .fPort (withRingMark f) s := by
  have hrow : (f.dst ≠ 0#8 && s.fieldStation f.dst) = true := by simp [hone, hfield]
  rw [fateF_unmarked hmark, if_neg hsrc, if_neg hdst, if_pos hrow]

end

/-! ### The statements -/

/-- Settles O6: each row of R143 by its lemma, with the queue it fills. -/
theorem goodFrameOnPortP : Obligations.GoodFrameOnPortP := by
  intro s run f hrun hgood g
  have hexec {t : State} (hfate : fateP f g = t) : exec (.frameReceiveP run) s = .next t :=
    exec_frameReceiveP_of hrun hgood hfate
  refine ⟨?mgmt, ?stray, ?order, ?forward⟩
  case mgmt =>
    intro hdst hkind
    have hrow : fateP f g = takeMgmt f g := fateP_mgmt hdst hkind
    exact ⟨fun hroom => hexec (hrow.trans (takeMgmt_room hroom)),
      fun hfull => hexec (hrow.trans (takeMgmt_full hfull))⟩
  case stray => exact fun hdst hkind => hexec (fateP_stray hdst hkind)
  case order => exact fun hdst hkind hcrane => hexec (fateP_order hdst hkind hcrane)
  case forward =>
    intro hdst hother
    have hrow : fateP f g = putForward .fPort (withRingMark f) g := fateP_forward hdst hother
    exact ⟨fun hroom => hexec (hrow.trans (putForward_room hroom)),
      fun hfull => hexec (hrow.trans (putForward_full hfull))⟩

/-- Settles O7: each row of R144 by its lemma, with the queue it fills. -/
theorem goodFrameOnPortF : Obligations.GoodFrameOnPortF := by
  intro s run f hrun hgood st g stray handed
  have hexec {t : State} (hfate : fateF f g = t) : exec (.frameReceiveF run) s = .next t :=
    exec_frameReceiveF_of hrun hgood hfate
  refine ⟨?marked, ?ownSource, ?own, ?plant, ?field, fun x => fieldStation_iff⟩
  case marked => exact fun hmark => hexec (fateF_marked hmark)
  case ownSource => exact fun hmark hsrc => hexec (fateF_ownSource hmark hsrc)
  case own =>
    intro hmark hsrc hdst
    have hrow : fateF f g = fateOwn f g := fateF_own hmark hsrc hdst
    refine ⟨fun hkind => hexec (hrow.trans (fateOwn_consumed hkind)),
      fun hkind => hexec (hrow.trans (fateOwn_mgmt hkind)), ?_⟩
    intro hack hpanel hsample hmgmt
    exact hexec (hrow.trans (fateOwn_stray (by simp [hack, hpanel, hsample]) hmgmt))
  case plant =>
    intro hmark hsrc hdst hplant h
    have hrow : fateF f g = putForward .pPort f h := fateF_plant hmark hsrc hdst hplant
    have hport : h.line.portP = s.line.portP := by
      simp only [h]
      split <;> rfl
    rw [← hport]
    exact ⟨fun hroom => hexec (hrow.trans (putForward_room hroom)),
      fun hfull => hexec (hrow.trans (putForward_full hfull))⟩
  case field =>
    intro hmark hsrc hdst hone hfield
    have hrow : fateF f g = putForward .fPort (withRingMark f) g :=
      fateF_field hmark hsrc hdst hone hfield
    exact ⟨fun hroom => hexec (hrow.trans (putForward_room hroom)),
      fun hfull => hexec (hrow.trans (putForward_full hfull))⟩

end Sys2Proof.FrameFateProofs
end

section
/-!
The notice queue (R159, R160). The queue's own operations first: the lowest class present, the youngest record
of a class removed, a record arriving, the record sent first. Then what a raised cause does at a full queue.
-/
namespace Sys2Proof.NoticeQueueProofs

open Sys2Proof Sys2Proof.Machine

/-! ### A record arriving at a full queue -/

section
variable {n x : Notice} {q pre post : List Notice}

/-- The lowest class of a queue is the greatest lower bound of its classes and the start value. -/
theorem le_lowestClass_iff {k c : Fin 4} :
    k ≤ lowestClass c q ↔ k ≤ c ∧ ∀ m ∈ q, k ≤ m.cls := by
  induction q generalizing c with
  | nil => simp [lowestClass]
  | cons m rest ih =>
    have hcons : lowestClass c (m :: rest) = lowestClass (min m.cls c) rest := by
      simp [lowestClass, min_def_lt]
    simp [hcons, ih, and_comm, and_assoc]

theorem lowestClass_eq_of_split (hpre : ∀ m ∈ pre, x.cls ≤ m.cls)
    (hpost : ∀ m ∈ post, x.cls ≤ m.cls) : lowestClass 3 (pre ++ x :: post) = x.cls := by
  have hbound : ∀ m ∈ pre ++ x :: post, lowestClass 3 (pre ++ x :: post) ≤ m.cls :=
    (le_lowestClass_iff.1 le_rfl).2
  refine le_antisymm (hbound x (by simp)) (le_lowestClass_iff.2 ⟨Fin.le_last _, ?_⟩)
  simpa [or_imp, forall_and] using ⟨hpre, hpost⟩

theorem dropYoungest_of_split (hpost : ∀ m ∈ post, x.cls < m.cls) :
    dropYoungest x.cls (pre ++ x :: post) = pre ++ post := by
  have hother : ∀ m ∈ post.reverse, ¬decide (m.cls = x.cls) = true := by
    simpa using fun m hm => (hpost m hm).ne'
  simp [dropYoungest, List.eraseP_append_right _ hother]

theorem queueNotice_full (hfull : q.length = 32) :
    queueNotice n q = (if lowestClass 3 q < n.cls then dropYoungest (lowestClass 3 q) q ++ [n] else q,
      true) := by
  rw [queueNotice, if_neg (by simp [hfull]), apply_ite (·, true)]

/-- The first way of R160: the new record takes the place of the youngest of the lowest class. -/
theorem queueNotice_replaces (hfull : (pre ++ x :: post).length = 32)
    (hpre : ∀ m ∈ pre, x.cls ≤ m.cls) (hpost : ∀ m ∈ post, x.cls < m.cls) (habove : x.cls < n.cls) :
    queueNotice n (pre ++ x :: post) = (pre ++ post ++ [n], true) := by
  have hlow : lowestClass 3 (pre ++ x :: post) = x.cls :=
    lowestClass_eq_of_split hpre fun m hm => (hpost m hm).le
  rw [queueNotice_full hfull, hlow, if_pos habove, dropYoungest_of_split hpost]

/-- The second way of R160: the new record is discarded. -/
theorem queueNotice_discards (hfull : q.length = 32) (hlow : ∀ m ∈ q, n.cls ≤ m.cls) :
    queueNotice n q = (q, true) := by
  have hbound : n.cls ≤ lowestClass 3 q := le_lowestClass_iff.2 ⟨Fin.le_last _, hlow⟩
  rw [queueNotice_full hfull, if_neg hbound.not_gt]

end

/-! ### The record sent first -/

section
variable {n : Notice} {q : List Notice}

theorem firstNotice_eq_none_iff : firstNotice q = none ↔ q = [] := by
  cases q with
  | nil => simp [firstNotice]
  | cons m rest =>
    simp only [firstNotice, reduceCtorEq, iff_false]
    split
    · simp
    · split <;> simp

/-- The record sent first is of the highest class, and the oldest of that class (R159). -/
theorem firstNotice_split (h : firstNotice q = some n) :
    ∃ pre post, q = pre ++ n :: post
      ∧ (∀ m ∈ pre, m.cls < n.cls) ∧ (∀ m ∈ post, m.cls ≤ n.cls) := by
  induction q generalizing n with
  | nil => simp [firstNotice] at h
  | cons m rest ih =>
    rw [firstNotice] at h
    split at h
    case h_1 hnone =>
      obtain rfl : m = n := Option.some.inj h
      obtain rfl : rest = [] := firstNotice_eq_none_iff.1 hnone
      exact ⟨[], [], by simp⟩
    case h_2 best hbest =>
      obtain ⟨pre, post, hrest, hpre, hpost⟩ := ih hbest
      split at h
      case isTrue hbelow =>
        obtain rfl : best = n := Option.some.inj h
        exact ⟨m :: pre, post, by simp [hrest], by simpa using ⟨hbelow, hpre⟩, hpost⟩
      case isFalse hnot =>
        obtain rfl : m = n := Option.some.inj h
        have hbest_le : best.cls ≤ m.cls := not_lt.1 hnot
        refine ⟨[], rest, rfl, by simp, fun k hk => ?_⟩
        have hk_le : k.cls ≤ best.cls := by
          rw [hrest, List.mem_append, List.mem_cons] at hk
          rcases hk with hk | rfl | hk
          · exact (hpre k hk).le
          · exact le_rfl
          · exact hpost k hk
        exact hk_le.trans hbest_le

end

/-! ### A cause raised at a full queue -/

@[simp] theorem updateAttn_cause (s : State) : (updateAttn s).cause = s.cause := rfl

@[simp] theorem updateAttn_queue (s : State) : (updateAttn s).notice.queue = s.notice.queue := rfl

@[simp] theorem modCause_queue (c : Cause) (f : CauseState → CauseState) (s : State) :
    (modCause c f s).notice.queue = s.notice.queue := rfl

/-- The notice record of a cause raised (R156). -/
def noticeOf (c : Cause) (sub : Subject) (v : Int) (second : Nat) (s : State) : Notice :=
  { cause := c, cls := (s.cause c).cls, subject := sub, value := v, second := second
    minute := s.sup.worksMinute }

section
variable {s : State} {c : Cause} {sub : Subject} {v : Int} {second : Nat} {q : List Notice}

/-- An unmasked cause raised where the queue discards a record: its flag, the queue and NOTICE_OVERFLOW. -/
theorem recordCause_discarding (hunmasked : (s.cause c).masked = false) (hc : c ≠ .noticeOverflow)
    (hq : queueNotice (noticeOf c sub v second s) s.notice.queue = (q, true)) :
    recordCause c sub v second s =
      updateAttn (modCause .noticeOverflow (fun k => { k with flag := true })
        (setNoticeQueue q (modCause c (fun k => { k with flag := true }) s))) := by
  have hrecord : ¬(c = .noticeOverflow ∨ (s.cause c).masked = true) := by simp [hc, hunmasked]
  rw [noticeOf] at hq
  simp [recordCause, hrecord, hq]

theorem recordCause_discarding_flags (hunmasked : (s.cause c).masked = false)
    (hc : c ≠ .noticeOverflow)
    (hq : queueNotice (noticeOf c sub v second s) s.notice.queue = (q, true)) :
    ((recordCause c sub v second s).cause .noticeOverflow).flag = true
      ∧ ((recordCause c sub v second s).cause c).flag = true := by
  simp [recordCause_discarding hunmasked hc hq, hc]

theorem recordCause_discarding_queue (hunmasked : (s.cause c).masked = false)
    (hc : c ≠ .noticeOverflow)
    (hq : queueNotice (noticeOf c sub v second s) s.notice.queue = (q, true)) :
    (recordCause c sub v second s).notice.queue = q := by
  simp [recordCause_discarding hunmasked hc hq]

end

/-! ### The statement -/

/-- Settles O13: the two ways of R160 as the queue's own lemmas, carried over to the raised cause, and the
record sent first by induction on the queue. -/
theorem fullNoticeQueue : Obligations.FullNoticeQueue := by
  refine ⟨fun s c sub v second hfull hunmasked hc => ?arriving, fun q => ⟨?someFirst, ?sentFirst⟩⟩
  case arriving =>
    obtain ⟨hoverflow, hflag⟩ :=
      recordCause_discarding_flags (sub := sub) (v := v) (second := second) hunmasked hc
        (queueNotice_full hfull)
    refine ⟨hoverflow, hflag, ?replaces, ?discards⟩
    case replaces =>
      intro pre x post hsplit hpre hpost habove
      refine recordCause_discarding_queue hunmasked hc ?_
      rw [hsplit] at hfull ⊢
      exact queueNotice_replaces hfull hpre hpost habove
    case discards =>
      exact fun hlow =>
        recordCause_discarding_queue hunmasked hc (queueNotice_discards hfull hlow)
  case someFirst =>
    exact fun hne => Option.ne_none_iff_exists'.1 (mt firstNotice_eq_none_iff.1 hne)
  case sentFirst => exact fun n hn => firstNotice_split hn

end Sys2Proof.NoticeQueueProofs
end

section
/-!
What a step can do, said once for all the laws. The changes a law has to be kept by are listed in `Kept`, each
with the guard the laws need; `exec_keeps` follows every command through the operations it is made of, and
`KeptAtStarts.step` every step.
-/
namespace Sys2Proof.StepProofs

open Sys2Proof Sys2Proof.Machine

/-! ### The changes of the line unit and the notice unit -/

/-- A port unit that has taken in no frame. -/
structure PortKept (u v : PortUnit) : Prop where
  bounded : u.bounded → v.bounded
  frames : ∀ f ∈ v.frames, f ∈ u.frames
  notices : noticesIn v.normal ≤ noticesIn u.normal
  urgent : u.urgent = [] → v.urgent = []

/-- A frame fit to be sent on a port: ring-marked exactly on port F (R145). -/
def fitFor (q : Port) (f : Frame) : Prop := ringMark f = decide (q = .fPort)

/-- The changes of the line unit's queues and lanes, the notice queue, the causes and ATTN; a flag once set stays. -/
inductive LineMove (s : State) : State → Prop
  | port (q : Port) (g : PortUnit → PortUnit) (h : PortKept (s.port q) (g (s.port q))) :
      LineMove s (modPort q g s)
  | lane (q : Port) (f : Frame) (hroom : s.laneRoom q = true) (hfit : fitFor q f)
      (hnotice : q = .pPort → f.kind = kNotice → s.noticeInLane = false) :
      LineMove s (modPort q (fun u => { u with normal := u.normal ++ [f] }) s)
  | forward (q : Port) (f : Frame) (hroom : (s.port q).forward.length < Config.forwardDepth)
      (hfit : fitFor q f) :
      LineMove s (modPort q (fun u => { u with forward := u.forward ++ [f] }) s)
  | urgent (f : Frame) (hroom : s.urgentRoom = true) (hfit : fitFor .fPort f) :
      LineMove s (modPort .fPort (fun u => { u with urgent := u.urgent ++ [f] }) s)
  | head (f : Frame) (rest : List Frame) (hfit : fitFor .fPort f)
      (hlength : rest.length < max 16 s.line.portF.normal.length)
      (hrest : ∀ g ∈ rest, g ∈ s.line.portF.normal) :
      LineMove s (modPort .fPort (fun u => { u with normal := f :: rest }) s)
  | intake (l : List Frame) (h : l.length ≤ max 4 s.line.intake.length) :
      LineMove s { s with line := { s.line with intake := l } }
  | queue (q : List Notice) (h : q.length ≤ max 32 s.notice.queue.length) :
      LineMove s { s with notice := { s.notice with queue := q } }
  | causes (x : Vector CauseState 28)
      (hraised : ∀ c : Cause, (s.cause c).flag = true → (tget x c.place).flag = true) :
      LineMove s { s with notice := { s.notice with causes := x, attn := attnLevel x } }

/-! ### The changes of the other blocks -/

/-- Two states in which the laws read the same values. -/
structure Alike (s t : State) : Prop where
  portP : t.line.portP = s.line.portP := by rfl
  portF : t.line.portF = s.line.portF := by rfl
  intake : t.line.intake = s.line.intake := by rfl
  notice : t.notice = s.notice := by rfl
  kind : t.sup.kind = s.sup.kind := by rfl
  budget : t.heat.budget = s.heat.budget := by rfl
  shedLimit : t.heat.shedLimit = s.heat.shedLimit := by rfl
  heatRecs : t.heat.recs = s.heat.recs := by rfl
  bedTable : t.bed.table = s.bed.table := by rfl
  bedRecs : t.bed.recs = s.bed.recs := by rfl
  thermal : t.curing.thermal = s.curing.thermal := by rfl
  piece : t.piece = s.piece := by rfl
  areas : t.stock.areas = s.stock.areas := by rfl
  slots : t.stock.slots = s.stock.slots := by rfl
  cranes : t.runway.cranes = s.runway.cranes := by rfl
  regions : t.runway.regions = s.runway.regions := by rfl
  waiting : t.runway.waiting = s.runway.waiting := by rfl
  pending : t.pending = s.pending := by rfl

/-- A heat record changed without a new grant or a change of what is DRIVEN, unless that is put right. -/
structure HeatKept (curing : Bool) (h k : HeatRec) : Prop where
  grant : k.grant ≤ h.grant
  request : h.grant ≤ h.request → k.grant ≤ k.request
  idle : h.request = 0 → k.request = 0
  driven : (k.state = .driven ↔ h.state = .driven) ∨ (k.state = .driven ↔ curing = true)

/-- A bed record changed without a change of state. -/
structure BedKept (r q : BedRec) : Prop where
  state : q.state = r.state
  permit : q.permit = r.permit ∨ q.permit = 0 ∨ r.state = .releasing

/-- What the laws ask of a thermal part. -/
def cureOk (curing : Bool) (t : Thermal) : Prop :=
  accountInRange t.maturity t.remainder ∧ t.demand ≤ t.recipe.heatCap
    ∧ (curing = false → t.demand = 0)

/-- An account that some record holds already, that is in its range, or that is copied from a bed. -/
def accountFrom (s : State) (p : Piece) (a : Account) : Prop :=
  (∃ q, (q = p ∨ q ∈ s.piece.recs) ∧ ∃ x ∈ q.account, a.maturity = x.maturity ∧ a.remainder = x.remainder)
    ∨ accountInRange a.maturity a.remainder
    ∨ ∃ b, a.maturity = (s.thermal b).maturity ∧ a.remainder = (s.thermal b).remainder

/-- A record changed under its number and mark. -/
structure PieceKept (s : State) (p q : Piece) : Prop where
  number : q.number = p.number := by rfl
  mark : q.mark = p.mark := by rfl
  account : ∀ a ∈ q.account, accountFrom s p a

/-- A current order changed in nothing that the laws read, but for LOAD_OVER set. -/
structure OrderKept (o x : CraneOrder) : Prop where
  task : x.task = o.task := by rfl
  loadedSpan : x.loadedSpan = o.loadedSpan := by rfl
  loadOver : o.loadOver = true → x.loadOver = true := by exact id

/-- A crane changed without an order taken up or ended. -/
structure CraneKept (s : State) (k l : Crane) : Prop where
  reservation : l.reservation = k.reservation := by rfl
  current : ∃ g : CraneOrder → CraneOrder, l.current = k.current.map g ∧ ∀ o, OrderKept o (g o)
  control : l.control = .free → k.control = .free ∨ k.current = none ∨ s.yardQuiet = true

/-- A change of a bed's state that the laws of the runway allow. -/
structure MayEnter (s : State) (b : Fin 24) (new : BedState) : Prop where
  live : (s.bedRec b).state = .stripping → s.liveFromBed b = false
  noLoad : noLoadState new = true → noLoadState (s.bedRec b).state = true ∨
    ∀ c, ∀ o ∈ (s.crane c).current, ∀ i ∈ o.loadedSpan, i.overlaps (s.bedSpan b) = true →
      o.loadOver = true

/-- A waiting queue within its bounds where it was (R127). -/
structure WaitingKept (s : State) (l : List CraneOrder) : Prop where
  all : l.length ≤ max 16 s.runway.waiting.length
  each : ∀ c : Fin 4, (l.filter fun w => w.crane = c).length
    ≤ max 4 (s.runway.waiting.filter fun w => w.crane = c).length

/-- A stack and claims that stay within a height limit. -/
def slotKept (s : State) (n : Fin 1024) (x : Slot) : Prop :=
  x.claims = (s.slot n).claims
    ∧ (x.stack.length ≤ (s.slot n).stack.length
      ∨ (x.stack.length = (s.slot n).stack.length + 1 ∧ s.slotRoom n = true))

/-- One claim given back on the destination slot of a task, where it has one. -/
def dropClaim (t : Task) (s : State) : State :=
  match t.destSlot with
  | some n => modSlot n (fun x => { x with claims := x.claims - 1 }) s
  | none => s

/-- An area changed in nothing that its slots' law reads. -/
structure AreaKept (a b : Area) : Prop where
  firstSlot : b.firstSlot = a.firstSlot := by rfl
  count : b.count = a.count := by rfl
  heightLimit : b.heightLimit = a.heightLimit := by rfl

/-- An area with its written fields replaced (R103). -/
def Area.rewritten (x : AreaFields) (old : Area) : Area :=
  { old with firstSlot := x.firstSlot, count := x.count, base := x.base, pitch := x.pitch
             heightLimit := x.heightLimit, classes := x.classes, dispatchOnly := x.dispatchOnly }

/-- A law kept by every change of the line unit and the notice unit. -/
structure LineKept (P : State → Prop) : Prop where
  line : ∀ {s t : State}, LineMove s t → P s → P t
  plain : ∀ {s t : State}, Alike s t → P s → P t

/-- A law kept by every change that a command of a running part is made of. -/
structure Kept (P : State → Prop) : Prop extends LineKept P where
  heatRecs : ∀ {s : State} (v : Vector HeatRec 24),
    (∀ b, HeatKept (s.curingBed b) (s.heatRec b) (tget v b)) →
    P s → P { s with heat := { s.heat with recs := v } }
  handRequest : ∀ {s : State} (b : Fin 24) (n : Nat), s.curingBed b = true → P s → P (handRequest b n s)
  budget : ∀ {s : State} (v : Nat), P s → P (recompute (writeBudget v s))
  shed : ∀ {s : State} (v : Nat), P s → P (recompute (writeShed v s))
  enterBed : ∀ {s : State} (b : Fin 24) (new : BedState), MayEnter s b new → P s → P (enterBed b new s)
  bedRecs : ∀ {s : State} (v : Vector BedRec 24), (∀ b, BedKept (s.bedRec b) (tget v b)) →
    P s → P { s with bed := { s.bed with recs := v } }
  bedEntry : ∀ {s : State} (b : Fin 24) (e : BedEntry), s.bedWriteCheck b e = none →
    P s → P (setBedEntry b e s)
  thermal : ∀ {s : State} (b : Fin 24) (f : Thermal → Thermal),
    (cureOk (s.curingBed b) (s.thermal b) → cureOk (s.curingBed b) (f (s.thermal b))) →
    P s → P (modThermal b f s)
  pieces : ∀ {s : State} (g : Piece → Piece), (∀ p ∈ s.piece.recs, PieceKept s p (g p)) →
    P s → P (setPieces (s.piece.recs.map g) s)
  erase : ∀ {s : State} (m : Nat), P s → P (erasePiece m s)
  create : ∀ {s : State} (p : Piece), s.findPiece p.mark = none → s.hasFreeRecord = true →
    (∀ a ∈ p.account, accountInRange a.maturity a.remainder) → P s → P (createPiece p s)
  area : ∀ {s : State} (a : Fin 16) (f : Area → Area), AreaKept (s.area a) (f (s.area a)) →
    P s → P (modArea a f s)
  areaWrite : ∀ {s : State} (a : Fin 16) (x : AreaFields), areaInRange x = true →
    s.areaWriteCheck a x = none → P s → P (modArea a (Area.rewritten x) s)
  slot : ∀ {s : State} (n : Fin 1024) (f : Slot → Slot), slotKept s n (f (s.slot n)) →
    P s → P (modSlot n f s)
  admission : ∀ {s : State} (o : CraneOrder), s.trial o = .admitted →
    P s → P (claimFor o.task (holdOrder o ((s.crane o.crane).position.getD 0) s))
  place : ∀ {s : State} (c : Fin 4) (o : CraneOrder) (n : Fin 1024) (m : Nat),
    (s.crane c).current = some o → o.task.destSlot = some n →
    P s → P (endOrder c (modSlot n (fun x => { stack := x.stack ++ [m], claims := x.claims - 1 }) s))
  release : ∀ {s : State} (c : Fin 4) (o : CraneOrder), (s.crane c).current = some o →
    P s → P (endOrder c (dropClaim o.task s))
  cranes : ∀ {s : State} (v : Vector Crane 4), (∀ c, CraneKept s (s.crane c) (tget v c)) →
    P s → P { s with runway := { s.runway with cranes := v } }
  region : ∀ {s : State} (r : Fin 8) (e : Region), s.yardQuiet = true → P s → P (setRegion r e s)
  waiting : ∀ {s : State} (l : List CraneOrder), WaitingKept s l → P s → P (setWaiting l s)

/-- A law kept by the clearing of flags as well. -/
structure KeptByCommands (P : State → Prop) : Prop extends Kept P where
  cleared : ∀ {s : State} (x : Vector CauseState 28),
    P s → P { s with notice := { s.notice with causes := x, attn := attnLevel x } }

/-! ### Notices, lanes and ports -/

open NoticeQueueProofs in
theorem exists_lowestClass {q : List Notice} (h : lowestClass 3 q < 3) :
    ∃ n ∈ q, n.cls = lowestClass 3 q := by
  by_contra hnone
  push Not at hnone
  have hbound := (le_lowestClass_iff (k := lowestClass 3 q) (c := 3) (q := q)).1 le_rfl
  have hnext : lowestClass 3 q + 1 ≤ lowestClass 3 q := by
    refine le_lowestClass_iff.2 ⟨Fin.le_last _, fun m hm => ?_⟩
    have hlt : lowestClass 3 q < m.cls := lt_of_le_of_ne (hbound.2 m hm) (hnone m hm).symm
    simp only [Fin.lt_def, Fin.le_def, Fin.val_add] at *
    omega
  simp only [Fin.lt_def, Fin.le_def, Fin.val_add] at *
  omega

theorem dropYoungest_length_of_mem {c : Fin 4} {q : List Notice} (h : ∃ n ∈ q, n.cls = c) :
    (dropYoungest c q).length = q.length - 1 := by
  obtain ⟨n, hn, hc⟩ := h
  rw [dropYoungest, List.length_reverse, List.length_eraseP_of_mem (a := n) (by simpa) (by simpa),
    List.length_reverse]

/-- A record arriving leaves the queue no longer than it may be (R159, R160). -/
theorem queueNotice_length (n : Notice) (q : List Notice) :
    (queueNotice n q).1.length ≤ max 32 q.length := by
  unfold queueNotice
  split
  case isTrue h => simp at h ⊢; omega
  case isFalse h =>
    dsimp only
    split
    case isTrue hlow =>
      have hmem := exists_lowestClass (lt_of_lt_of_le hlow (Fin.le_last n.cls))
      simp only [List.length_append, dropYoungest_length_of_mem hmem, List.length_singleton]
      simp at h
      omega
    case isFalse => exact le_max_right ..

theorem recordCause_eq (c : Cause) (u : Subject) (v : Int) (n : Nat) (s : State) :
    ∃ x q, q.length ≤ max 32 s.notice.queue.length ∧
      (∀ d : Cause, (s.cause d).flag = true → (tget x d.place).flag = true) ∧
      recordCause c u v n s = { s with notice := { causes := x, queue := q, attn := attnLevel x } } := by
  have hset : ∀ (d e : Cause) (t : State), (t.cause e).flag = true →
      ((modCause d (fun k => { k with flag := true }) t).cause e).flag = true := by
    intro d e t he
    rw [modCause_cause]
    split
    · rfl
    · exact he
  unfold recordCause
  dsimp only
  split
  · exact ⟨_, s.notice.queue, le_max_right .., fun d => hset c d s, rfl⟩
  · split
    · exact ⟨_, _, queueNotice_length _ _, fun d hd => hset .noticeOverflow d (modCause c _ s) (hset c d s hd), rfl⟩
    · exact ⟨_, _, queueNotice_length _ _, fun d => hset c d s, rfl⟩

/-- The two ways of a notice offered (R159). -/
theorem offerNotice_eq (s : State) : offerNotice s = s ∨ ∃ dst n,
    s.noticeInLane = false ∧ s.laneRoom .pPort = true ∧
    offerNotice s = modPort .pPort (fun u => { u with normal := u.normal ++
      [noticeFrame (nextLineSeq (setNoticeQueue (s.notice.queue.erase n) s)) dst n] })
      (nextLineSeq (setNoticeQueue (s.notice.queue.erase n) s)) := by
  unfold offerNotice
  split
  · split
    · exact .inl rfl
    · rename_i dst n _ _ h
      refine .inr ⟨dst, n, ?_⟩
      simp only [Bool.or_eq_true, decide_eq_true_eq, not_or, Bool.not_eq_true, not_le] at h
      exact ⟨h.1, decide_eq_true h.2, rfl⟩
  · exact .inl rfl

section
variable {P : State → Prop} (k : LineKept P) {s : State}
include k

theorem LineKept.recordCause (c : Cause) (u : Subject) (v : Int) (n : Nat) (h : P s) :
    P (recordCause c u v n s) := by
  obtain ⟨x, q, hq, hraised, heq⟩ := recordCause_eq c u v n s
  rw [heq]
  exact k.line (.causes (s := { s with notice := { s.notice with queue := q } }) x hraised)
    (k.line (.queue q hq) h)

theorem LineKept.offerNotice (h : P s) : P (offerNotice s) := by
  rcases offerNotice_eq s with heq | ⟨dst, n, hlane, hroom, heq⟩
  · rwa [heq]
  · rw [heq]
    have hqueue : (s.notice.queue.erase n).length ≤ max 32 s.notice.queue.length :=
      List.length_erase_le.trans (le_max_right ..)
    have hs : P (nextLineSeq (setNoticeQueue (s.notice.queue.erase n) s)) :=
      k.plain {} (k.line (.queue _ hqueue) h)
    refine k.line (.lane .pPort _ hroom ?_ fun _ _ => hlane) hs
    simp [fitFor, ringMark, noticeFrame]

theorem LineKept.raise2 (c : Cause) (u : Subject) (v : Int) (n : Nat) (h : P s) : P (raise2 c u v n s) :=
  k.offerNotice (k.recordCause c u v n h)

theorem LineKept.raise (c : Cause) (u : Subject) (v : Int) (h : P s) : P (raise c u v s) :=
  k.raise2 c u v 0 h

theorem LineKept.offerNormal (q : Port) (f : Frame) (hfit : fitFor q f) (hkind : q = .pPort → f.kind ≠ kNotice)
    (h : P s) : P (offerNormal q f s) := by
  unfold Machine.offerNormal
  split
  case isTrue hroom => exact k.line (.lane q f hroom hfit fun hq hn => absurd hn (hkind hq)) h
  case isFalse => exact k.raise _ _ _ h

theorem LineKept.putForward (q : Port) (f : Frame) (hfit : fitFor q f) (h : P s) :
    P (putForward q f s) := by
  unfold Machine.putForward
  split
  case isTrue hroom => exact k.line (.forward q f hroom hfit) h
  case isFalse => exact k.raise _ _ _ h

omit k in
theorem fitFor_plantFrame (t : State) (dst : Station) (kind seq : Byte) (l : Bytes) :
    fitFor .pPort (plantFrame t dst kind seq l) := by simp [fitFor, ringMark, plantFrame]

omit k in
theorem fitFor_ringFrame (t : State) (dst : Station) (kind seq : Byte) (l : Bytes) :
    fitFor .fPort (ringFrame t dst kind seq l) := by simp [fitFor, ringMark, ringFrame]

omit k in
theorem fitFor_withRingMark (f : Frame) : fitFor .fPort (withRingMark f) := by
  simp [fitFor, ringMark, withRingMark]

theorem LineKept.reply (f : Frame) (code : Byte) (st : Status) (l : Bytes) (h : P s) :
    P (reply f code st l s) :=
  k.offerNormal _ _ (fitFor_plantFrame ..) (fun _ => show kMgmtReply ≠ kNotice by decide) h

theorem LineKept.answerTo (f : Frame) (l : Bytes) (a : Answer) (h : P s) : P (answerTo f l a s) :=
  k.offerNormal _ _ (fitFor_plantFrame ..) (fun _ => show kOrderAnswer ≠ kNotice by decide) h

theorem LineKept.answerOrder (o : CraneOrder) (a : Answer) (h : P s) : P (answerOrder o a s) :=
  k.answerTo _ _ _ h

theorem LineKept.panelAnswer (f : Frame) (a : PanelAnswer) (h : P s) : P (panelAnswer f a s) := by
  refine k.offerNormal _ _ (fitFor_ringFrame ..) nofun ?_
  unfold panelFree
  split
  · exact k.plain {} h
  · exact h

theorem LineKept.takeIntake (f : Frame) (h : P s) : P (takeIntake f s) := by
  unfold Machine.takeIntake
  split
  · exact k.line (.intake _ (by simp)) h
  · exact h

theorem LineKept.takeHanded (f : Frame) (h : P s) : P (takeHanded f s) := k.plain {} h

end

end Sys2Proof.StepProofs
end

section
/-! SUPPORT. The laws kept by the probes, the heat exchange and the bed records. -/
namespace Sys2Proof.StepProofs

open Sys2Proof Sys2Proof.Machine

/-! ### Probes and heat -/

theorem HeatKept.refl (curing : Bool) (h : HeatRec) : HeatKept curing h h :=
  ⟨le_rfl, id, id, .inl .rfl⟩

section
variable {P : State → Prop} (k : Kept P) {s : State}
include k

theorem Kept.modHeat (b : Fin 24) (f : HeatRec → HeatRec)
    (hf : HeatKept (s.curingBed b) (s.heatRec b) (f (s.heatRec b))) (h : P s) : P (modHeat b f s) := by
  refine k.heatRecs (tset s.heat.recs b (f (s.heatRec b))) (fun j => ?_) h
  rw [tget_tset]
  split
  case isTrue hj => exact hj ▸ hf
  case isFalse => exact .refl ..

theorem Kept.offerHeat (b : Fin 24) (d : Nat) (h : P s) : P (offerHeat b d s) := by
  refine k.offerNormal _ _ (fitFor_ringFrame ..) nofun ?_
  exact k.modHeat _ _ ⟨le_rfl, id, id, .inl .rfl⟩ (k.plain (t := nextHeatSeq s) {} h)

theorem Kept.idleHeat (b : Fin 24) (h : P s) : P (idleHeat b s) := by
  unfold Machine.idleHeat
  split
  case isTrue hstop => exact k.modHeat _ _ ⟨le_rfl, id, id, .inl (by simp [hstop])⟩ h
  case isFalse => exact h

theorem Kept.dropWaitFor (f : Frame) (h : P s) : P (dropWaitFor f s) := by
  unfold Machine.dropWaitFor
  repeat' split
  all_goals first | exact h | exact k.modHeat _ _ ⟨le_rfl, id, id, .inl .rfl⟩ h

theorem Kept.takeHeatAck (f : Frame) (h : P s) : P (takeHeatAck f s) := by
  have hack : ∀ b d q, P (ackBed b d q s) := by
    intro b d q
    unfold ackBed
    split
    · split
      · refine k.modHeat _ _ ?_ h
        split
        case isTrue hstop => exact ⟨le_rfl, id, id, .inl (by simp [hstop.1])⟩
        case isFalse => exact ⟨le_rfl, id, id, .inl .rfl⟩
      · exact k.plain {} h
    · exact k.plain {} h
  unfold Machine.takeHeatAck
  dsimp only
  repeat' split
  all_goals first | exact h | exact hack _ _ _

theorem Kept.refreshBed (b : Fin 24) (h : P s) : P (refreshBed b s) := by
  unfold Machine.refreshBed
  repeat' split
  all_goals first | exact h | exact k.offerHeat _ _ h

theorem Kept.missAck (b : Fin 24) (h : P s) : P (missAck b s) := by
  have hwait : ∀ n, P (Machine.modHeat b (fun h => { h with wait := none, misses := n }) s) :=
    fun n => k.modHeat _ _ ⟨le_rfl, id, id, .inl .rfl⟩ h
  unfold Machine.missAck
  dsimp only
  repeat' split
  all_goals first | exact h | exact k.raise _ _ _ (hwait _) | exact hwait _

theorem Kept.setBudget (f : Frame) (h : P s) : P (setBudget f s) := by
  unfold Machine.setBudget
  split
  · split
    · exact k.reply f qSetBudget .ok _ (k.budget _ h)
    · exact k.reply _ _ _ _ h
  · exact k.reply _ _ _ _ h

theorem Kept.shedRequest (f : Frame) (h : P s) : P (Machine.shed f s) := by
  unfold Machine.shed
  split
  · split
    · exact k.reply f qShed .ok _ (k.shed _ h)
    · split
      · exact k.reply f qShed .ok _ (k.shed _ h)
      · exact k.reply _ _ _ _ h
  · exact k.reply _ _ _ _ h

theorem Kept.modProbe (i : Fin 128) (f : ProbeRec → ProbeRec) (h : P s) : P (modProbe i f s) :=
  k.plain {} h

theorem Kept.takeReading (st : Station) (x : Nat × Int) (h : P s) : P (takeReading st x s) := by
  unfold Machine.takeReading screenReading acceptReading
  dsimp only
  repeat' split
  all_goals first | exact h | exact k.raise _ _ _ h | exact k.modProbe _ _ h

theorem Kept.takeSample (f : Frame) (h : P s) : P (takeSample f s) := by
  unfold Machine.takeSample
  split
  · exact k.plain {} h
  · exact List.foldlRecOn _ _ h fun t ht x _ => k.takeReading _ _ ht

theorem Kept.raiseIfBlinded (u : State) (b : Fin 24) (h : P s) : P (raiseIfBlinded u b s) := by
  unfold Machine.raiseIfBlinded
  split
  · exact k.raise _ _ _ h
  · exact h

theorem Kept.staleProbe (i : Fin 128) (h : P s) : P (staleProbe i s) := by
  unfold Machine.staleProbe
  dsimp only
  repeat' split
  all_goals first
    | exact h
    | exact k.raiseIfBlinded _ _ (k.raise _ _ _ (k.modProbe _ _ h))
    | exact k.raise _ _ _ (k.modProbe _ _ h)

theorem Kept.ageProbes (h : P s) : P (ageProbes s) := by
  refine forEach_induction s P _ (fun i t ht => ?_) h
  split
  · exact k.modProbe _ _ ht
  · exact ht

theorem Kept.staleSurvey (h : P s) : P (staleSurvey s) := by
  have hset : P (setSurvey false s) := k.plain {} h
  unfold Machine.staleSurvey
  dsimp only
  repeat' split
  all_goals first | exact h | exact hset | exact k.raise _ _ _ hset

theorem Kept.probeForce (f : Frame) (h : P s) : P (probeForce f s) := by
  unfold Machine.probeForce
  repeat' split
  all_goals first | exact k.reply _ _ _ _ h | exact k.reply _ _ _ _ (k.modProbe _ _ h)

end

/-! ### Beds and cures -/

theorem BedKept.refl (r : BedRec) : BedKept r r := ⟨rfl, .inl rfl⟩

section
variable {P : State → Prop} (k : Kept P) {s : State}
include k

theorem Kept.modBedRec (b : Fin 24) (f : BedRec → BedRec) (hf : BedKept (s.bedRec b) (f (s.bedRec b)))
    (h : P s) : P (modBedRec b f s) := by
  refine k.bedRecs (tset s.bed.recs b (f (s.bedRec b))) (fun j => ?_) h
  rw [tget_tset]
  split
  case isTrue hj => exact hj ▸ hf
  case isFalse => exact .refl _

theorem Kept.refreshMargin (b : Fin 24) (h : P s) : P (refreshMargin b s) :=
  k.thermal b _ id h

theorem Kept.accrueBed (b : Fin 24) (h : P s) : P (accrueBed b s) := by
  unfold Machine.accrueBed
  split
  · refine k.refreshMargin b (k.thermal b _ ?_ h)
    rintro ⟨-, hdemand, hidle⟩
    refine ⟨⟨Nat.min_le_left .., ?_⟩, hdemand, hidle⟩
    exact Nat.le_of_lt_succ (Nat.mod_lt _ (by decide))
  · exact k.refreshMargin b h

theorem Kept.removeLine (b : Fin 24) (m : Nat) (h : P s) : P (removeLine b m s) :=
  k.refreshMargin b (k.modBedRec b _ ⟨rfl, .inl rfl⟩ h)

theorem Kept.removeOrder (b : Fin 24) (h : P s) : P (removeOrder b s) :=
  k.modBedRec b _ ⟨rfl, .inl rfl⟩ h

end
end Sys2Proof.StepProofs
end

section
/-! SUPPORT. The laws kept by the moves of pieces, by HALT frames and by what stops a crane. -/
namespace Sys2Proof.StepProofs

open Sys2Proof Sys2Proof.Machine

/-! ### Pieces, stacks and hooks -/

theorem accountFrom_of_mem {s : State} {p : Piece} {a : Account} (h : a ∈ p.account) :
    accountFrom s p a := .inl ⟨p, .inl rfl, a, h, rfl, rfl⟩

theorem PieceKept.refl (s : State) (p : Piece) : PieceKept s p p where
  account _ h := accountFrom_of_mem h

theorem CraneKept.refl (s : State) (c : Crane) : CraneKept s c c where
  current := ⟨id, by simp, fun _ => {}⟩
  control := .inl

/-- A crane whose order and reservation are as they were, and which is not set FREE. -/
theorem CraneKept.of_same {s : State} {c d : Crane} (hres : d.reservation = c.reservation)
    (hcur : d.current = c.current) (hctl : d.control = c.control ∨ d.control ≠ .free) :
    CraneKept s c d where
  reservation := hres
  current := ⟨id, by simp [hcur], fun _ => {}⟩
  control h := by
    rcases hctl with hctl | hctl
    · exact .inl (hctl ▸ h)
    · exact absurd h hctl

section
variable {P : State → Prop} (k : Kept P) {s : State}
include k

theorem Kept.modPiece (m : Nat) (f : Piece → Piece) (hf : ∀ p ∈ s.piece.recs, PieceKept s p (f p))
    (h : P s) : P (modPiece m f s) := by
  refine k.pieces _ (fun p hp => ?_) h
  split
  · exact hf p hp
  · exact .refl s p

/-- A record changed in nothing but what no account comes from. -/
theorem Kept.modPiece_account (m : Nat) (f : Piece → Piece)
    (hnumber : ∀ p, (f p).number = p.number) (hmark : ∀ p, (f p).mark = p.mark)
    (haccount : ∀ p, (f p).account = p.account) (h : P s) : P (Machine.modPiece m f s) :=
  k.modPiece m f (fun p _ => ⟨hnumber p, hmark p, fun _ ha => accountFrom_of_mem (haccount p ▸ ha)⟩) h

theorem Kept.modCrane (c : Fin 4) (f : Crane → Crane) (hf : CraneKept s (s.crane c) (f (s.crane c)))
    (h : P s) : P (modCrane c f s) := by
  refine k.cranes (tset s.runway.cranes c (f (s.crane c))) (fun j => ?_) h
  rw [tget_tset]
  split
  case isTrue hj => exact hj ▸ hf
  case isFalse => exact .refl s _

theorem Kept.modCurrent (c : Fin 4) (f : CraneOrder → CraneOrder) (hf : ∀ o, OrderKept o (f o))
    (h : P s) : P (modCurrent c f s) :=
  k.modCrane c _ { current := ⟨f, rfl, hf⟩, control := .inl } h

theorem Kept.noteOpportunity (h : P s) : P (noteOpportunity s) := k.plain {} h

theorem Kept.setHook (c : Fin 4) (m : Option Nat) (h : P s) : P (setHook c m s) :=
  k.noteOpportunity (k.modCrane c _ (.of_same rfl rfl (.inl rfl)) h)

theorem Kept.refreshReady (m : Nat) (h : P s) : P (refreshReady m s) := by
  have hready : ∀ b, P (Machine.modPiece m (fun q => { q with ready := b }) s) :=
    fun b => k.modPiece_account m _ (fun _ => rfl) (fun _ => rfl) (fun _ => rfl) h
  unfold Machine.refreshReady
  dsimp only
  repeat' split
  all_goals first | exact h | exact k.raise _ _ _ (hready _) | exact hready _

theorem Kept.relevel (n : Fin 1024) (h : P s) : P (relevel n s) := by
  refine k.pieces _ (fun p _ => ?_) h
  split
  · split
    · exact ⟨rfl, rfl, fun _ ha => accountFrom_of_mem ha⟩
    · exact .refl s p
  · exact .refl s p

theorem Kept.unstack (n : Fin 1024) (m : Nat) (h : P s) : P (unstack n m s) :=
  k.noteOpportunity (k.relevel n (k.slot n _ ⟨rfl, .inl List.length_erase_le⟩ h))

theorem Kept.hookPiece (c : Fin 4) (m : Nat) (h : P s) : P (hookPiece c m s) :=
  k.setHook c _ (k.modPiece_account m _ (fun _ => rfl) (fun _ => rfl) (fun _ => rfl) h)

theorem Kept.takeBedAccount (b : Fin 24) (m : Nat) (h : P s) : P (takeBedAccount b m s) := by
  refine k.modPiece m _ (fun p _ => ⟨rfl, rfl, fun a ha => ?_⟩) h
  obtain rfl := Option.some.inj ha
  exact .inr (.inr ⟨b, rfl, rfl⟩)

theorem Kept.pickFromSlot (n : Fin 1024) (c : Fin 4) (m : Nat) (h : P s) :
    P (pickFromSlot n c m s) := by
  refine k.hookPiece c m (k.unstack n m ?_)
  split
  · exact h
  · exact k.plain {} h

theorem Kept.pushPiece (n : Fin 1024) (m : Nat) (hroom : s.slotRoom n = true) (h : P s) :
    P (pushPiece n m s) := by
  refine k.refreshReady m (k.modPiece_account m _ (fun _ => rfl) (fun _ => rfl) (fun _ => rfl) ?_)
  exact k.noteOpportunity (k.slot n _ ⟨rfl, .inr ⟨by simp, hroom⟩⟩ h)

theorem Kept.strandPiece (m : Nat) (h : P s) : P (strandPiece m s) :=
  k.modPiece_account m _ (fun _ => rfl) (fun _ => rfl) (fun _ => rfl) h

theorem Kept.strandFromHook (c : Fin 4) (m : Nat) (h : P s) : P (strandFromHook c m s) :=
  k.raise _ _ _ (k.setHook c none (k.strandPiece m h))

theorem Kept.returnPiece (n : Fin 1024) (c : Fin 4) (m : Nat) (h : P s) :
    P (returnPiece n c m s) := by
  unfold Machine.returnPiece
  split
  case isTrue hroom => exact k.pushPiece n m hroom (k.setHook c none h)
  case isFalse => exact k.strandFromHook c m h

theorem Kept.dispatchPiece (c : Fin 4) (m : Nat) (h : P s) : P (dispatchPiece c m s) := by
  unfold Machine.dispatchPiece
  split
  · exact k.setHook c none (k.erase m (k.raise2 _ _ _ _ h))
  · exact k.setHook c none h

theorem Kept.detachPiece (p : Piece) (h : P s) : P (detachPiece p s) := by
  unfold Machine.detachPiece
  split
  · exact k.removeLine _ _ h
  · exact k.unstack _ _ h
  · exact k.setHook _ none h
  · exact h

end

/-! ### Halts -/

/-- A masked cause, and NOTICE_OVERFLOW, only set their flag (R156). -/
theorem recordCause_masked {s : State} {c : Cause} (u : Subject) (v : Int) (n : Nat)
    (h : c = .noticeOverflow ∨ (s.cause c).masked = true) :
    recordCause c u v n s = updateAttn (modCause c (fun x => { x with flag := true }) s) :=
  if_pos h

/-- Any other cause puts its record in the queue, and NOTICE_OVERFLOW is set where that discards one. -/
theorem recordCause_unmasked {s : State} {c : Cause} (u : Subject) (v : Int) (n : Nat)
    (h : ¬(c = .noticeOverflow ∨ (s.cause c).masked = true)) :
    recordCause c u v n s =
      let q := queueNotice (NoticeQueueProofs.noticeOf c u v n s) s.notice.queue
      let t := setNoticeQueue q.1 (modCause c (fun x => { x with flag := true }) s)
      updateAttn (if q.2 then modCause .noticeOverflow (fun x => { x with flag := true }) t else t) :=
  if_neg h

/-- What a raised cause records depends on the notice unit and the works minute alone. -/
theorem recordCause_congr {s t : State} (c : Cause) (u : Subject) (v : Int) (n : Nat)
    (hnotice : t.notice = s.notice) (hsup : t.sup = s.sup) :
    recordCause c u v n t = { t with notice := (recordCause c u v n s).notice } := by
  have hcause : t.cause = s.cause := by unfold State.cause; rw [hnotice]
  have hnew : NoticeQueueProofs.noticeOf c u v n t = NoticeQueueProofs.noticeOf c u v n s := by
    simp only [NoticeQueueProofs.noticeOf, hcause, hsup]
  by_cases hmask : c = .noticeOverflow ∨ (s.cause c).masked = true
  · rw [recordCause_masked u v n hmask, recordCause_masked u v n (hcause ▸ hmask)]
    simp only [updateAttn, modCause, hnotice, hcause]
  · rw [recordCause_unmasked u v n hmask, recordCause_unmasked u v n (hcause ▸ hmask), hnew, hnotice]
    dsimp only
    split
    · simp only [updateAttn, modCause, setNoticeQueue, State.cause, hnotice]
    · simp only [updateAttn, modCause, setNoticeQueue, hnotice, hcause]

/-- The notice unit has a record to send and somewhere to send it (R159). -/
def mayOffer (s : State) : Prop :=
  s.mgmt.noticeStation ≠ none ∧ s.notice.queue ≠ [] ∧ s.noticeInLane = false
    ∧ s.line.portP.normal.length < 16

theorem offerNotice_held {s : State} (h : ¬mayOffer s) : offerNotice s = s := by
  unfold offerNotice
  split
  case h_1 dst n hst hn =>
    refine if_pos ?_
    have hq : s.notice.queue ≠ [] := by
      intro hq
      simp [hq, firstNotice] at hn
    by_contra hlane
    simp only [Bool.or_eq_true, decide_eq_true_eq, not_or, Bool.not_eq_true, not_le] at hlane
    exact h ⟨by simp [hst], hq, hlane.1, hlane.2⟩
  case h_2 => rfl

/-- The record sent: its frame at the young end of the lane, with the counter's next value (R147, R159). -/
theorem offerNotice_sent {s : State} {dst : Station} {n : Notice}
    (hst : s.mgmt.noticeStation = some dst) (hn : firstNotice s.notice.queue = some n)
    (hlane : s.noticeInLane = false) (hroom : s.line.portP.normal.length < 16) :
    offerNotice s =
      let t := nextLineSeq (setNoticeQueue (s.notice.queue.erase n) s)
      modPort .pPort (fun u => { u with normal := u.normal ++ [noticeFrame t dst n] }) t := by
  have hfree : ¬(s.noticeInLane || decide (Config.normalDepth ≤ s.line.portP.normal.length)) = true := by
    simp [hlane, Config.normalDepth, hroom]
  simp only [offerNotice, hst, hn, if_neg hfree]

theorem mayOffer.exists {s : State} (h : mayOffer s) :
    ∃ dst n, s.mgmt.noticeStation = some dst ∧ firstNotice s.notice.queue = some n := by
  obtain ⟨hst, hq, -⟩ := h
  obtain ⟨dst, hdst⟩ := Option.ne_none_iff_exists'.1 hst
  obtain ⟨n, hn⟩ := Option.ne_none_iff_exists'.1 (mt NoticeQueueProofs.firstNotice_eq_none_iff.1 hq)
  exact ⟨dst, n, hdst, hn⟩

/-- A notice offered depends on port P, the notice unit and the two stations alone. -/
theorem offerNotice_congr {s t : State} (hportP : t.line.portP = s.line.portP)
    (hseq : t.line.seq = s.line.seq) (hnotice : t.notice = s.notice) (hmgmt : t.mgmt = s.mgmt)
    (hsup : t.sup = s.sup) :
    offerNotice t = { t with
      line := { t.line with portP := (offerNotice s).line.portP, seq := (offerNotice s).line.seq }
      notice := (offerNotice s).notice } := by
  have hlane : t.noticeInLane = s.noticeInLane := by simp only [State.noticeInLane, hportP]
  by_cases h : mayOffer s
  · obtain ⟨dst, n, hst, hn⟩ := h.exists
    obtain ⟨-, -, hno, hroom⟩ := h
    rw [offerNotice_sent hst hn hno hroom, offerNotice_sent (dst := dst) (n := n) (by rw [hmgmt, hst])
      (by rw [hnotice, hn]) (by rw [hlane, hno]) (by rw [hportP]; exact hroom)]
    simp only [modPort, nextLineSeq, setNoticeQueue, noticeFrame, State.station, hportP, hseq, hnotice,
      hsup]
  · have ht : ¬mayOffer t := by simpa only [mayOffer, hmgmt, hnotice, hlane, hportP] using h
    rw [offerNotice_held h, offerNotice_held ht, ← hportP, ← hseq, ← hnotice]

theorem raise_congr {s t : State} (c : Cause) (u : Subject) (v : Int)
    (hportP : t.line.portP = s.line.portP) (hseq : t.line.seq = s.line.seq)
    (hnotice : t.notice = s.notice) (hmgmt : t.mgmt = s.mgmt) (hsup : t.sup = s.sup) :
    raise c u v t = { t with
      line := { t.line with portP := (raise c u v s).line.portP, seq := (raise c u v s).line.seq }
      notice := (raise c u v s).notice } := by
  unfold raise raise2
  rw [recordCause_congr c u v 0 hnotice hsup]
  exact offerNotice_congr (by simpa using hportP) (by simpa using hseq) rfl (by simpa using hmgmt)
    (by simpa using hsup)

/-- A cause raised changes the state in the line unit and the notice unit alone. -/
theorem raise_eq (c : Cause) (u : Subject) (v : Int) (s : State) :
    raise c u v s = { s with
      line := { s.line with portP := (raise c u v s).line.portP, seq := (raise c u v s).line.seq }
      notice := (raise c u v s).notice } :=
  raise_congr c u v rfl rfl rfl rfl rfl

/-- Port F's queues play no part in raising a cause. -/
theorem raise_modPortF (c : Cause) (u : Subject) (v : Int) (g : PortUnit → PortUnit) (s : State) :
    raise c u v (modPort .fPort g s) = modPort .fPort g (raise c u v s) := by
  rw [raise_congr (s := s) (t := modPort .fPort g s) c u v rfl rfl rfl rfl rfl, raise_eq c u v s]
  rfl

theorem dropWaitFor_modPortF (f : Frame) (g : PortUnit → PortUnit) (s : State) :
    dropWaitFor f (modPort .fPort g s) = modPort .fPort g (dropWaitFor f s) := by
  have hrec : (modPort .fPort g s).heatRec = s.heatRec := rfl
  unfold dropWaitFor
  rw [hrec]
  repeat' split
  all_goals rfl

theorem takeHeat_some {lane rest : List Frame} {g : Frame} (h : takeHeat lane = some (g, rest)) :
    rest.length + 1 = lane.length ∧ ∀ x ∈ rest, x ∈ lane := by
  unfold takeHeat at h
  split at h
  case h_2 => cases h
  case h_1 f hfind =>
    obtain ⟨-, rfl⟩ := Prod.mk.inj (Option.some.inj h)
    have hmem := List.mem_of_find?_eq_some hfind
    refine ⟨?_, fun x hx => List.mem_of_mem_eraseP hx⟩
    rw [List.length_eraseP_of_mem hmem (List.find?_some hfind)]
    have := List.length_pos_of_mem hmem
    omega

theorem dropTail_some {lane rest : List Frame} {g : Frame} (h : dropTail lane = some (g, rest)) :
    rest.length + 1 = lane.length ∧ ∀ x ∈ rest, x ∈ lane := by
  unfold dropTail at h
  split at h
  case h_1 f hfind =>
    obtain ⟨-, rfl⟩ := Prod.mk.inj (Option.some.inj h)
    have hmem := List.mem_of_find?_eq_some hfind
    refine ⟨?_, fun x hx => ?_⟩
    · rw [List.length_reverse, List.length_eraseP_of_mem hmem (List.find?_some hfind)]
      have := List.length_pos_of_mem hmem
      simp only [List.length_reverse] at *
      omega
    · exact List.mem_reverse.1 (List.mem_of_mem_eraseP (List.mem_reverse.1 hx))
  case h_2 =>
    split at h
    case h_2 => cases h
    case h_1 f tail hlane =>
      obtain ⟨-, rfl⟩ := Prod.mk.inj (Option.some.inj h)
      obtain rfl := List.reverse_eq_iff.1 hlane
      simp +contextual

theorem dropTail_none {lane : List Frame} (h : dropTail lane = none) : lane = [] := by
  unfold dropTail at h
  split at h
  · cases h
  · split at h
    · cases h
    · next hlane => simpa using hlane

/-- A HALT at the head of the normal lane: the frames it is put before, and what the displaced one leaves. -/
theorem haltAtHead_makeHaltRoom (f : Frame) (s : State) :
    ∃ rest : List Frame, ∃ leave : State → State,
      haltAtHead f (makeHaltRoom s) = leave (modPort .fPort (fun u => { u with normal := f :: rest }) s)
      ∧ rest.length < max 16 s.line.portF.normal.length ∧ (∀ g ∈ rest, g ∈ s.line.portF.normal)
      ∧ (leave = id ∨ (∃ g, leave = dropWaitFor g) ∨ ∃ g : Frame,
          leave = raise .insertOverflow (.port .fPort) g.kind.toNat) := by
  unfold makeHaltRoom
  split
  case h_1 g rest hheat =>
    obtain ⟨hlength, hmem⟩ := takeHeat_some hheat
    refine ⟨rest, dropWaitFor g, ?_, by omega, hmem, .inr (.inl ⟨g, rfl⟩)⟩
    rw [haltAtHead, setNormalF, dropWaitFor_modPortF, dropWaitFor_modPortF]
    rfl
  case h_2 =>
    split
    case isTrue hroom =>
      have hlt : s.line.portF.normal.length < 16 := of_decide_eq_true hroom
      exact ⟨s.line.portF.normal, id, rfl, by omega, fun _ h => h, .inl rfl⟩
    case isFalse =>
      split
      case h_1 g rest htail =>
        obtain ⟨hlength, hmem⟩ := dropTail_some htail
        refine ⟨rest, raise .insertOverflow (.port .fPort) g.kind.toNat, ?_, by omega, hmem,
          .inr (.inr ⟨g, rfl⟩)⟩
        rw [haltAtHead, setNormalF, raise_modPortF, raise_modPortF]
        rfl
      case h_2 hnone =>
        have hempty := dropTail_none hnone
        exact ⟨s.line.portF.normal, id, rfl, by simp [hempty], fun _ h => h, .inl rfl⟩

section
variable {P : State → Prop} (k : Kept P) {s : State}
include k

theorem Kept.offerHalt (f : Frame) (hfit : fitFor .fPort f) (h : P s) : P (offerHalt f s) := by
  unfold Machine.offerHalt
  split
  case isTrue hroom => exact k.line (.urgent f hroom hfit) h
  case isFalse =>
    obtain ⟨rest, leave, heq, hlength, hrest, hleave⟩ := haltAtHead_makeHaltRoom f s
    have hhead : P (modPort .fPort (fun u => { u with normal := f :: rest }) s) :=
      k.line (.head f rest hfit hlength hrest) h
    rw [heq]
    rcases hleave with rfl | ⟨g, rfl⟩ | ⟨g, rfl⟩
    · exact hhead
    · exact k.dropWaitFor g hhead
    · exact k.raise _ _ _ hhead

theorem Kept.haltCrane (c : Fin 4) (r : HaltReason) (h : P s) : P (haltCrane c r s) := by
  have hsent : P (Machine.offerHalt (haltFrame (nextLineSeq s) c r) (nextLineSeq s)) :=
    k.offerHalt _ (fitFor_ringFrame ..) (k.plain {} h)
  exact k.modCrane c (fun x => { x with control := .halted, lastHalt := some r })
    (.of_same rfl rfl (.inr (by simp))) hsent

theorem Kept.mismatch (c : Fin 4) (v : Nat) (h : P s) : P (mismatch c v s) := k.raise _ _ _ h

end

end Sys2Proof.StepProofs
end

section
/-! SUPPORT. The laws kept by the admission of orders, the waiting queue and the first crane reports. -/
namespace Sys2Proof.StepProofs

open Sys2Proof Sys2Proof.Machine

/-! ### Orders -/

theorem WaitingKept.of_sublist {s : State} {l : List CraneOrder} (h : l.Sublist s.runway.waiting) :
    WaitingKept s l where
  all := h.length_le.trans (le_max_right ..)
  each _ := (h.filter _).length_le.trans (le_max_right ..)

/-- A waiting order put at the young end of a queue that has room for it (R127). -/
theorem WaitingKept.of_room {s : State} {o : CraneOrder} (hall : s.runway.waiting.length < 16)
    (heach : (s.runway.waiting.filter fun w => w.crane = o.crane).length < 4) :
    WaitingKept s (s.runway.waiting ++ [o]) where
  all := by simp; omega
  each c := by
    by_cases hc : o.crane = c
    · subst hc; simp; omega
    · simp [hc]

section
variable {P : State → Prop} (k : Kept P) {s : State}
include k

theorem Kept.unqueue (o : CraneOrder) (h : P s) : P (unqueue o s) :=
  k.waiting _ (.of_sublist List.erase_sublist) h

theorem Kept.admitOrder (o : CraneOrder) (htrial : s.trial o = .admitted) (h : P s) :
    P (admitOrder o s) :=
  k.answerOrder o _ (k.offerNormal .fPort _ (fitFor_withRingMark _) nofun (k.admission o htrial h))

theorem Kept.passOne (acc : List (Fin 4) × State) (o : CraneOrder) (h : P acc.2) :
    P (passOne acc o).2 := by
  unfold Machine.passOne
  split
  · exact h
  · split
    case h_1 htrial => exact k.admitOrder o (s := Machine.unqueue o acc.2) htrial (k.unqueue o h)
    case h_2 => exact k.answerOrder o _ (k.unqueue o h)
    case h_3 => exact h

theorem Kept.admissionPass (h : P s) : P (admissionPass s) :=
  List.foldlRecOn (motive := fun acc : List (Fin 4) × State => P acc.2) _ _ h
    fun acc hacc o _ => k.passOne acc o hacc

theorem Kept.settle (h : P s) : P (settle s) := by
  unfold Machine.settle
  generalize s.runway.opportunities + s.runway.waiting.length = n
  induction n generalizing s with
  | zero => exact h
  | succ n ih =>
    unfold takeOpportunities
    split
    · exact h
    · exact ih (k.admissionPass (k.plain {} h))

theorem Kept.enqueueOrder (o : CraneOrder) (h : P s) : P (enqueueOrder o s) := by
  unfold Machine.enqueueOrder
  dsimp only
  split
  · exact k.answerOrder o _ h
  · split
    · exact k.answerOrder o _ h
    · rename_i hroom _
      simp only [not_or, not_le] at hroom
      exact k.answerOrder o _ (k.waiting _ (.of_room hroom.1 hroom.2) h)

theorem Kept.tryOrder (o : CraneOrder) (h : P s) : P (tryOrder o s) := by
  unfold Machine.tryOrder
  split
  case h_1 => exact k.answerOrder o _ h
  case h_2 => exact k.enqueueOrder o h
  case h_3 htrial =>
    split
    · exact k.enqueueOrder o h
    · exact k.admitOrder o htrial h

theorem Kept.refuseForm (f : Frame) (code : RefusalCode) (h : P s) : P (refuseForm f code s) :=
  k.plain {} (k.answerTo f (answerHead f s) (.refused code) h)

theorem Kept.takeOrder (f : Frame) (h : P s) : P (takeOrder f s) := by
  unfold Machine.takeOrder
  repeat' split
  · exact k.refuseForm f _ h
  · exact k.refuseForm f _ h
  · exact k.refuseForm f _ h
  · exact k.refuseForm f _ h
  · unfold takeFormed
    split
    · split
      · exact k.answerTo f _ _ h
      · exact k.refuseForm f _ h
    · exact k.tryOrder _ h

theorem Kept.expireWait (c : Fin 4) (tag : Nat) (h : P s) : P (expireWait c tag s) := by
  unfold Machine.expireWait
  split
  · split
    · exact k.noteOpportunity (k.answerOrder _ _ (k.unqueue _ h))
    · exact h
  · exact h

theorem Kept.endReleased (c : Fin 4) (o : CraneOrder) (hcur : (s.crane c).current = some o) (h : P s) :
    P (endOrder c (releaseFor o.task s)) := by
  have hend := k.release c o hcur h
  unfold dropClaim at hend
  unfold releaseFor
  split
  case h_1 n hn =>
    rw [hn] at hend
    exact k.plain {} hend
  case h_2 hn =>
    rw [hn] at hend
    exact hend

theorem Kept.lapseOrder (c : Fin 4) (h : P s) : P (lapseOrder c s) := by
  unfold Machine.lapseOrder
  split
  case h_1 o hcur =>
    split
    · exact k.raise _ _ _ (k.answerOrder _ _ (k.endReleased c o hcur h))
    · exact h
  case h_2 => exact h

theorem Kept.loseCrane (c : Fin 4) (h : P s) : P (loseCrane c s) := by
  unfold Machine.loseCrane
  split
  · exact k.noteOpportunity (k.raise _ _ _ (k.modCrane c _ (.of_same rfl rfl (.inl rfl)) h))
  · exact h

/-! ### Reports -/

theorem Kept.takePosition (c : Fin 4) (pos : Nat) (h : P s) : P (takePosition c pos s) := by
  have hpos : P (Machine.modCrane c (positionCrane (s.craneEntry c).clearance pos) s) :=
    k.modCrane c _ (.of_same rfl rfl (.inl rfl)) h
  unfold Machine.takePosition overrunTest
  split
  · exact k.raise _ _ _ (k.haltCrane c _ hpos)
  · exact hpos

theorem Kept.takeReport (f : Frame) (act : Fin 4 → ReportFields → State → State)
    (hact : ∀ c r t, P t → P (act c r t)) (h : P s) : P (takeReport f act s) := by
  unfold Machine.takeReport
  split
  · exact h
  · split
    · exact k.plain {} h
    · have hdone := hact ‹_› ‹_› _ (k.takePosition ‹_› (ReportFields.position ‹_›) h)
      refine k.settle ?_
      split
      · exact hdone
      · exact k.noteOpportunity hdone

omit k in
theorem activate_kept (o : CraneOrder) : OrderKept o (activate o) := by
  unfold activate
  split <;> exact {}

theorem Kept.activateCurrent (c : Fin 4) (h : P s) : P (Machine.modCurrent c activate s) :=
  k.modCurrent c _ activate_kept h

theorem Kept.takeStarted (c : Fin 4) (r : ReportFields) (h : P s) : P (takeStarted c r s) := by
  unfold Machine.takeStarted lateStart
  split
  · exact k.activateCurrent c h
  · exact k.raise _ _ _ (k.haltCrane c _ h)

theorem Kept.setBinding (c : Fin 4) (b : Binding) (h : P s) : P (setBinding c b s) :=
  k.modCurrent c _ (fun _ => {}) h

theorem Kept.countAt (n : Fin 1024) {count : Fin 16 → State → State}
    (hcount : ∀ a t, ∃ f : Area → Area, count a t = modArea a f t ∧ ∀ x, AreaKept x (f x)) (h : P s) :
    P (countAt n count s) := by
  unfold Machine.countAt
  split
  case h_1 a _ =>
    obtain ⟨f, heq, hf⟩ := hcount a s
    rw [heq]
    exact k.area a f (hf _) h
  case h_2 => exact h

theorem Kept.failBinding (c : Fin 4) (n : Fin 1024) (r : HaltReason) (m : Nat) (h : P s) :
    P (failBinding c n r m s) :=
  k.mismatch c m (k.haltCrane c r (k.countAt n (fun _ _ => ⟨_, rfl, fun _ => {}⟩)
    (k.setBinding c .failed h)))

theorem Kept.bindMoved (c : Fin 4) (m : Nat) (h : P s) : P (bindMoved c m s) :=
  k.setBinding c _ (k.hookPiece c m h)

theorem Kept.bindMark (c : Fin 4) (o : CraneOrder) (n : Fin 1024) (m : Nat) (h : P s) :
    P (bindMark c o n m s) := by
  have hconfirmed : P (Machine.countAt n countConfirmed s) :=
    k.countAt n (fun _ _ => ⟨_, rfl, fun _ => {}⟩) h
  have hrelocated : P (Machine.countAt n countRelocated s) :=
    k.countAt n (fun _ _ => ⟨_, rfl, fun _ => {}⟩) h
  unfold Machine.bindMark
  split
  case h_1 hnone =>
    split
    case isTrue hfree =>
      have hnew : P (Machine.createPiece (censusPiece s c o m) s) := by
        refine k.create _ hnone hfree (fun a ha => ?_) h
        obtain rfl := Option.some.inj ha
        exact ⟨Nat.zero_le _, Nat.zero_le _⟩
      exact k.setBinding c _ (k.setHook c _ (k.countAt n (fun _ _ => ⟨_, rfl, fun _ => {}⟩) hnew))
    case isFalse => exact k.failBinding c n _ m h
  case h_2 =>
    repeat' split
    · exact k.failBinding c n _ m h
    · exact k.bindMoved c m (k.unstack n m hconfirmed)
    · exact k.bindMoved c m (k.unstack _ m hrelocated)
    · exact k.bindMoved c m hrelocated
    · exact k.failBinding c n _ m h

theorem Kept.bindLifted (c : Fin 4) (o : CraneOrder) (n : Fin 1024) (h : P s) :
    P (bindLifted c o n s) := by
  unfold Machine.bindLifted
  split
  · exact k.bindMark c o n _ h
  · exact k.failBinding c n .unscanned 0 h

theorem Kept.liftBySource (c : Fin 4) (o : CraneOrder) (src : Source) (h : P s) :
    P (liftBySource c o src s) := by
  unfold Machine.liftBySource
  repeat' split
  · exact k.removeLine _ _ (k.hookPiece c _ (k.takeBedAccount _ _ h))
  · exact h
  · exact k.bindLifted c o _ h
  · exact h
  · exact k.pickFromSlot _ c _ h
  · exact h
  · exact h

theorem Kept.takeLift (c : Fin 4) (h : P s) : P (takeLift c s) := by
  unfold Machine.takeLift
  repeat' split
  · exact h
  · exact k.liftBySource c _ _ (k.modCurrent c _ (fun _ => {}) h)
  · exact h
  · exact h

theorem Kept.takeLifted (c : Fin 4) (r : ReportFields) (h : P s) : P (takeLifted c r s) := by
  have hstart := k.activateCurrent c h
  unfold Machine.takeLifted
  dsimp only
  repeat' split
  · exact k.plain {} hstart
  · exact k.takeLift c hstart
  · exact hstart
  · exact k.plain {} h

end

end Sys2Proof.StepProofs
end

section
/-! SUPPORT. The laws kept by the completion and the abort of an order, which end it in one change. -/
namespace Sys2Proof.StepProofs

open Sys2Proof Sys2Proof.Machine

/-! ### The end of an order

The law of the yard holds again only when the claim is given back and the order has ended, so what a report
does between the two is moved out of their way. -/

theorem tset_tset {α : Type} {n : Nat} (v : Vector α n) (i : Fin n) (x y : α) :
    tset (tset v i x) i y = tset v i y := by
  ext j hj
  simp only [tset, Vector.getElem_set]
  split <;> rfl

theorem modCrane_modCrane (c : Fin 4) (f g : Crane → Crane) (s : State) :
    modCrane c f (modCrane c g s) = modCrane c (fun x => f (g x)) s := by
  simp only [modCrane, State.crane, tget_tset_self, tset_tset]

theorem modSlot_modSlot (n : Fin 1024) (f g : Slot → Slot) (s : State) :
    modSlot n f (modSlot n g s) = modSlot n (fun x => f (g x)) s := by
  simp only [modSlot, State.slot, tget_tset_self, tset_tset]

section
variable (c : Fin 4) (s : State)

theorem endOrder_raise (e : Cause) (u : Subject) (v : Int) :
    endOrder c (raise e u v s) = raise e u v (endOrder c s) := by
  rw [raise_congr (s := s) (t := endOrder c s) e u v rfl rfl rfl rfl rfl, raise_eq e u v s]
  rfl

theorem endOrder_setHook (m : Option Nat) :
    endOrder c (setHook c m s) = setHook c m (endOrder c s) := by
  have h : ∀ f t, modCrane c f (noteOpportunity t) = noteOpportunity (modCrane c f t) := fun _ _ => rfl
  simp only [endOrder, setHook, h, modCrane_modCrane]

theorem endOrder_refreshReady (m : Nat) :
    endOrder c (refreshReady m s) = refreshReady m (endOrder c s) := by
  have hfind : (endOrder c s).findPiece m = s.findPiece m := rfl
  have hready : (endOrder c s).pieceReady = s.pieceReady := rfl
  unfold refreshReady
  rw [hfind]
  cases s.findPiece m with
  | none => rfl
  | some p =>
    simp only [hready]
    split
    · exact endOrder_raise c _ _ _ _
    · rfl

theorem endOrder_pushPiece (n : Fin 1024) (m : Nat) :
    endOrder c (pushPiece n m s) = pushPiece n m (endOrder c s) :=
  endOrder_refreshReady c _ m

theorem endOrder_strandFromHook (m : Nat) :
    endOrder c (strandFromHook c m s) = strandFromHook c m (endOrder c s) := by
  have hstrand : endOrder c (strandPiece m s) = strandPiece m (endOrder c s) := rfl
  rw [strandFromHook, endOrder_raise, endOrder_setHook, hstrand]
  rfl

theorem endOrder_returnPiece (n : Fin 1024) (m : Nat) :
    endOrder c (returnPiece n c m s) = returnPiece n c m (endOrder c s) := by
  have hroom : (endOrder c s).slotRoom n = s.slotRoom n := rfl
  unfold returnPiece
  rw [hroom]
  split
  · rw [endOrder_pushPiece, endOrder_setHook]
  · exact endOrder_strandFromHook c s m

theorem endOrder_settleAbort (o : CraneOrder) (src : Source) (loaded : Bool) :
    endOrder c (settleAbort c o src loaded s) = settleAbort c o src loaded (endOrder c s) := by
  unfold settleAbort
  cases loaded with
  | true => rfl
  | false =>
    cases o.piece with
    | none => cases src <;> rfl
    | some m =>
      cases src with
      | bed b => cases o.lifted with
        | true => exact endOrder_strandFromHook c s m
        | false => rfl
      | slot n =>
        simp only [Bool.false_eq_true, if_false]
        split
        · exact endOrder_returnPiece c s n m
        · rfl
      | hook => exact endOrder_strandFromHook c s m

/-- A push that gives a claim back, its order ended first. -/
theorem endOrder_placePiece (n : Fin 1024) (m : Nat) :
    endOrder c (placePiece n c m s) = refreshReady m (modPiece m
      (fun p => { p with state := .inStock, location := .slot n ((s.slot n).stack.length + 1) })
      (noteOpportunity (setHook c none (endOrder c
        (modSlot n (fun x => { stack := x.stack ++ [m], claims := x.claims - 1 }) s))))) := by
  have hslot : ((setHook c none (modSlot n (fun x => { x with claims := x.claims - 1 }) s)).slot n).stack
      = (s.slot n).stack := by simp [setHook]
  have hrecord : ∀ g t, endOrder c (modPiece m g t) = modPiece m g (endOrder c t) := fun _ _ => rfl
  have hnote : ∀ t, endOrder c (noteOpportunity t) = noteOpportunity (endOrder c t) := fun _ => rfl
  have hmove : ∀ g t, endOrder c (modSlot n g (setHook c none t))
      = modSlot n g (endOrder c (setHook c none t)) := fun _ _ => rfl
  have hback : ∀ g t, modSlot n g (setHook c none (endOrder c t))
      = setHook c none (endOrder c (modSlot n g t)) := fun _ _ => rfl
  rw [placePiece, pushPiece, hslot, endOrder_refreshReady]
  simp only [hrecord, hnote, hmove, endOrder_setHook, hback, modSlot_modSlot]

end

/-! ### A claim given back past a halt -/

section
variable (n : Fin 1024) (s : State)

theorem raise_releaseClaim (e : Cause) (u : Subject) (v : Int) :
    raise e u v (releaseClaim n s) = releaseClaim n (raise e u v s) := by
  rw [raise_congr (s := s) (t := releaseClaim n s) e u v rfl rfl rfl rfl rfl, raise_eq e u v s]
  rfl

theorem dropWaitFor_releaseClaim (f : Frame) :
    dropWaitFor f (releaseClaim n s) = releaseClaim n (dropWaitFor f s) := by
  have hrec : (releaseClaim n s).heatRec = s.heatRec := rfl
  unfold dropWaitFor
  rw [hrec]
  repeat' split
  all_goals rfl

theorem makeHaltRoom_releaseClaim :
    makeHaltRoom (releaseClaim n s) = releaseClaim n (makeHaltRoom s) := by
  have hlane : (releaseClaim n s).line = s.line := rfl
  have hroom : (releaseClaim n s).laneRoom = s.laneRoom := rfl
  have hset : ∀ l, setNormalF l (releaseClaim n s) = releaseClaim n (setNormalF l s) := fun _ => rfl
  unfold makeHaltRoom
  rw [hlane, hroom]
  split
  · rw [hset, dropWaitFor_releaseClaim]
  · split
    · rfl
    · split
      · rw [hset, raise_releaseClaim]
      · rfl

theorem haltCrane_releaseClaim (c : Fin 4) (r : HaltReason) :
    haltCrane c r (releaseClaim n s) = releaseClaim n (haltCrane c r s) := by
  have hhead : ∀ f t, haltAtHead f (releaseClaim n t) = releaseClaim n (haltAtHead f t) :=
    fun _ _ => rfl
  have hoffer : ∀ f t, offerHalt f (releaseClaim n t) = releaseClaim n (offerHalt f t) := by
    intro f t
    have hroom : (releaseClaim n t).urgentRoom = t.urgentRoom := rfl
    unfold offerHalt
    rw [hroom]
    split
    · rfl
    · rw [makeHaltRoom_releaseClaim, hhead]
  have hseq : nextLineSeq (releaseClaim n s) = releaseClaim n (nextLineSeq s) := rfl
  have hframe : ∀ t, haltFrame (releaseClaim n t) c r = haltFrame t c r := fun _ => rfl
  simp only [haltCrane]
  rw [hseq, hframe, hoffer]
  rfl

/-- A halt for an order whose binding failed keeps the order and its claim until the order ends. -/
theorem haltCrane_releaseFor (t : Task) (c : Fin 4) (r : HaltReason) (v : Nat) :
    mismatch c v (haltCrane c r (releaseFor t s)) = releaseFor t (mismatch c v (haltCrane c r s)) := by
  unfold releaseFor
  split
  · rw [haltCrane_releaseClaim, mismatch, raise_releaseClaim, mismatch]
  · rfl

end

section
variable {P : State → Prop} (k : Kept P) {s : State}
include k

theorem Kept.markUnscanned (o : CraneOrder) (m : Nat) (h : P s) : P (markUnscanned o m s) := by
  unfold Machine.markUnscanned
  split
  · exact h
  · exact k.modPiece_account m _ (fun _ => rfl) (fun _ => rfl) (fun _ => rfl) h

omit k in
theorem markUnscanned_crane (o : CraneOrder) (m : Nat) : (markUnscanned o m s).crane = s.crane := by
  unfold markUnscanned
  split <;> simp

omit k in
theorem haltCrane_current (c : Fin 4) (r : HaltReason) :
    ((haltCrane c r s).crane c).current = (s.crane c).current := by
  have hcrane : ∀ f t, (offerHalt f t).crane = t.crane := by
    intro f t
    funext d
    simp [State.crane]
  simp [haltCrane, hcrane]
  rfl

omit k in
theorem dispatchPiece_current (c : Fin 4) (m : Nat) :
    ((Machine.dispatchPiece c m s).crane c).current = (s.crane c).current := by
  have hraise : ∀ e u v n, (Machine.raise2 e u v n s).crane = s.crane :=
    fun _ _ _ _ => funext fun d => by simp [State.crane]
  unfold Machine.dispatchPiece
  split <;> simp [Machine.setHook, hraise]

/-- A delivery and the end of its order (R132). -/
theorem Kept.deliver (c : Fin 4) (o : CraneOrder) (src : Source) (dst : Place)
    (hcur : (s.crane c).current = some o) (htask : o.task = .carry src dst) (h : P s) :
    P (endOrder c (deliver c o dst s)) := by
  unfold Machine.deliver
  split
  case h_1 m _ =>
    have hmark : P (Machine.markUnscanned o m s) := k.markUnscanned o m h
    have hcur' : ((Machine.markUnscanned o m s).crane c).current = some o := by
      rw [markUnscanned_crane, hcur]
    split
    case h_1 n =>
      rw [endOrder_placePiece]
      refine k.refreshReady m (k.modPiece_account m _ (fun _ => rfl) (fun _ => rfl) (fun _ => rfl) ?_)
      exact k.noteOpportunity (k.setHook c none (k.place c o n m hcur' (by rw [htask]; rfl) hmark))
    case h_2 bay =>
      have hend := k.endReleased c o ((dispatchPiece_current c m).trans hcur') (k.dispatchPiece c m hmark)
      simpa only [htask, releaseFor, Task.destSlot] using hend
  case h_2 =>
    rw [haltCrane_releaseFor]
    refine k.endReleased c o ?_ (k.mismatch c 0 (k.haltCrane c _ h))
    have hcrane : (Machine.mismatch c 0 (Machine.haltCrane c .hookMismatch s)).crane
        = (Machine.haltCrane c .hookMismatch s).crane := by
      funext d
      simp [State.crane]
    rw [hcrane, haltCrane_current, hcur]

theorem Kept.finishOrder (c : Fin 4) (h : P s) : P (finishOrder c s) := by
  unfold Machine.finishOrder
  split
  case h_1 o hcur =>
    split
    case h_1 pos htask =>
      have hend := k.endReleased c o hcur h
      simpa only [htask, releaseFor, Task.destSlot] using hend
    case h_2 src dst htask => exact k.deliver c o src dst hcur htask h
  case h_2 => exact h

theorem Kept.takeComplete (c : Fin 4) (r : ReportFields) (h : P s) : P (takeComplete c r s) := by
  unfold Machine.takeComplete
  split
  · exact k.finishOrder c (k.takeLift c (k.activateCurrent c h))
  · exact k.raise _ _ _ h

theorem Kept.settleAbort (c : Fin 4) (o : CraneOrder) (src : Source) (loaded : Bool) (h : P s) :
    P (settleAbort c o src loaded s) := by
  unfold Machine.settleAbort
  repeat' split
  all_goals first
    | exact h
    | exact k.strandFromHook c _ h
    | exact k.returnPiece _ c _ h

theorem Kept.abortOrder (c : Fin 4) (loaded : Bool) (h : P s) : P (abortOrder c loaded s) := by
  unfold Machine.abortOrder
  split
  case h_1 o hcur =>
    have hend := k.endReleased c o hcur h
    split
    case h_1 pos htask => simpa only [htask, releaseFor, Task.destSlot] using hend
    case h_2 src dst htask =>
      rw [endOrder_settleAbort]
      exact k.settleAbort c o src loaded hend
  case h_2 => exact h

theorem Kept.takeAborted (c : Fin 4) (r : ReportFields) (h : P s) : P (takeAborted c r s) := by
  have hstart := k.activateCurrent c h
  unfold Machine.takeAborted
  dsimp only
  split
  · refine k.abortOrder c _ ?_
    split
    · exact k.takeLift c hstart
    · exact hstart
  · exact k.plain {} h

end

end Sys2Proof.StepProofs
end

section
/-! SUPPORT. The laws kept by hook scans, the census requests and the marks of loads over a bed. -/
namespace Sys2Proof.StepProofs

open Sys2Proof Sys2Proof.Machine

/-! ### Scans, releases and the census -/

section
variable {P : State → Prop} (k : Kept P) {s : State}
include k

theorem Kept.takeScan (f : Frame) (h : P s) : P (takeScan f s) := by
  have hscan : ∀ c o src m, P (scanCarry c o src m (noteSeen c s)) := by
    intro c o src m
    have hseen : P (noteSeen c s) := k.modCurrent c _ (fun _ => {}) h
    have hfits : P (noteScanned c (noteSeen c s)) := k.modCurrent c _ (fun _ => {}) hseen
    have hdiffers : P (scanMismatch c m (noteSeen c s)) := k.mismatch c m (k.haltCrane c _ hseen)
    unfold scanCarry
    repeat' split
    · exact hfits
    · exact hdiffers
    · exact hfits
    · exact hdiffers
    · refine k.modCurrent c _ (fun x => ?_) (k.bindMark c o _ m hseen)
      split <;> exact {}
    · exact hseen
  have hcrane : ∀ c m, P (scanCrane c m s) := by
    intro c m
    unfold scanCrane
    repeat' split
    · exact hscan c _ _ m
    all_goals exact h
  unfold Machine.takeScan
  repeat' split
  · exact h
  · exact k.settle (hcrane _ _)
  · exact h
  · exact h

theorem Kept.craneRelease (f : Frame) (h : P s) : P (craneRelease f s) := by
  have hfree : ∀ c, P (releaseCrane c s) := by
    intro c
    refine k.noteOpportunity (k.modCrane c _ ⟨rfl, ⟨id, by simp, fun _ => {}⟩, fun hctl => ?_⟩ h)
    refine .inr (.inl ?_)
    by_contra hcur
    simp [Option.isSome_iff_ne_none.2 hcur] at hctl
  unfold Machine.craneRelease
  repeat' split
  · exact k.reply _ _ _ _ h
  · exact k.reply _ _ _ _ h
  · exact k.reply _ _ _ _ h
  · exact k.reply _ _ _ _ (k.settle (hfree _))
  · exact k.reply _ _ _ _ h

theorem Kept.censusBegin (f : Frame) (h : P s) : P (censusBegin f s) := by
  unfold Machine.censusBegin beginCensus
  repeat' split
  · exact k.reply _ _ _ _ h
  · exact k.reply _ _ _ _ (k.settle h)
  · exact k.reply _ _ _ _ (k.settle (k.noteOpportunity (k.area _ _ {} h)))
  · exact k.reply _ _ _ _ h

theorem Kept.censusEnd (f : Frame) (h : P s) : P (censusEnd f s) := by
  unfold Machine.censusEnd endCensus
  repeat' split
  · exact k.reply _ _ _ _ h
  · exact k.reply _ _ _ _ (k.settle (k.noteOpportunity (k.area _ _ {} h)))
  · exact k.reply _ _ _ _ (k.settle h)
  · exact k.reply _ _ _ _ h

end

/-! ### Panels -/

section
variable (b : Fin 24) (s : State)

/-- A VACANT bed becoming STRESSED changes its record and its margin and hands over an opportunity. -/
def stressRec (s : State) : State :=
  noteOpportunity (refreshMargin b (modBedRec b (enterRec .stressed) s))

theorem enterBed_stressed (h : (s.bedRec b).state = .vacant) :
    enterBed b .stressed s = stressRec b s := by
  simp [enterBed, stressRec, h, watchedState]

theorem raise_stressRec (e : Cause) (u : Subject) (v : Int) :
    raise e u v (stressRec b s) = stressRec b (raise e u v s) := by
  rw [raise_congr (s := s) (t := stressRec b s) e u v rfl rfl rfl rfl rfl, raise_eq e u v s]
  rfl

/-- The orders over a bed are the same before it is stressed. -/
theorem loadOverCrane_stressRec (c : Fin 4) :
    loadOverCrane b c (stressRec b s) = stressRec b (loadOverCrane b c s) := by
  have hover : (stressRec b s).carryOver b c = s.carryOver b c := rfl
  have hmark : ∀ m t, markLoadOver m (stressRec b t) = stressRec b (markLoadOver m t) := by
    intro m t
    cases m <;> rfl
  have hcur : ∀ g, modCurrent c g (stressRec b s) = stressRec b (modCurrent c g s) := fun _ => rfl
  have hhook : ((stressRec b s).crane c).hook = (s.crane c).hook := rfl
  unfold loadOverCrane
  rw [hover]
  split
  · rw [hcur, hmark, hhook, hmark, raise_stressRec]
  · rfl

theorem forEach_loadOverCrane_stressRec :
    forEach (loadOverCrane b) (stressRec b s) = stressRec b (forEach (loadOverCrane b) s) := by
  unfold forEach
  generalize indexes 4 = l
  induction l generalizing s with
  | nil => rfl
  | cons c rest ih => rw [List.foldl_cons, loadOverCrane_stressRec, ih, List.foldl_cons]

end

/-- What each step of a fold over a table brings about for its own index, and every step keeps, the fold
brings about for all. -/
theorem forEach_establishes {n : Nat} (Q : Fin n → State → Prop) (act : Fin n → State → State)
    (hown : ∀ i t, Q i (act i t)) (hkeep : ∀ i j t, Q i t → Q i (act j t)) (s : State) (i : Fin n) :
    Q i (forEach act s) := by
  have hfold : ∀ (l : List (Fin n)) (t : State), i ∈ l ∨ Q i t →
      Q i (l.foldl (fun t i => act i t) t) := by
    intro l
    induction l with
    | nil => exact fun t h => h.resolve_left (by simp)
    | cons j rest ih =>
      intro t h
      refine ih _ ?_
      rcases h with h | h
      · rcases List.mem_cons.1 h with rfl | h
        · exact .inr (hown _ t)
        · exact .inl h
      · exact .inr (hkeep i j t h)
  exact hfold _ s (.inl (mem_indexes i))

/-- A crane's live order over a bed carries LOAD_OVER. -/
def loadMarked (b : Fin 24) (c : Fin 4) (t : State) : Prop :=
  ∀ o ∈ (t.crane c).current, overlapsOpt o.loadedSpan (t.bedSpan b) = true → o.loadOver = true

section
variable (b : Fin 24) (c : Fin 4) (s : State)

theorem markLoadOver_keeps (m : Option Nat) :
    (markLoadOver m s).crane = s.crane ∧ (markLoadOver m s).bed = s.bed := by
  cases m <;> simp [markLoadOver]

theorem loadOverCrane_bed : (loadOverCrane b c s).bed = s.bed := by
  unfold loadOverCrane
  split <;> simp [markLoadOver_keeps]

theorem carryOver_eq_some {o : CraneOrder} : s.carryOver b c = some o ↔
    (s.crane c).current = some o ∧ overlapsOpt o.loadedSpan (s.bedSpan b) = true := by
  unfold State.carryOver
  split
  · split
    · next o' _ hover => constructor
                         · rintro ⟨⟩; simp_all
                         · rintro ⟨h, -⟩; simp_all
    · next o' _ hover => constructor
                         · rintro ⟨⟩
                         · rintro ⟨h, hx⟩; simp_all
  · simp_all

theorem loadOverCrane_crane : (loadOverCrane b c s).crane =
    if (s.carryOver b c).isSome then (modCurrent c (fun x => { x with loadOver := true }) s).crane
    else s.crane := by
  have hraise : ∀ e u v t, (raise e u v t).crane = t.crane :=
    fun _ _ _ _ => funext fun d => by simp [State.crane]
  unfold loadOverCrane
  split
  · next o ho => simp [hraise, markLoadOver_keeps, ho]
  · next ho => simp [ho]

theorem loadOverCrane_marks : loadMarked b c (loadOverCrane b c s) := by
  have hspan : (loadOverCrane b c s).bedSpan b = s.bedSpan b := by
    simp only [State.bedSpan, State.bedEntry, loadOverCrane_bed]
  intro o ho hover
  rw [loadOverCrane_crane] at ho
  rw [hspan] at hover
  split at ho
  · simp only [modCurrent_crane, if_true, Option.mem_def, Option.map_eq_some_iff] at ho
    obtain ⟨x, -, rfl⟩ := ho
    rfl
  · next hno =>
    have hsome := (carryOver_eq_some b c s).2 ⟨ho, hover⟩
    simp [hsome] at hno

theorem loadOverCrane_keeps_marks (d : Fin 4) (h : loadMarked b c s) :
    loadMarked b c (loadOverCrane b d s) := by
  have hspan : (loadOverCrane b d s).bedSpan b = s.bedSpan b := by
    simp only [State.bedSpan, State.bedEntry, loadOverCrane_bed]
  intro o ho hover
  rw [loadOverCrane_crane] at ho
  rw [hspan] at hover
  split at ho
  · rw [modCurrent_crane] at ho
    split at ho
    · simp only [Option.mem_def, Option.map_eq_some_iff] at ho
      obtain ⟨x, -, rfl⟩ := ho
      rfl
    · exact h o ho hover
  · exact h o ho hover

end

section
variable {P : State → Prop} (k : Kept P) {s : State}
include k

theorem Kept.markLoadOver (m : Option Nat) (h : P s) : P (markLoadOver m s) := by
  unfold Machine.markLoadOver
  split
  · exact k.modPiece_account _ _ (fun _ => rfl) (fun _ => rfl) (fun _ => rfl) h
  · exact h

theorem Kept.loadOverCrane (b : Fin 24) (c : Fin 4) (h : P s) : P (loadOverCrane b c s) := by
  unfold Machine.loadOverCrane
  split
  · exact k.raise _ _ _ (k.markLoadOver _ (k.markLoadOver _
      (k.modCurrent c _ (fun _ => { loadOver := fun _ => rfl }) h)))
  · exact h

theorem Kept.stressBed (b : Fin 24) (hstate : (s.bedRec b).state = .vacant) (h : P s) :
    P (stressBed b s) := by
  have hmarked : ∀ c, loadMarked b c (forEach (Machine.loadOverCrane b) s) :=
    forEach_establishes _ _ (loadOverCrane_marks b) (fun i j t => loadOverCrane_keeps_marks b i t j) s
  have hrec : (forEach (Machine.loadOverCrane b) s).bedRec = s.bedRec := by
    unfold State.bedRec
    rw [forEach_keeps s State.bed _ fun i t => loadOverCrane_bed b i t]
  have hstate' : ((forEach (Machine.loadOverCrane b) s).bedRec b).state = .vacant := hrec ▸ hstate
  have hover : P (forEach (Machine.loadOverCrane b) (Machine.enterBed b .stressed s)) := by
    rw [enterBed_stressed b s hstate, forEach_loadOverCrane_stressRec, ← enterBed_stressed b _ hstate']
    refine k.enterBed b .stressed ⟨fun hstrip => ?_, fun _ => .inr ?_⟩
      (forEach_induction s P _ (fun c t ht => k.loadOverCrane b c ht) h)
    · simp [hstate'] at hstrip
    · intro c o ho i hi hover
      refine hmarked c o ho ?_
      rw [Option.mem_def.1 hi]
      exact hover
  have hflag : ∀ t, P t →
      P (Machine.modBedRec b (fun r => { r with flags := { r.flags with loadOver := true } }) t) :=
    fun t ht => k.modBedRec b _ ⟨rfl, .inl rfl⟩ ht
  unfold Machine.stressBed
  refine k.settle ?_
  split
  · exact hflag _ hover
  · exact hover

end

end Sys2Proof.StepProofs
end

section
/-! SUPPORT. The laws kept by the panels' reports and the requests on beds. -/
namespace Sys2Proof.StepProofs

open Sys2Proof Sys2Proof.Machine

/-- A bed that is not STRIPPING may enter any state that is not a no-load state it comes to from another. -/
theorem MayEnter.of_state {s : State} {b : Fin 24} {old new : BedState} (hstate : (s.bedRec b).state = old)
    (hstrip : old ≠ .stripping) (hload : noLoadState new = true → noLoadState old = true) :
    MayEnter s b new :=
  ⟨fun h => absurd (hstate ▸ h) hstrip, fun h => .inl (hstate ▸ hload h)⟩

section
variable {P : State → Prop} (k : Kept P) {s : State}
include k

theorem Kept.enterFrom (b : Fin 24) (old new : BedState) (hstate : (s.bedRec b).state = old)
    (hstrip : old ≠ .stripping) (hload : noLoadState new = true → noLoadState old = true) (h : P s) :
    P (Machine.enterBed b new s) :=
  k.enterBed b new (.of_state hstate hstrip hload) h

/-- Records changed, line by line of a bed, in nothing that an account comes from. -/
theorem Kept.modLines (lines : List OrderLine) (f : Piece → Piece)
    (hnumber : ∀ p, (f p).number = p.number) (hmark : ∀ p, (f p).mark = p.mark)
    (haccount : ∀ p, (f p).account = p.account) (h : P s) :
    P (lines.foldl (fun t l => Machine.modPiece l.mark f t) s) :=
  List.foldlRecOn _ _ h fun _ ht _ _ => k.modPiece_account _ _ hnumber hmark haccount ht

omit k in
theorem modLines_bed (lines : List OrderLine) (f : Piece → Piece) :
    (lines.foldl (fun t l => modPiece l.mark f t) s).bed = s.bed :=
  foldl_keeps s State.bed (fun t (l : OrderLine) => modPiece l.mark f t) (fun _ _ => by simp) lines

omit k in
theorem bedRec_congr {t : State} (h : t.bed = s.bed) (b : Fin 24) : t.bedRec b = s.bedRec b := by
  simp only [State.bedRec, h]

theorem Kept.panelStressed (f : Frame) (b : Fin 24) (h : P s) : P (panelStressed f b s) := by
  unfold Machine.panelStressed
  split
  · next hstate => exact k.panelAnswer f _ (k.stressBed b hstate h)
  · exact k.panelAnswer f _ h

theorem Kept.putOnBed (b : Fin 24) (stamp : Minute) (h : P s) : P (putOnBed b stamp s) :=
  k.modLines _ _ (fun _ => rfl) (fun _ => rfl) (fun _ => rfl) h

omit k in
theorem putOnBed_bed (b : Fin 24) (stamp : Minute) : (Machine.putOnBed b stamp s).bed = s.bed :=
  modLines_bed _ _

theorem Kept.castBed (b : Fin 24) (hstate : (s.bedRec b).state = .stressed) (h : P s) :
    P (castBed b s) :=
  k.settle (k.enterFrom b .stressed .curing (by rw [bedRec_congr (putOnBed_bed b _) b, hstate]) (by decide)
    (fun _ => rfl) (k.putOnBed b _ h))

theorem Kept.castSeen (b : Fin 24) (h : P s) : P (castSeen b s) :=
  k.raise _ _ _ (k.modBedRec b _ ⟨rfl, .inl rfl⟩ h)

theorem Kept.panelCastDone (f : Frame) (b : Fin 24) (h : P s) : P (panelCastDone f b s) := by
  unfold Machine.panelCastDone
  split
  · next hstate =>
    refine k.panelAnswer f _ ?_
    split
    · exact k.castBed b hstate h
    · exact k.castSeen b h
  · exact k.panelAnswer f _ h

theorem Kept.grantPermit (b : Fin 24) (hstate : (s.bedRec b).state = .releasing) (h : P s) :
    P (grantPermit b s) :=
  k.modBedRec b _ ⟨rfl, .inr (.inr hstate)⟩ h

omit k in
theorem enterBed_state (b : Fin 24) (new : BedState) :
    ((Machine.enterBed b new s).bedRec b).state = new := by
  rw [bedRec_congr (enterBed_bed s b new)]
  simp [enterRec]

theorem Kept.panelDetensionAsk (f : Frame) (b : Fin 24) (h : P s) : P (panelDetensionAsk f b s) := by
  unfold Machine.panelDetensionAsk
  split
  case h_1 hstate =>
    have henter : P (Machine.enterBed b .releasing s) :=
      k.enterFrom b .releasable .releasing hstate (by decide) (fun _ => rfl) h
    exact k.panelAnswer f _ (k.settle (k.grantPermit b (enterBed_state b _) henter))
  case h_2 hstate => exact k.panelAnswer f _ (k.grantPermit b hstate h)
  all_goals exact k.panelAnswer f _ h

theorem Kept.flagPermitless (b : Fin 24) (h : P s) : P (flagPermitless b s) :=
  k.modBedRec b _ ⟨rfl, .inl rfl⟩ h

theorem Kept.flagPiecesPremature (b : Fin 24) (h : P s) : P (flagPiecesPremature b s) :=
  k.modLines _ _ (fun _ => rfl) (fun _ => rfl) (fun _ => rfl) h

theorem Kept.prematureRelease (b : Fin 24) (hstate : (s.bedRec b).state = .curing) (h : P s) :
    P (prematureRelease b s) := by
  have hflag : P (Machine.modBedRec b (fun r => { r with flags := { r.flags with premature := true } })
      (Machine.flagPiecesPremature b s)) :=
    k.modBedRec b _ ⟨rfl, .inl rfl⟩ (k.flagPiecesPremature b h)
  have hrec : (Machine.flagPiecesPremature b s).bedRec b = s.bedRec b :=
    bedRec_congr (modLines_bed _ _) b
  exact k.settle (k.raise _ _ _ (k.enterFrom b .curing .stripping (by simp [hrec, hstate]) (by decide)
    nofun hflag))

theorem Kept.releaseUnrecorded (b : Fin 24) (hstate : (s.bedRec b).state = .stressed) (h : P s) :
    P (releaseUnrecorded b s) := by
  have hseen : P (Machine.modBedRec b (fun r => { r with castSeen := none }) s) :=
    k.modBedRec b _ ⟨rfl, .inl rfl⟩ h
  refine k.settle (k.enterFrom b .stressed .stripping ?_ (by decide) nofun
    (k.raise _ _ _ (k.flagPermitless b hseen)))
  rw [bedRec_congr (raise_keeps ..).2.2.2.1]
  simp [Machine.flagPermitless, hstate]

theorem Kept.panelDetensioned (f : Frame) (b : Fin 24) (h : P s) : P (panelDetensioned f b s) := by
  have hcount : P (countDuplicate s) := k.plain {} h
  unfold Machine.panelDetensioned
  split
  case h_1 hstate =>
    exact k.panelAnswer f _ (k.settle (k.enterFrom b .releasing .stripping hstate (by decide) nofun h))
  case h_2 hstate =>
    exact k.panelAnswer f _ (k.settle (k.raise _ _ _ (k.flagPermitless b
      (k.enterFrom b .releasable .stripping hstate (by decide) nofun h))))
  case h_3 hstate => exact k.panelAnswer f _ (k.prematureRelease b hstate h)
  case h_4 hstate =>
    refine k.panelAnswer f _ ?_
    split
    · exact k.releaseUnrecorded b hstate h
    · exact k.settle (k.enterFrom b .stressed .vacant hstate (by decide) nofun h)
  all_goals exact k.panelAnswer f _ hcount

theorem Kept.strandLines (b : Fin 24) (h : P s) : P (strandLines b s) := by
  have hlines : ∀ lines : List OrderLine, P (lines.foldl (fun u l => strandLine b l.mark u) s) := by
    refine fun lines => List.foldlRecOn _ _ h fun t ht l _ => ?_
    unfold strandLine
    split
    · refine k.strandPiece _ ?_
      split
      · exact k.takeBedAccount b _ ht
      · exact ht
    · exact ht
  unfold Machine.strandLines
  dsimp only
  split
  · exact hlines _
  · exact k.raise _ _ _ (hlines _)

omit k in
theorem strandLines_keeps (b : Fin 24) :
    (Machine.strandLines b s).bed = s.bed ∧ (Machine.strandLines b s).runway = s.runway := by
  have hline : ∀ m t, (strandLine b m t).bed = t.bed ∧ (strandLine b m t).runway = t.runway := by
    intro m t
    unfold strandLine
    split
    · split <;> simp
    · exact ⟨rfl, rfl⟩
  have hbed : ∀ l : List OrderLine, (l.foldl (fun u l => strandLine b l.mark u) s).bed = s.bed :=
    foldl_keeps s State.bed (fun u (l : OrderLine) => strandLine b l.mark u) fun t l => (hline _ t).1
  have hrunway : ∀ l : List OrderLine,
      (l.foldl (fun u l => strandLine b l.mark u) s).runway = s.runway :=
    foldl_keeps s State.runway (fun u (l : OrderLine) => strandLine b l.mark u) fun t l => (hline _ t).2
  unfold Machine.strandLines
  dsimp only
  split <;> simp [hbed, hrunway]

theorem Kept.clearBed (b : Fin 24)
    (hlive : (s.bedRec b).state = .stripping → s.liveFromBed b = false) (h : P s) : P (clearBed b s) := by
  have hclear : P (Machine.modBedRec b
      (fun r => { r with order := none, lines := [], castSeen := none, flags := {} })
      (Machine.strandLines b s)) := k.modBedRec b _ ⟨rfl, .inl rfl⟩ (k.strandLines b h)
  obtain ⟨hbed, hrunway⟩ := strandLines_keeps (s := s) b
  refine k.settle (k.enterBed b .vacant ⟨fun hstrip => ?_, nofun⟩ hclear)
  rw [modBedRec_bedRec, if_pos rfl, bedRec_congr hbed] at hstrip
  have hnone := hlive hstrip
  simp only [State.liveFromBed, State.crane, modBedRec_fields, hrunway] at hnone ⊢
  exact hnone

theorem Kept.panelBedClear (f : Frame) (b : Fin 24) (h : P s) : P (panelBedClear f b s) := by
  unfold Machine.panelBedClear
  split
  case h_1 =>
    split
    · exact k.panelAnswer f _ h
    · next hlive => exact k.panelAnswer f _ (k.clearBed b (fun _ => by simpa using hlive) h)
  case h_2 hstate => exact k.panelAnswer f _ (k.clearBed b (by simp [hstate]) h)
  case h_3 => exact k.panelAnswer f _ h

theorem Kept.takePanel (f : Frame) (event : Byte) (act : Fin 24 → State → State)
    (hact : ∀ b, P (act b s)) (h : P s) : P (takePanel f event act s) := by
  unfold Machine.takePanel
  split
  · exact hact _
  · exact k.panelAnswer f _ h

theorem Kept.permitMinute (b : Fin 24) (h : P s) : P (permitMinute b s) := by
  unfold Machine.permitMinute
  split
  · next hstate =>
    split
    · exact k.settle (k.raise _ _ _
        (k.enterFrom b .releasing .releasable hstate (by decide) (fun _ => rfl) h))
    · exact k.modBedRec b _ ⟨rfl, .inr (.inr hstate)⟩ h
  · exact h

/-! ### Records created -/

omit k in
theorem mem_insertPiece (p q : Piece) (l : List Piece) : q ∈ insertPiece p l ↔ q = p ∨ q ∈ l := by
  induction l with
  | nil => simp [insertPiece]
  | cons r rest ih =>
    unfold insertPiece
    split
    · simp
    · simp only [List.mem_cons, ih]; tauto

omit k in
theorem insertPiece_length (p : Piece) (l : List Piece) : (insertPiece p l).length = l.length + 1 := by
  induction l with
  | nil => rfl
  | cons r rest ih => unfold insertPiece; split <;> simp [ih]

omit k in
theorem findPiece_eq_none_iff (m : Nat) : s.findPiece m = none ↔ ∀ q ∈ s.piece.recs, q.mark ≠ m := by
  simp [State.findPiece]

omit k in
theorem createPiece_findPiece_none (p : Piece) (m : Nat) :
    (Machine.createPiece p s).findPiece m = none ↔ p.mark ≠ m ∧ s.findPiece m = none := by
  simp [findPiece_eq_none_iff, Machine.createPiece, mem_insertPiece]

omit k in
theorem createPiece_length (p : Piece) :
    (Machine.createPiece p s).piece.recs.length = s.piece.recs.length + 1 := insertPiece_length _ _

/-- The records of an order's lines are created while there is room and no mark is held (R5, R87). -/
theorem Kept.createLines (b : Fin 24) (lines : List OrderLine) (hdup : (lines.map (·.mark)).Nodup)
    (hnew : ∀ l ∈ lines, s.findPiece l.mark = none)
    (hroom : s.piece.recs.length + lines.length ≤ Config.pieceRecords) (h : P s) :
    P (lines.foldl (fun t l => Machine.createPiece (linePiece b l) t) s) := by
  induction lines generalizing s with
  | nil => exact h
  | cons l rest ih =>
    simp only [List.map_cons, List.nodup_cons, List.mem_map, not_exists, not_and] at hdup
    simp only [List.length_cons] at hroom
    refine ih hdup.2 (fun x hx => ?_) ?_ (k.create _ (hnew l (by simp)) ?_ nofun h)
    · exact (createPiece_findPiece_none _ _).2 ⟨Ne.symm (hdup.1 x hx), hnew x (by simp [hx])⟩
    · rw [createPiece_length]; omega
    · simp only [State.hasFreeRecord, decide_eq_true_eq]; omega

/-! ### Requests on beds -/

omit k in
theorem bedOrderCheck_ok {b : Fin 24} {o : CastOrder} {lines : List OrderLine} {recipe : Recipe}
    (h : s.bedOrderCheck b o lines = .ok recipe) :
    s.curingBed b = false ∧ (lines.map (·.mark)).Nodup
      ∧ (∀ l ∈ lines, s.findPiece l.mark = none)
      ∧ lines.length ≤ Config.pieceRecords - s.piece.recs.length := by
  unfold State.bedOrderCheck at h
  dsimp only at h
  split at h
  · cases h
  next hstate =>
  split at h
  · cases h
  split at h
  · cases h
  split at h
  · cases h
  next hmarks =>
  split at h
  · cases h
  next hroom =>
  simp only [List.any_eq_true, not_or, not_exists, not_and, Bool.not_eq_true, Option.isSome_eq_false_iff,
    Option.isNone_iff_eq_none, Bool.not_eq_eq_eq_not, Bool.not_true, decide_eq_false_iff_not,
    Decidable.not_not] at hmarks
  refine ⟨?_, hmarks.2, hmarks.1, by omega⟩
  simp only [State.curingBed, decide_eq_false_iff_not]
  rintro hc
  simp [hc] at hstate

omit k in
theorem createLines_keeps (b : Fin 24) (lines : List OrderLine) :
    (lines.foldl (fun t l => Machine.createPiece (linePiece b l) t) s).bed = s.bed :=
  foldl_keeps s State.bed (fun t (l : OrderLine) => Machine.createPiece (linePiece b l) t)
    (fun _ _ => by simp) lines

theorem Kept.writeOrder (b : Fin 24) (o : CastOrder) (lines : List OrderLine) (recipe : Recipe)
    (hcheck : s.bedOrderCheck b o lines = .ok recipe) (h : P s) :
    P (writeOrder b o lines recipe s) := by
  obtain ⟨hcuring, hdup, hnew, hroom⟩ := bedOrderCheck_ok hcheck
  have hlines : P (Machine.modBedRec b (fun r => { r with order := some o, lines := lines }) s) :=
    k.modBedRec b _ ⟨rfl, .inl rfl⟩ h
  have hfits : s.piece.recs.length + lines.length ≤ Config.pieceRecords ∨ lines = [] := by
    rcases lines with _ | ⟨l, rest⟩
    · exact .inr rfl
    · simp only [List.length_cons] at hroom ⊢; omega
  have hrecords : P (lines.foldl (fun t l => Machine.createPiece (linePiece b l) t)
      (Machine.modBedRec b (fun r => { r with order := some o, lines := lines }) s)) := by
    rcases hfits with hfits | rfl
    · exact k.createLines b lines hdup (by simpa using hnew) (by simpa using hfits) hlines
    · exact hlines
  have hnotCuring : (lines.foldl (fun t l => Machine.createPiece (linePiece b l) t)
      (Machine.modBedRec b (fun r => { r with order := some o, lines := lines }) s)).curingBed b
        = false := by
    simp only [State.curingBed] at hcuring ⊢
    rw [bedRec_congr (createLines_keeps b lines)]
    simpa using hcuring
  have hrecipe := k.thermal b (fun t => { t with recipe := s.clampRecipe recipe lines })
    (fun hok => ⟨hok.1, by simp [hok.2.2 hnotCuring], hok.2.2⟩) hrecords
  unfold Machine.writeOrder
  dsimp only
  split
  · exact k.modBedRec b _ ⟨rfl, .inl rfl⟩ hrecipe
  · exact hrecipe

theorem Kept.adoptCast (b : Fin 24) (h : P s) : P (adoptCast b s) := by
  unfold Machine.adoptCast
  split
  · next stamp hstate hseen =>
    refine k.settle (k.enterFrom b .stressed .curing ?_ (by decide) (fun _ => rfl)
      (k.putOnBed b stamp (k.modBedRec b _ ⟨rfl, .inl rfl⟩ h)))
    rw [bedRec_congr (putOnBed_bed b _)]
    simp [hstate]
  · exact h

theorem Kept.bedOrder (f : Frame) (h : P s) : P (bedOrder f s) := by
  unfold Machine.bedOrder
  repeat' split
  · exact k.reply _ _ _ _ h
  · exact k.reply _ _ _ _ h
  · exact k.reply _ _ _ _ h
  · exact k.reply _ _ _ _ h
  · next hcheck => exact k.reply _ _ _ _ (k.adoptCast _ (k.writeOrder _ _ _ _ hcheck h))

theorem Kept.forBed (f : Frame) (code : Byte) (act : Fin 24 → State → State)
    (hact : ∀ b, P (act b s)) (h : P s) : P (forBed f code act s) := by
  unfold Machine.forBed
  repeat' split
  · exact hact _
  · exact k.reply _ _ _ _ h
  · exact k.reply _ _ _ _ h

theorem Kept.freeLines (b : Fin 24) (h : P s) : P (freeLines b s) :=
  List.foldlRecOn _ _ h fun _ ht _ _ => k.erase _ ht

omit k in
theorem freeLines_bed (b : Fin 24) : (Machine.freeLines b s).bed = s.bed :=
  foldl_keeps s State.bed (fun t (l : OrderLine) => erasePiece l.mark t) (fun _ _ => by simp) _

theorem Kept.cancelBed (f : Frame) (b : Fin 24) (h : P s) : P (cancelBed f b s) := by
  unfold Machine.cancelBed
  dsimp only
  split
  · exact k.reply _ _ _ _ (k.removeOrder b (k.freeLines b h))
  · exact k.reply _ _ _ _ h

theorem Kept.abandonBed (f : Frame) (b : Fin 24) (h : P s) : P (abandonBed f b s) := by
  have hdrop : P (Machine.removeOrder b (Machine.freeLines b s)) :=
    k.removeOrder b (k.freeLines b h)
  have hstate : ((Machine.removeOrder b (Machine.freeLines b s)).bedRec b).state
      = (s.bedRec b).state := by
    simp [Machine.removeOrder, bedRec_congr (freeLines_bed b)]
  unfold Machine.abandonBed
  dsimp only
  split
  · next hrow =>
    refine k.reply _ _ _ _ (k.settle (k.enterBed b .clearing ⟨fun hstrip => ?_, nofun⟩ hdrop))
    rw [hstate] at hstrip
    simp [hstrip] at hrow
  · exact k.reply _ _ _ _ h

/-- A pending request changes nothing that the laws read. -/
theorem Kept.modWaiting (b : Fin 24) (p : PendingPause) (h : P s) :
    P (Machine.modThermal b (fun t => { t with waiting := p }) s) :=
  k.thermal b _ id h

theorem Kept.coolBed (f : Frame) (b : Fin 24) (h : P s) : P (coolBed f b s) := by
  unfold Machine.coolBed
  dsimp only
  split
  · exact k.reply _ _ _ _ (k.thermal b _ id h)
  · exact k.reply _ _ _ _ h

end

end Sys2Proof.StepProofs
end

section
/-! SUPPORT. The laws kept by the minutes, the tables, the requests on pieces and the requests that read. -/
namespace Sys2Proof.StepProofs

open Sys2Proof Sys2Proof.Machine

/-! ### What the steps of a curing minute leave of a thermal part -/

/-- A thermal part with its recipe and account as they were, and its demand within the heat cap. -/
structure CureKept (t u : Thermal) : Prop where
  maturity : u.maturity = t.maturity := by rfl
  remainder : u.remainder = t.remainder := by rfl
  recipe : u.recipe = t.recipe := by rfl
  demand : t.demand ≤ t.recipe.heatCap → u.demand ≤ t.recipe.heatCap := by exact id

theorem CureKept.trans {t u v : Thermal} (h : CureKept t u) (g : CureKept u v) : CureKept t v where
  maturity := g.maturity.trans h.maturity
  remainder := g.remainder.trans h.remainder
  recipe := g.recipe.trans h.recipe
  demand hd := by
    have hu := h.demand hd
    rw [← h.recipe] at hu ⊢
    exact g.demand hu

theorem pendingEffect_kept (t : Thermal) : CureKept t (pendingEffect t) := by
  unfold pendingEffect
  repeat' split
  all_goals exact {}

theorem enterRamp_kept (hot : Int) (t : Thermal) : CureKept t (enterRamp hot t) := by
  unfold enterRamp
  split <;> exact {}

theorem advancePreset_kept (hot : Int) (t : Thermal) : CureKept t (advancePreset hot t) := by
  unfold advancePreset
  dsimp only
  split
  · exact CureKept.trans (u := tickClock t) {} (enterRamp_kept hot _)
  · exact {}

theorem advanceRamp_kept (hot : Int) (t : Thermal) : CureKept t (advanceRamp hot t) := by
  unfold advanceRamp
  dsimp only
  split
  · exact {}
  · split <;> exact {}

theorem advanceHold_kept (t : Thermal) : CureKept t (advanceHold t) := by
  unfold advanceHold
  dsimp only
  split <;> exact {}

theorem advanceCool_kept (hot : Int) (ambient : Option Int) (t : Thermal) :
    CureKept t (advanceCool hot ambient t).thermal := by
  unfold advanceCool
  dsimp only
  repeat' split
  all_goals exact {}

theorem advancePhase_kept (hot : Int) (ambient : Option Int) (t : Thermal) :
    CureKept t (advancePhase hot ambient t).thermal := by
  unfold advancePhase
  split
  · exact advancePreset_kept hot t
  · exact advanceRamp_kept hot t
  · exact advanceHold_kept t
  · exact advanceCool_kept hot ambient t
  · exact {}

theorem controller_kept (hot : Int) (t : Thermal) : CureKept t (controller hot t) where
  demand _ := by
    simp only [controller, clampInt]
    omega

theorem demandSighted_kept (hot : Int) (soak : Bool) (t : Thermal) :
    CureKept t (demandSighted hot soak t) := by
  unfold demandSighted
  repeat' split
  · exact { demand := fun _ => Nat.zero_le _ }
  · exact { demand := fun _ => Nat.zero_le _ }
  · exact CureKept.trans (u := { t with overheat := false }) {} (controller_kept hot _)

theorem demandBlind_kept (t : Thermal) : CureKept t (demandBlind t) := by
  unfold demandBlind
  dsimp only
  repeat' split
  · exact { demand := fun _ => Nat.zero_le _ }
  · exact { demand := fun _ => Nat.zero_le _ }
  · exact {}

section
variable {P : State → Prop} (k : Kept P) {s : State}
include k

/-! ### The curing minute -/

/-- A CURING bed's thermal part replaced by one whose recipe, account and demand come from it. -/
theorem Kept.setThermal (b : Fin 24) (t : Thermal) (hcuring : s.curingBed b = true)
    (ht : CureKept (s.thermal b) t) (h : P s) : P (setThermal b t s) := by
  refine k.thermal b _ (fun hok => ⟨?_, ?_, by simp [hcuring]⟩) h
  · rw [ht.maturity, ht.remainder]; exact hok.1
  · rw [ht.recipe]; exact ht.demand hok.2.1

/-- A CURING bed's request handed over, after a cause that may be raised (R70). -/
theorem Kept.handDemand (b : Fin 24) (hcuring : s.curingBed b = true) (h : P s) : P (handDemand b s) :=
  k.handRequest b _ hcuring h

omit k in
theorem setThermal_thermal (b : Fin 24) (t : Thermal) : (Machine.setThermal b t s).thermal b = t := by
  simp [Machine.setThermal]

omit k in
theorem curingBed_congr {s t : State} (h : t.bed = s.bed) (b : Fin 24) : t.curingBed b = s.curingBed b := by
  simp only [State.curingBed, bedRec_congr h]

theorem Kept.blindMinute (b : Fin 24) (t : Thermal) (hcuring : s.curingBed b = true)
    (ht : CureKept (s.thermal b) t) (h : P s) : P (blindMinute b t s) := by
  have hset := k.setThermal b _ hcuring (ht.trans (demandBlind_kept t)) h
  unfold Machine.blindMinute
  dsimp only
  split
  · exact k.handDemand b ((curingBed_congr (by simp) b).trans hcuring) (k.raise _ _ _ hset)
  · exact k.handDemand b ((curingBed_congr (by simp) b).trans hcuring) hset

theorem Kept.demandMinute (b : Fin 24) (hot : Int) (soak : Bool) (t : Thermal)
    (hcuring : s.curingBed b = true) (ht : CureKept (s.thermal b) t) (h : P s) :
    P (demandMinute b hot soak t s) := by
  have hset := k.setThermal b _ hcuring (ht.trans (demandSighted_kept hot soak t)) h
  unfold Machine.demandMinute
  dsimp only
  split
  · exact k.handDemand b ((curingBed_congr (by simp) b).trans hcuring) (k.raise _ _ _ hset)
  · exact k.handDemand b ((curingBed_congr (by simp) b).trans hcuring) hset

theorem Kept.releasableBed (b : Fin 24) (hcuring : (s.bedRec b).state = .curing) (h : P s) :
    P (releasableBed b s) :=
  k.settle (k.raise _ _ _ (k.enterFrom b .curing .releasable hcuring (by decide) (fun _ => rfl) h))

theorem Kept.sightedMinute (b : Fin 24) (hot : Int) (cooled : Bool) (t : Thermal)
    (hcuring : s.curingBed b = true) (ht : CureKept (s.thermal b) t) (h : P s) :
    P (sightedMinute b hot cooled t s) := by
  have hsight : CureKept (s.thermal b) (sightThermal t) := ht.trans {}
  have hadvance := hsight.trans (advancePhase_kept hot (s.coolingAmbient b) (sightThermal t))
  have hset := k.setThermal b _ hcuring hadvance h
  have hsame : CureKept
      ((Machine.setThermal b (advancePhase hot (s.coolingAmbient b) (sightThermal t)).thermal s).thermal b)
      (advancePhase hot (s.coolingAmbient b) (sightThermal t)).thermal := by
    rw [setThermal_thermal]; exact {}
  unfold Machine.sightedMinute
  dsimp only
  split
  · exact k.demandMinute b _ _ _ hcuring hsight h
  split
  · refine k.releasableBed b ?_ hset
    rw [bedRec_congr (s := s) (by simp)]
    simpa [State.curingBed] using hcuring
  split
  · refine k.demandMinute b _ _ _ ((curingBed_congr (by simp) b).trans hcuring) ?_
      (k.raise _ _ _ hset)
    rwa [show ∀ t : State, (Machine.raise .rampStalled (.bed b) hot t).thermal b = t.thermal b from
      fun t => by simp [State.thermal]]
  · exact k.demandMinute b _ _ _ ((curingBed_congr (by simp) b).trans hcuring) hsame hset

theorem Kept.treatCuring (b : Fin 24) (hstate : (s.bedRec b).state = .curing) (h : P s) :
    P (treatCuring b s) := by
  have hcuring : (Machine.accrueBed b s).curingBed b = true := by
    simp [State.curingBed, bedRec_congr (show (Machine.accrueBed b s).bed = s.bed by simp), hstate]
  unfold Machine.treatCuring
  dsimp only
  split
  · exact k.blindMinute b _ hcuring (pendingEffect_kept _) (k.accrueBed b h)
  · exact k.sightedMinute b _ _ _ hcuring (pendingEffect_kept _) (k.accrueBed b h)

theorem Kept.treatBed (b : Fin 24) (h : P s) : P (treatBed b s) := by
  unfold Machine.treatBed
  split
  case h_1 hstate => exact k.treatCuring b hstate h
  case h_2 | h_3 | h_4 => exact k.accrueBed b h
  case h_5 | h_6 | h_7 => exact h

/-! ### Pieces -/

/-- One record's account replaced by one that comes from it or lies in its range. -/
theorem Kept.setAccount (m : Nat) (a : Option Account) (p : Piece)
    (ha : ∀ x ∈ a, accountFrom s p x) (hp : p ∈ s.piece.recs) (h : P s) : P (setAccount m a s) := by
  refine k.modPiece m _ (fun q _ => ⟨rfl, rfl, fun x hx => ?_⟩) h
  rcases ha x hx with ⟨r, hr, hx⟩ | hrest
  · exact .inl ⟨r, .inr (hr.elim (· ▸ hp) id), hx⟩
  · exact .inr hrest

omit k in
theorem minuteAccount_from (p : Piece) : ∀ x ∈ s.minuteAccount p, accountFrom s p x := by
  intro x hx
  unfold State.minuteAccount at hx
  split at hx
  · obtain ⟨a, ha, rfl⟩ := Option.mem_map.1 hx
    exact .inr (.inl ⟨Nat.min_le_left .., Nat.le_of_lt_succ (Nat.mod_lt _ (by decide))⟩)
  · obtain ⟨a, ha, rfl⟩ := Option.mem_map.1 hx
    exact .inl ⟨p, .inl rfl, a, ha, rfl, rfl⟩

theorem Kept.pieceMinute (m : Nat) (h : P s) : P (pieceMinute m s) := by
  unfold Machine.pieceMinute
  split
  · next p hfind =>
    split
    · exact k.refreshReady m
        (k.setAccount m _ p (minuteAccount_from p) (List.mem_of_find?_eq_some hfind) h)
    · exact h
  · exact h

omit k in
theorem slotRoom_of_placementCheck {c : Fin 8} {n : Fin 1024} (h : s.placementCheck c n = none) :
    s.slotRoom n = true := by
  unfold State.placementCheck at h
  unfold State.slotRoom
  split at h
  · cases h
  next a harea =>
  rw [harea]
  split at h
  · cases h
  split at h
  · cases h
  split at h
  · cases h
  split at h
  · cases h
  · next hfull => simpa using hfull

theorem Kept.pieceDeclare (f : Frame) (h : P s) : P (pieceDeclare f s) := by
  unfold Machine.pieceDeclare
  split
  case h_2 => exact k.reply _ _ _ _ h
  split
  · exact k.reply _ _ _ _ h
  split
  · exact k.reply _ _ _ _ h
  split
  · exact k.reply _ _ _ _ h
  unfold declareAt
  split
  · exact k.reply _ _ _ _ h
  split
  · exact k.reply _ _ _ _ h
  split
  · exact k.reply _ _ _ _ h
  · next hcheck =>
    exact k.reply _ _ _ _ (k.settle (k.pushPiece _ _ (slotRoom_of_placementCheck hcheck) h))

theorem Kept.pieceSetMaturity (f : Frame) (h : P s) : P (pieceSetMaturity f s) := by
  unfold Machine.pieceSetMaturity
  split
  case h_2 => exact k.reply _ _ _ _ h
  split
  · exact k.reply _ _ _ _ h
  next hrange =>
  split
  · exact k.reply _ _ _ _ h
  split
  · refine k.reply _ _ _ _ (k.refreshReady _ (k.modPiece _ _ (fun p _ => ⟨rfl, rfl, fun a ha => ?_⟩) h))
    obtain rfl := Option.some.inj ha
    exact .inr (.inl ⟨not_lt.1 fun hlt => hrange (.inr hlt), Nat.zero_le _⟩)
  · exact k.reply _ _ _ _ h

theorem Kept.pieceDrop (f : Frame) (h : P s) : P (pieceDrop f s) := by
  unfold Machine.pieceDrop
  repeat' split
  · exact k.reply _ _ _ _ h
  · exact k.reply _ _ _ _ h
  · exact k.reply _ _ _ _ h
  · exact k.reply _ _ _ _ (k.settle (k.erase _ (k.detachPiece _ h)))
  · exact k.reply _ _ _ _ h

end
end Sys2Proof.StepProofs
end

section
/-! SUPPORT. The laws kept by the tables, the requests that read, and the line unit. -/
namespace Sys2Proof.StepProofs

open Sys2Proof Sys2Proof.Machine

/-- A request taken in changes the line unit alone. -/
theorem takeIntake_eq (f : Frame) (s : State) : ∃ l, takeIntake f s = { s with line := l } := by
  unfold takeIntake
  split
  · exact ⟨_, rfl⟩
  · exact ⟨s.line, rfl⟩

theorem writeOperands_parse {α : Type} {table : Byte} {n : Nat} {parse : Bytes → Option α} {l : Bytes}
    {i : Fin n} {e : α} (h : writeOperands table n parse l = some (i, e)) : ∃ b, parse b = some e := by
  unfold writeOperands at h
  split at h
  · split at h
    · next hparse =>
      obtain ⟨rfl, rfl⟩ := Prod.mk.inj (Option.some.inj h)
      exact ⟨_, hparse⟩
    · cases h
  · cases h

theorem parseArea_inRange {l : Bytes} {x : AreaFields} (h : parseArea l = some x) :
    areaInRange x = true := by
  unfold parseArea at h
  split at h
  · split at h
    · dsimp only at h
      split at h
      · next hrange => exact Option.some.inj h ▸ hrange
      · cases h
    · cases h
  · cases h

section
variable {P : State → Prop} (k : Kept P) {s : State}
include k

/-! ### Tables -/

theorem Kept.tableWrite {α : Type} {n : Nat} (f : Frame) (table : Byte) (parse : Bytes → Option α)
    (check : Fin n → α → Option Status) (write : Fin n → α → State → State)
    (hwrite : ∀ i e, (∃ l, parse l = some e) → check i e = none → P (write i e s)) (h : P s) :
    P (tableWrite f table parse check write s) := by
  unfold Machine.tableWrite
  split
  · exact k.reply _ _ _ _ h
  next hops =>
  split
  · exact k.reply _ _ _ _ h
  · next hcheck => exact k.reply _ _ _ _ (hwrite _ _ (writeOperands_parse hops) hcheck)

theorem Kept.writeBed (b : Fin 24) (e : BedEntry) (hcheck : s.bedWriteCheck b e = none) (h : P s) :
    P (writeBed b e s) :=
  k.idleHeat b (k.bedEntry b e hcheck h)

theorem Kept.writeProbe (i : Fin 128) (e : ProbeEntry) (h : P s) : P (writeProbe i e s) := by
  have hset : P (setSurvey true (Machine.modProbe i (fun _ => {}) (setProbeEntry i e s))) :=
    k.plain {} h
  unfold Machine.writeProbe
  dsimp only
  split
  · exact k.raiseIfBlinded s _ hset
  · exact hset

theorem Kept.writeArea (a : Fin 16) (x : AreaFields) (hrange : areaInRange x = true)
    (hcheck : s.areaWriteCheck a x = none) (h : P s) : P (writeArea a x s) :=
  k.settle (k.noteOpportunity (k.areaWrite a x hrange hcheck h))

theorem Kept.writeService (g : Fin 128) (b : Bool) (h : P s) : P (writeService g b s) := by
  have hset : P (setService g b s) := k.plain {} h
  unfold Machine.writeService
  dsimp only
  split
  · exact hset
  · exact k.settle (k.noteOpportunity hset)

omit k in
theorem yardQuiet_of_craneWriteCheck {c : Fin 4} {e : CraneEntry} (h : s.craneWriteCheck c e = none) :
    s.yardQuiet = true := by
  unfold State.craneWriteCheck at h
  split at h
  · cases h
  split at h
  · cases h
  split at h
  · cases h
  · next hquiet => simpa using hquiet

omit k in
theorem yardQuiet_of_quietCheck (h : s.quietCheck = none) : s.yardQuiet = true := by
  unfold State.quietCheck at h
  split at h
  · assumption
  · cases h

theorem Kept.writeCrane (c : Fin 4) (e : CraneEntry) (hquiet : s.yardQuiet = true) (h : P s) :
    P (writeCrane c e s) := by
  refine k.modCrane c _ ?_ (k.plain (t := setCraneEntry c e s) {} h)
  exact { current := ⟨id, by simp [forgetCrane], fun _ => {}⟩, control := fun _ => .inr (.inr hquiet) }

theorem Kept.writeParameter (p : Parameter) (v : Nat) (h : P s) : P (writeParameter p v s) := by
  have hset : P (setParameter p v s) := by
    cases p
    case faultLimit q =>
      exact k.line (.port q (fun u => { u with faultLimit := v }) ⟨id, fun _ => id, le_rfl, id⟩) h
    all_goals exact k.plain {} h
  unfold Machine.writeParameter compareLimit
  split
  · dsimp only
    split
    · exact k.raise _ _ _ hset
    · exact hset
  · exact hset

theorem Kept.tableWriteParameter (f : Frame) (h : P s) : P (tableWriteParameter f s) := by
  unfold Machine.tableWriteParameter
  repeat' split
  · exact k.reply _ _ _ _ h
  · exact k.reply _ _ _ _ h
  · exact k.reply _ _ _ _ h
  · exact k.reply _ _ _ _ (k.writeParameter _ _ h)

theorem Kept.tableRead (f : Frame) (h : P s) : P (tableRead f s) := by
  unfold Machine.tableRead
  repeat' split
  all_goals exact k.reply _ _ _ _ h

/-! ### Requests that read, and the causes -/

theorem Kept.bare (f : Frame) (code : Byte) (act : State → State) (hact : P (act s)) (h : P s) :
    P (bare f code act s) := by
  unfold Machine.bare
  split
  · exact hact
  · exact k.reply _ _ _ _ h

theorem Kept.readCrane (f : Frame) (h : P s) : P (readCrane f s) := by
  unfold Machine.readCrane
  repeat' split
  all_goals exact k.reply _ _ _ _ h

theorem Kept.readPiece (f : Frame) (h : P s) : P (readPiece f s) := by
  unfold Machine.readPiece
  repeat' split
  all_goals exact k.reply _ _ _ _ h

theorem Kept.readSlot (f : Frame) (h : P s) : P (readSlot f s) := by
  unfold Machine.readSlot
  repeat' split
  all_goals exact k.reply _ _ _ _ h

theorem Kept.tablesReady (f : Frame) (h : P s) : P (tablesReady f s) :=
  k.reply _ _ _ _ (k.offerNotice (k.plain (t := setSurvey true (setConfigured f.src s)) {} h))

theorem Kept.writeCause (c : Cause) (masked : Bool) (cls : Fin 4) (h : P s) :
    P (writeCause c masked cls s) :=
  k.line (s := s) (.causes (tset s.notice.causes c.place { s.cause c with masked := masked, cls := cls })
    (fun d hd => by
      have hcause := modCause_cause s c (fun x => { x with masked := masked, cls := cls }) d
      simp only [State.cause, modCause] at hcause hd ⊢
      rw [hcause]
      split
      · next hdc => rwa [← hdc]
      · exact hd)) h

theorem Kept.setCause (f : Frame) (h : P s) : P (setCause f s) := by
  unfold Machine.setCause
  repeat' split
  · exact k.reply _ _ _ _ h
  · exact k.reply _ _ _ _ (k.writeCause _ _ _ h)
  · exact k.reply _ _ _ _ h
  · exact k.reply _ _ _ _ h

omit k in
/-- Flags cleared change the cause table alone. -/
theorem clearUnlessHeld_fold (before : State) (l : List Cause) (s : State) :
    ∃ x, l.foldl (clearUnlessHeld before) s = { s with notice := { s.notice with causes := x } } := by
  induction l generalizing s with
  | nil => exact ⟨s.notice.causes, rfl⟩
  | cons c rest ih =>
    rw [List.foldl_cons]
    obtain ⟨x, hx⟩ := ih (clearUnlessHeld before s c)
    refine ⟨x, hx.trans ?_⟩
    unfold clearUnlessHeld
    split <;> rfl

omit k in
theorem KeptByCommands.clearFlags (k : KeptByCommands P) (h : P s) : P (clearFlags s) := by
  obtain ⟨x, hx⟩ := clearUnlessHeld_fold s Cause.all s
  have hcauses := k.cleared x h
  have hport : ∀ (q : Port) (t : State), P t → P (modPort q (fun u => { u with latch := none }) t) :=
    fun q t ht => k.line (.port q _ ⟨id, fun _ => id, le_rfl, id⟩) ht
  unfold Machine.clearFlags
  rw [hx]
  exact hport .fPort _ (hport .pPort _ hcauses)

/-! ### The line unit -/

theorem Kept.failedFrame (q : Port) (e : RxError) (run : Bytes) (h : P s) :
    P (failedFrame q e run s) := by
  have hport : P (modPort q (failPort e run) s) :=
    k.line (.port q _ ⟨id, fun _ => id, le_rfl, id⟩) h
  unfold Machine.failedFrame
  dsimp only
  split
  · exact k.raise _ _ _ hport
  · exact hport

theorem Kept.handOver (f : Frame) (h : P s) : P (handOver f s) := k.plain {} h

theorem Kept.takeMgmt (f : Frame) (h : P s) : P (takeMgmt f s) := by
  unfold Machine.takeMgmt
  split
  · next hroom =>
    refine k.line (.intake _ ?_) h
    simp only [Config.intakeDepth] at hroom
    simp only [List.length_append, List.length_singleton]
    omega
  · exact k.raise _ _ _ h

theorem Kept.fateP (f : Frame) (h : P s) : P (fateP f s) := by
  unfold Machine.fateP
  repeat' split
  · exact k.takeMgmt f h
  · exact k.plain {} h
  · exact k.handOver f h
  · exact k.putForward _ _ (fitFor_withRingMark f) h

theorem Kept.fateOwn (f : Frame) (h : P s) : P (fateOwn f s) := by
  unfold Machine.fateOwn
  repeat' split
  · exact k.handOver f h
  · exact k.offerNormal _ _ (fitFor_ringFrame ..) nofun h
  · exact k.plain {} h

theorem Kept.passToPlant (f : Frame) (hfit : fitFor .pPort f) (h : P s) : P (passToPlant f s) := by
  unfold Machine.passToPlant
  refine k.putForward _ _ hfit ?_
  split
  · exact k.handOver f h
  · exact h

theorem Kept.fateF (f : Frame) (h : P s) : P (fateF f s) := by
  unfold Machine.fateF
  split
  · split
    · exact h
    · exact k.plain {} h
  next hmark =>
  repeat' split
  · exact k.plain {} h
  · exact k.fateOwn f h
  · exact k.putForward _ _ (fitFor_withRingMark f) h
  · exact k.passToPlant f (by simpa [fitFor] using hmark) h

theorem Kept.runFate (q : Port) (f : Frame) (h : P s) : P (runFate q f s) := by
  have hgood : ∀ r, P (goodFrame r s) := fun r => k.line (.port r _ ⟨id, fun _ => id, le_rfl, id⟩) h
  cases q
  · exact k.fateP f (hgood _)
  · exact k.fateF f (hgood _)

/-- A frame that passes in pass-through enters a forward queue with room (R150). -/
theorem Kept.passForward (q : Port) (f : Frame) (hfit : fitFor q f) (h : P s) :
    P (passForward q f s) := by
  unfold Machine.passForward
  split
  · next hroom => exact k.line (.forward q f hroom hfit) h
  · exact h

theorem Kept.passFate (q : Port) (f : Frame) (h : P s) : P (passFate q f s) := by
  unfold Machine.passFate
  split
  · exact k.passForward _ _ (fitFor_withRingMark f) h
  · split
    · exact h
    · next hmark => exact k.passForward _ _ (by simpa [fitFor] using hmark) h

omit k in
theorem sendForward_kept {u : PortUnit} {f : Frame} {rest : List Frame} {run : Nat}
    (hf : u.forward = f :: rest) (hrun : run ≤ 4) : PortKept u (sendForward f rest run u) where
  bounded hb := by simp only [PortUnit.bounded, hf, sendForward, List.length_cons] at hb ⊢; omega
  frames g hg := by
    simp only [PortUnit.frames, sendForward, hf, List.mem_append, List.mem_cons, Option.mem_toList,
      Option.some.injEq] at hg ⊢
    tauto
  notices := le_rfl
  urgent := id

omit k in
theorem sendNormal_kept {u : PortUnit} {f : Frame} {rest : List Frame} (hn : u.normal = f :: rest) :
    PortKept u (sendNormal f rest u) where
  bounded hb := by simp only [PortUnit.bounded, hn, sendNormal, List.length_cons] at hb ⊢; omega
  frames g hg := by
    simp only [PortUnit.frames, sendNormal, hn, List.mem_append, List.mem_cons, Option.mem_toList,
      Option.some.injEq] at hg ⊢
    tauto
  notices := by simp only [sendNormal, hn, noticesIn, List.countP_cons]; omega
  urgent := id

omit k in
/-- The arbiter moves a frame from a queue to the transmitter (R149). -/
theorem arbitrate_kept (u : PortUnit) : PortKept u (arbitrate u) := by
  unfold arbitrate
  split
  case h_1 f rest hu =>
    refine ⟨fun hb => ?_, fun g hg => ?_, le_rfl, fun h => by simp [hu] at h⟩
    · simp only [PortUnit.bounded, hu, List.length_cons] at hb ⊢; omega
    · simp only [PortUnit.frames, hu, List.mem_append, List.mem_cons, Option.mem_toList,
        Option.some.injEq] at hg ⊢
      tauto
  case h_2 f rest n more hu hf hn =>
    split
    · next hrun => exact sendForward_kept hf hrun
    · exact sendNormal_kept hn
  case h_3 f rest hu hf hn => exact sendForward_kept hf (Nat.zero_le _)
  case h_4 n more hu hf hn => exact sendNormal_kept hn
  case h_5 =>
    refine ⟨id, fun g hg => ?_, le_rfl, id⟩
    simp only [PortUnit.frames, List.mem_append, Option.mem_toList] at hg ⊢
    simp at hg
    tauto

theorem Kept.freePort (q : Port) (h : P s) : P (freePort q s) := by
  have hpump : ∀ t, P t → P (pumpNotice t) := fun t ht => by
    unfold pumpNotice
    split
    · exact k.offerNotice ht
    · exact ht
  have hchoose : ∀ t, P t → P (modPort q arbitrate t) :=
    fun t ht => k.line (.port q arbitrate (arbitrate_kept _)) ht
  cases q
  · exact hpump _ (hchoose _ (hpump _ h))
  · exact hchoose _ h

/-! ### A second -/

theorem Kept.tickTimers (h : P s) : P (tickTimers s) := by
  have hheat : P { s with heat := { s.heat with recs := tmap tickHeat s.heat.recs } } :=
    k.heatRecs _ (fun b => by
      rw [tget_tmap]; exact ⟨le_rfl, id, id, .inl Iff.rfl⟩) h
  have hcranes : P { s with
      heat := { s.heat with recs := tmap tickHeat s.heat.recs }
      runway := { s.runway with cranes := tmap tickCrane s.runway.cranes } } := by
    refine k.cranes (tmap tickCrane s.runway.cranes) (fun c => ?_) hheat
    rw [tget_tmap]
    refine ⟨rfl, ⟨tickOrder, rfl, fun o => ?_⟩, .inl⟩
    unfold tickOrder
    split <;> exact {}
  have hwaiting := k.waiting (s.runway.waiting.map tickWaiting) ⟨by simp, fun c => by
    rw [List.filter_map, List.length_map]; exact le_max_right ..⟩ hcranes
  exact k.plain {} hwaiting

theorem Kept.tickSecond (h : P s) : P (tickSecond s) := by
  unfold Machine.tickSecond
  split
  · exact k.offerNotice (k.tickTimers h)
  · exact h

end
end Sys2Proof.StepProofs
end

section
/-! SUPPORT. Every command but those of the start supervisor keeps what `Kept` asks for. -/
namespace Sys2Proof.StepProofs

open Sys2Proof Sys2Proof.Machine

/-- The commands of the start supervisor: what stops the part and what starts it. -/
def ofSupervisor : Instr → Bool
  | .powerLoss => true
  | .resetnAssert => true
  | .backupFall => true
  | .powerUp _ => true
  | .resetnRelease _ => true
  | .restart _ _ => true
  | .clearAll _ _ => true
  | _ => false

/-- A command of a block acts while the part runs, and only then. -/
theorem exec_block {c : Instr} (hpins : ofPins c = false) :
    ∃ body : State → State, ∀ s, exec c s = whenRunning body s := by
  cases c
  case frameReceiveP | frameReceiveF | frameError | outputArbiter | powerLoss | resetnAssert
      | backupFall | powerUp | resetnRelease => exact absurd hpins (by simp [ofPins])
  all_goals
    simp only [exec, execSample, execHeatAck, execPanelStressed, execPanelCastDone,
      execPanelDetensionAsk, execPanelDetensioned, execPanelBedClear, execOrder,
      execReportPosition, execReportStarted, execReportLifted, execReportComplete,
      execReportAborted, execHookScan, execWorksMinuteExpiry, execProbeMinute, execCuringMinute,
      execPieceMinute, execRefreshExpiry, execAckWaitExpiry, execSilenceExpiry, execWaitExpiry,
      execOrderLapse, execTableWriteBed, execTableWriteProbeMap, execTableWriteMix,
      execTableWriteSchedule, execTableWriteArea, execTableWriteService, execTableWriteCrane,
      execTableWriteRegion, execTableWriteBay, execTableWriteParameter, execTableRead,
      execTablesReady, execBedOrder, execBedCancel, execBedAbandon, execBedPause, execBedResume,
      execBedCool, execReadBed, execSetBudget, execShed, execCraneRelease, execReadCrane,
      execCensusBegin, execCensusEnd, execPieceDeclare, execPieceSetMaturity, execPieceDrop,
      execReadPiece, execReadSlot, execProbeForce, execReadFlags, execReadClearFlags, execSetCause,
      execReadCounters, execRestart, execClearAll, execUnknownRequest]
    exact ⟨_, fun _ => rfl⟩

/-- No command of a block has an effect while the part does not run (R150, R165). -/
theorem exec_stopped {s : State} (c : Instr) (hrun : s.running = false) (hpins : ofPins c = false) :
    exec c s = .next s := by
  obtain ⟨body, hbody⟩ := exec_block hpins
  rw [hbody, whenRunning_stopped _ _ hrun]

/-- Every command has a next state. -/
theorem exec_next (c : Instr) (s : State) : ∃ t, exec c s = .next t := by
  cases hpins : ofPins c
  · obtain ⟨body, hbody⟩ := exec_block hpins
    rw [hbody, whenRunning]
    split
    · exact ⟨_, rfl⟩
    · exact ⟨_, rfl⟩
  · cases c
    case frameReceiveP | frameReceiveF | frameError | outputArbiter | powerLoss | resetnAssert
        | backupFall | powerUp | resetnRelease => exact ⟨_, rfl⟩
    all_goals exact absurd hpins (by simp [ofPins])

/-- The state as it is when a bed's change of state has reached the curing unit and the heat supply unit. -/
def atEntry (b : Fin 24) (new : BedState) (s : State) : State :=
  if new = .curing then startHeat b (initThermal b (modBedRec b (enterRec new) s))
  else if (s.bedRec b).state = .curing then
    stopHeat b (refreshMargin b (leaveThermal b (modBedRec b (enterRec new) s)))
  else refreshMargin b (modBedRec b (enterRec new) s)

theorem enterBed_eq (b : Fin 24) (new : BedState) (s : State) :
    enterBed b new s = noteOpportunity
      (if watchedState new && !watchedState (s.bedRec b).state && (atEntry b new s).blind b then
        raise .bedBlind (.bed b) 0 (atEntry b new s)
      else atEntry b new s) := rfl

section
variable {P : State → Prop} (k : Kept P) {s t : State}
include k

omit k in
/-- A command of a block leaves what its action leaves, or the state as it was. -/
theorem after_whenRunning {body : State → State} (h : P s) (ht : whenRunning body s = .next t)
    (hbody : P (body s)) : P t := by
  unfold Machine.whenRunning at ht
  split at ht
  · cases ht; exact hbody
  · cases ht; exact h

theorem Kept.receiveRun (q : Port) (run : Bytes) (h : P s) : P (receiveRun q run s) := by
  unfold Machine.receiveRun
  split
  · exact h
  split
  · split
    · exact k.failedFrame q _ run h
    · exact h
  · split
    · exact k.runFate q _ h
    · exact k.passFate q _ h

/-- A MGMT request: taken in, then acted on. -/
theorem Kept.ofRequest {act : State → State} (f : Frame) (h : P s)
    (ht : Machine.whenRunning (fun u => act (Machine.takeIntake f u)) s = .next t)
    (hact : ∀ u, P u → P (act u)) : P t :=
  after_whenRunning h ht (hact _ (k.takeIntake f h))

/-- A frame handed over: taken, then acted on. -/
theorem Kept.ofHanded {act : State → State} (f : Frame) (h : P s)
    (ht : Machine.whenRunning (fun u => act (Machine.takeHanded f u)) s = .next t)
    (hact : ∀ u, P u → P (act u)) : P t :=
  after_whenRunning h ht (hact _ (k.takeHanded f h))

theorem Kept.ofPanel (f : Frame) (event : Byte) {act : Fin 24 → State → State} (h : P s)
    (ht : Machine.whenRunning (fun u => Machine.takePanel f event act (Machine.takeHanded f u)) s = .next t)
    (hact : ∀ b u, P u → P (act b u)) : P t :=
  k.ofHanded (act := fun u => Machine.takePanel f event act u) f h ht
    fun _ hu => k.takePanel f event act (fun b => hact b _ hu) hu

theorem Kept.ofBedRequest (f : Frame) (code : Byte) {act : Fin 24 → State → State} (h : P s)
    (ht : Machine.whenRunning (fun u => Machine.forBed f code act (Machine.takeIntake f u)) s = .next t)
    (hact : ∀ b u, P u → P (act b u)) : P t :=
  k.ofRequest (act := fun u => Machine.forBed f code act u) f h ht
    fun _ hu => k.forBed f code act (fun b => hact b _ hu) hu

/-- A TABLE_WRITE whose checks are made on the state before the request is taken in, which holds the same
tables. -/
theorem Kept.ofWrite {α : Type} {n : Nat} (f : Frame) (table : Byte) (parse : Bytes → Option α)
    (check : State → Fin n → α → Option Status) (write : Fin n → α → State → State)
    (h : P s)
    (ht : Machine.whenRunning (fun u =>
      Machine.tableWrite f table parse (check u) write (Machine.takeIntake f u)) s = .next t)
    (hline : ∀ u l i e, check { u with line := l } i e = check u i e)
    (hwrite : ∀ u i e, (∃ l, parse l = some e) → check u i e = none → P u → P (write i e u)) : P t := by
  refine after_whenRunning h ht (k.tableWrite f table parse _ write (fun i e hparse hcheck => ?_)
    (k.takeIntake f h))
  refine hwrite _ i e hparse ?_ (k.takeIntake f h)
  obtain ⟨l, hl⟩ := takeIntake_eq f s
  rw [hl, hline]
  exact hcheck

omit k in
/-- Every command of a block and of the line unit keeps what its changes keep. -/
theorem exec_keeps (k : KeptByCommands P) (i : Instr) (hi : ofSupervisor i = false) (h : P s) (ht : Machine.exec i s = .next t) :
    P t := by
  cases i
  case frameReceiveP run => cases ht; exact k.receiveRun _ run h
  case frameReceiveF run => cases ht; exact k.receiveRun _ run h
  case frameError q run => cases ht; exact k.receiveRun q run h
  case outputArbiter q =>
    cases ht
    split
    · exact k.freePort q h
    · exact h
  case sample f => exact k.ofHanded f h ht (fun _ => k.takeSample f)
  case heatAck f => exact k.ofHanded f h ht (fun _ => k.takeHeatAck f)
  case panelStressed f => exact k.ofPanel f 1#8 h ht (fun b _ => k.panelStressed f b)
  case panelCastDone f => exact k.ofPanel f 2#8 h ht (fun b _ => k.panelCastDone f b)
  case panelDetensionAsk f => exact k.ofPanel f 3#8 h ht (fun b _ => k.panelDetensionAsk f b)
  case panelDetensioned f => exact k.ofPanel f 4#8 h ht (fun b _ => k.panelDetensioned f b)
  case panelBedClear f => exact k.ofPanel f 5#8 h ht (fun b _ => k.panelBedClear f b)
  case order f =>
    exact k.ofHanded (act := fun u => Machine.settle (Machine.takeOrder f u)) f h ht
      fun _ hu => k.settle (k.takeOrder f hu)
  case reportPosition f =>
    exact k.ofHanded f h ht (fun _ => k.takeReport f _ (fun _ _ _ hu => hu))
  case reportStarted f => exact k.ofHanded f h ht (fun _ => k.takeReport f _ (fun c r _ => k.takeStarted c r))
  case reportLifted f => exact k.ofHanded f h ht (fun _ => k.takeReport f _ (fun c r _ => k.takeLifted c r))
  case reportComplete f => exact k.ofHanded f h ht (fun _ => k.takeReport f _ (fun c r _ => k.takeComplete c r))
  case reportAborted f => exact k.ofHanded f h ht (fun _ => k.takeReport f _ (fun c r _ => k.takeAborted c r))
  case hookScan f => exact k.ofHanded f h ht (fun _ => k.takeScan f)
  case worksMinuteExpiry =>
    exact after_whenRunning (body := fun u => forEach Machine.permitMinute (advanceMinute u)) h ht
      (forEach_induction _ P _ (fun b _ => k.permitMinute b) (k.plain (t := advanceMinute s) {} h))
  case probeMinute =>
    exact after_whenRunning
      (body := fun u => Machine.staleSurvey (forEach Machine.staleProbe (Machine.ageProbes u))) h ht
      (k.staleSurvey (forEach_induction _ P _ (fun i _ => k.staleProbe i) (k.ageProbes h)))
  case curingMinute =>
    exact after_whenRunning (body := forEach Machine.treatBed) h ht
      (forEach_induction _ P _ (fun b _ => k.treatBed b) h)
  case pieceMinute =>
    exact after_whenRunning
      (body := fun u => ((u : State).piece.recs.map fun p : Piece => p.mark).foldl (fun v m => Machine.pieceMinute m v) u) h ht
      (List.foldlRecOn _ _ h fun _ hu m _ => k.pieceMinute m hu)
  case refreshExpiry b => exact after_whenRunning h ht (k.refreshBed b h)
  case ackWaitExpiry b => exact after_whenRunning h ht (k.missAck b h)
  case silenceExpiry c =>
    exact after_whenRunning (body := fun u => settle (loseCrane c u)) h ht (k.settle (k.loseCrane c h))
  case waitExpiry c tag =>
    exact after_whenRunning (body := fun u => settle (expireWait c tag u)) h ht (k.settle (k.expireWait c tag h))
  case orderLapse c =>
    exact after_whenRunning (body := fun u => settle (lapseOrder c u)) h ht (k.settle (k.lapseOrder c h))
  case tableWriteBed f =>
    exact k.ofWrite f tBed _ State.bedWriteCheck Machine.writeBed h ht (fun _ _ _ _ => rfl)
      (fun _ b e _ hcheck => k.writeBed b e hcheck)
  case tableWriteProbeMap f =>
    exact k.ofWrite f tProbeMap _ State.probeWriteCheck Machine.writeProbe h ht (fun _ _ _ _ => rfl)
      (fun _ i e _ _ => k.writeProbe i e)
  case tableWriteMix f =>
    exact k.ofWrite f tMix _ State.mixWriteCheck setMix h ht (fun _ _ _ _ => rfl)
      (fun _ _ _ _ _ hu => k.plain {} hu)
  case tableWriteSchedule f =>
    exact k.ofWrite f tSchedule _ (fun _ _ _ => none) setSchedule h ht (fun _ _ _ _ => rfl)
      (fun _ _ _ _ _ hu => k.plain {} hu)
  case tableWriteArea f =>
    exact k.ofWrite f tArea _ State.areaWriteCheck Machine.writeArea h ht (fun _ _ _ _ => rfl)
      (fun _ a x hparse hcheck => k.writeArea a x (parseArea_inRange hparse.choose_spec) hcheck)
  case tableWriteService f =>
    exact k.ofWrite f tService _ (fun _ _ _ => none) Machine.writeService h ht (fun _ _ _ _ => rfl)
      (fun _ g b _ _ => k.writeService g b)
  case tableWriteCrane f =>
    exact k.ofWrite f tCrane _ State.craneWriteCheck Machine.writeCrane h ht (fun _ _ _ _ => rfl)
      (fun _ c e _ hcheck => k.writeCrane c e (yardQuiet_of_craneWriteCheck hcheck))
  case tableWriteRegion f =>
    exact k.ofWrite f tRegion _ (fun u _ _ => u.quietCheck) setRegion h ht (fun _ _ _ _ => rfl)
      (fun _ r e _ hcheck => k.region r e (yardQuiet_of_quietCheck hcheck))
  case tableWriteBay f =>
    exact k.ofWrite f tBay _ (fun u _ _ => u.quietCheck) setBay h ht (fun _ _ _ _ => rfl)
      (fun _ _ _ _ _ hu => k.plain {} hu)
  case tableWriteParameter f => exact k.ofRequest f h ht (fun _ => k.tableWriteParameter f)
  case tableRead f => exact k.ofRequest f h ht (fun _ => k.tableRead f)
  case tablesReady f => exact k.ofRequest f h ht (fun _ hu => k.bare f _ _ (k.tablesReady f hu) hu)
  case bedOrder f => exact k.ofRequest f h ht (fun _ => k.bedOrder f)
  case bedCancel f => exact k.ofBedRequest f _ h ht (fun b _ => k.cancelBed f b)
  case bedAbandon f => exact k.ofBedRequest f _ h ht (fun b _ => k.abandonBed f b)
  case bedPause f => exact k.ofBedRequest f _ h ht (fun b _ hu => k.reply _ _ _ _ (k.modWaiting b _ hu))
  case bedResume f => exact k.ofBedRequest f _ h ht (fun b _ hu => k.reply _ _ _ _ (k.modWaiting b _ hu))
  case bedCool f => exact k.ofBedRequest f _ h ht (fun b _ => k.coolBed f b)
  case readBed f => exact k.ofBedRequest f _ h ht (fun _ _ => k.reply _ _ _ _)
  case setBudget f => exact k.ofRequest f h ht (fun _ => k.setBudget f)
  case shed f => exact k.ofRequest f h ht (fun _ => k.shedRequest f)
  case craneRelease f => exact k.ofRequest f h ht (fun _ => k.craneRelease f)
  case readCrane f => exact k.ofRequest f h ht (fun _ => k.readCrane f)
  case censusBegin f => exact k.ofRequest f h ht (fun _ => k.censusBegin f)
  case censusEnd f => exact k.ofRequest f h ht (fun _ => k.censusEnd f)
  case pieceDeclare f => exact k.ofRequest f h ht (fun _ => k.pieceDeclare f)
  case pieceSetMaturity f => exact k.ofRequest f h ht (fun _ => k.pieceSetMaturity f)
  case pieceDrop f => exact k.ofRequest f h ht (fun _ => k.pieceDrop f)
  case readPiece f => exact k.ofRequest f h ht (fun _ => k.readPiece f)
  case readSlot f => exact k.ofRequest f h ht (fun _ => k.readSlot f)
  case probeForce f => exact k.ofRequest f h ht (fun _ => k.probeForce f)
  case readFlags f => exact k.ofRequest f h ht (fun _ hu => k.bare f _ _ (k.reply _ _ _ _ hu) hu)
  case readClearFlags f =>
    exact k.ofRequest f h ht (fun _ hu => k.bare f _ _ (k.reply _ _ _ _ (k.clearFlags hu)) hu)
  case setCause f => exact k.ofRequest f h ht (fun _ => k.setCause f)
  case readCounters f => exact k.ofRequest f h ht (fun _ hu => k.bare f _ _ (k.reply _ _ _ _ hu) hu)
  case unknownRequest f => exact k.ofRequest f h ht (fun _ => k.reply _ _ _ _)
  case restart | clearAll | powerLoss | resetnAssert | backupFall | powerUp | resetnRelease =>
    exact absurd hi (by simp [ofSupervisor])

end
end Sys2Proof.StepProofs
end

section
/-! SUPPORT. What the commands of the start supervisor change, and every step of the part. -/
namespace Sys2Proof.StepProofs

open Sys2Proof Sys2Proof.Machine

/-- A law kept by the changes of a running command and by those of a stop and a start. -/
structure KeptAtStarts (P : State → Prop) : Prop extends KeptByCommands P where
  attn : ∀ {s : State} (v : Bool), P s → P { s with notice := { s.notice with attn := v } }
  kind : ∀ {s : State} (x : StartKind), P s → P { s with sup := { s.sup with kind := x } }
  cold : ∀ {s : State}, P s → P (coldBlocks s)
  warmYard : ∀ {s : State}, P s → P (warmStock (warmRunway s))
  warmBeds : ∀ {s : State}, P s → P (warmBeds s)

theorem resetPort_kept (u : PortUnit) : PortKept u (resetPort u) where
  bounded _ := ⟨Nat.zero_le _, Nat.zero_le _, Nat.zero_le _, Nat.zero_le _⟩
  frames := nofun
  notices := Nat.zero_le _
  urgent _ := rfl

theorem emptyPort_kept (u : PortUnit) : PortKept u {} where
  bounded _ := ⟨Nat.zero_le _, Nat.zero_le _, Nat.zero_le _, Nat.zero_le _⟩
  frames := nofun
  notices := Nat.zero_le _
  urgent _ := rfl

section
variable {P : State → Prop} (k : KeptAtStarts P) {s t : State}
include k

/-! ### Stops -/

/-- Both ports changed and the intake queue emptied. -/
theorem KeptAtStarts.emptyLine (g : PortUnit → PortUnit) (hg : ∀ u, PortKept u (g u)) (l : LineUnit)
    (hP : l.portP = g s.line.portP) (hF : l.portF = g s.line.portF) (hintake : l.intake = [])
    (h : P s) : P { s with line := l } := by
  have hports := k.line (.intake (s := modPort .fPort g (modPort .pPort g s)) [] (by simp))
    (k.line (.port .fPort g (hg _)) (k.line (.port .pPort g (hg _)) h))
  exact k.plain { portP := hP, portF := hF, intake := hintake } hports

theorem KeptAtStarts.resetLine (h : P s) : P { s with line := resetLine s.line } :=
  k.emptyLine resetPort resetPort_kept _ rfl rfl rfl h

/-- The causes replaced, ATTN as it was. -/
theorem KeptAtStarts.causes (x : Vector CauseState 28) (h : P s) :
    P { s with notice := { s.notice with causes := x } } :=
  k.attn s.notice.attn (k.cleared x h)

theorem KeptAtStarts.clearNotices (h : P s) : P (clearNotices s) :=
  k.causes _ (k.line (.queue [] (Nat.zero_le _)) h)

theorem KeptAtStarts.loseTimers (h : P s) : P (loseTimers s) := by
  have hbeds : P { s with bed := { s.bed with recs := tmap untimeBed s.bed.recs } } :=
    k.bedRecs _ (fun b => by rw [tget_tmap]; exact ⟨rfl, .inr (.inl rfl)⟩) h
  have hheat := k.heatRecs (tmap untimeHeat s.heat.recs) (fun b => by
    rw [tget_tmap]; exact ⟨le_rfl, id, id, .inl Iff.rfl⟩) hbeds
  have hcranes := k.cranes (tmap untimeCrane s.runway.cranes) (fun c => by
    rw [tget_tmap]; exact ⟨rfl, ⟨untimeOrder, rfl, fun _ => {}⟩, .inl⟩) hheat
  have hwaiting := k.waiting (s.runway.waiting.map untimeOrder) ⟨by simp, fun c => by
    rw [List.filter_map, List.length_map]; exact le_max_right ..⟩ hcranes
  exact k.plain {} hwaiting

theorem KeptAtStarts.powerFalls (h : P s) : P (powerFalls s) := by
  have hcounts : P (zeroCounts { s with line := Machine.resetLine s.line }) :=
    k.plain {} (k.resetLine h)
  exact k.plain {} (k.attn false (k.clearNotices (k.loseTimers hcounts)))

theorem KeptAtStarts.resetnFalls (h : P s) : P (resetnFalls s) := by
  have hport : ∀ (q : Port) (u : State), P u →
      P (modPort q (fun x => { x with sending := none }) u) := fun q u hu => by
    refine k.line (.port q _ ⟨id, fun f hf => ?_, le_rfl, id⟩) hu
    simp only [PortUnit.frames, List.mem_append, Option.toList_none, List.not_mem_nil, or_false] at hf ⊢
    exact .inl hf
  exact k.plain {} (hport .fPort _ (hport .pPort _ h))

/-! ### Starts -/

theorem KeptAtStarts.updateAttn (h : P s) : P (updateAttn s) := k.attn _ h

theorem KeptAtStarts.startNotices (x : StartKind) (h : P s) : P (startNotices x s) :=
  k.recordCause _ _ _ _ (k.clearNotices h)

theorem KeptAtStarts.recordStart (x : StartKind) (h : P s) : P (recordStart x s) :=
  k.updateAttn (k.plain (s := { s with sup := { s.sup with kind := x } }) {} (k.kind x h))

theorem KeptAtStarts.passStart (h : P s) : P (passStart s) := by
  have hline := k.kind .passThrough (k.resetLine h)
  have hcounts : P (setSurvey true (zeroCounts
      { s with line := Machine.resetLine s.line, sup := { s.sup with kind := .passThrough } })) :=
    k.plain {} hline
  exact k.attn false hcounts

theorem KeptAtStarts.warmPieces (hooks : List Nat) (h : P s) : P (warmPieces hooks s) := by
  have hrecs : P (setPieces (s.piece.recs.map (warmPiece hooks)) s) := by
    refine k.pieces _ (fun p hp => ?_) h
    unfold warmPiece
    repeat' split
    · exact ⟨rfl, rfl, fun _ ha => accountFrom_of_mem ha⟩
    · exact ⟨rfl, rfl, fun _ ha => accountFrom_of_mem ha⟩
    · exact .refl s p
  unfold Machine.warmPieces
  dsimp only
  split
  · exact hrecs
  · exact k.recordCause _ _ _ _ hrecs

omit k in
theorem resumeThermal_kept (policy : ResumePolicy) (x : Thermal) :
    (resumeThermal policy x).maturity = x.maturity ∧ (resumeThermal policy x).remainder = x.remainder
      ∧ (resumeThermal policy x).recipe = x.recipe ∧ (resumeThermal policy x).demand = x.demand := by
  unfold resumeThermal
  repeat' split
  all_goals exact ⟨rfl, rfl, rfl, rfl⟩

theorem KeptAtStarts.warmCure (b : Fin 24) (h : P s) : P (warmCure b s) := by
  have hthermal : P (Machine.modThermal b (resumeThermal (s.bedRec b).policy) s) := by
    obtain ⟨hmat, hrem, hrec, hdem⟩ := resumeThermal_kept (s.bedRec b).policy (s.thermal b)
    refine k.thermal b _ (fun hok => ?_) h
    rwa [cureOk, hmat, hrem, hrec, hdem]
  unfold Machine.warmCure
  dsimp only
  repeat' split
  · exact k.refreshMargin b hthermal
  · exact k.refreshMargin b h
  · exact hthermal
  · exact h

theorem KeptAtStarts.warmHeatBed (b : Fin 24) (h : P s) : P (warmHeatBed b s) := by
  refine k.modHeat b _ ?_ h
  unfold warmHeatRec
  split
  · next hc => exact ⟨Nat.zero_le _, fun _ => le_rfl, fun _ => rfl, .inr (by simp [hc])⟩
  · next hc =>
    split <;> exact ⟨Nat.zero_le _, fun _ => le_rfl, fun _ => rfl, .inr (by simp [hc])⟩

theorem KeptAtStarts.warmHeat (h : P s) : P (warmHeat s) := by
  have hbeds : P (forEach Machine.warmHeatBed s) :=
    forEach_induction _ P _ (fun b _ => k.warmHeatBed b) h
  unfold Machine.warmHeat
  generalize forEach Machine.warmHeatBed s = u at hbeds ⊢
  exact k.plain {} hbeds

theorem KeptAtStarts.warmProbes (h : P s) : P (warmProbes s) := by
  unfold Machine.warmProbes
  refine forEach_induction _ P _ (fun b u hu => ?_) (k.plain {} h)
  unfold blindAtStart
  split
  · exact k.recordCause _ _ _ _ hu
  · exact hu

theorem KeptAtStarts.warmEffects (h : P s) : P (warmEffects s) :=
  k.warmProbes (k.warmHeat (forEach_induction _ P _ (fun b _ => k.warmCure b)
    (k.warmBeds (k.warmPieces _ (k.warmYard h)))))

/-- Each step of a cold start and of a warm one keeps the law. -/
theorem KeptAtStarts.coldSteps (act : State → State) (hact : act ∈ coldSteps) (h : P s) : P (act s) := by
  simp only [Machine.coldSteps, List.mem_cons, List.not_mem_nil, or_false] at hact
  rcases hact with rfl | rfl | rfl | rfl | rfl | rfl
  · exact k.plain {} (k.causes (defaultCauses s.notice.causes) h)
  · exact k.emptyLine (fun _ => {}) emptyPort_kept _ rfl rfl rfl h
  · exact k.startNotices _ h
  · exact k.cold h
  · exact k.plain {} h
  · exact k.recordStart _ h

theorem KeptAtStarts.warmSteps (act : State → State) (hact : act ∈ warmSteps) (h : P s) : P (act s) := by
  simp only [Machine.warmSteps, List.mem_cons, List.not_mem_nil, or_false] at hact
  rcases hact with rfl | rfl | rfl | rfl | rfl | rfl
  · exact h
  · exact k.resetLine h
  · exact k.startNotices _ h
  · exact k.warmEffects h
  · exact h
  · exact k.recordStart _ h

omit k in
theorem inTurn_keeps (steps : List (State → State)) (hsteps : ∀ act ∈ steps, ∀ u, P u → P (act u))
    (h : P s) : P (inTurn steps s) :=
  List.foldlRecOn _ _ h fun u hu act hact => hsteps act hact u hu

theorem KeptAtStarts.stopBy (x : StopKind) (h : P s) : P (stopBy x s) := by
  cases x
  · exact k.powerFalls h
  · exact k.resetnFalls h

theorem KeptAtStarts.carryOut (steps : List (State → State)) (cut : Option StartCut)
    (hsteps : ∀ act ∈ steps, ∀ u, P u → P (act u)) (h : P s) : P (carryOut steps cut s) := by
  unfold Machine.carryOut
  split
  · exact inTurn_keeps _ hsteps h
  · next c =>
    have htaken := inTurn_keeps (steps.take (min 4 c.steps))
      (fun act hact => hsteps act (List.mem_of_mem_take hact)) h
    refine k.stopBy _ ?_
    unfold levelAtStop
    split
    · exact k.attn false htaken
    · exact k.updateAttn htaken

theorem KeptAtStarts.startPart (pins : StartPins) (clear : Bool) (h : P s) :
    P (startPart pins clear s) := by
  have hstrap : P (readStrap pins.strap clear s) := k.plain {} h
  unfold Machine.startPart
  dsimp only
  split
  · unfold passThrough
    split
    · exact k.passStart hstrap
    · exact k.stopBy _ (k.passStart hstrap)
  · exact k.carryOut _ _ (fun act hact _ => k.coldSteps act hact) hstrap
  · exact k.carryOut _ _ (fun act hact _ => k.warmSteps act hact) hstrap

theorem KeptAtStarts.exec (i : Instr) (h : P s) (ht : exec i s = .next t) : P t := by
  have hk : Kept P := k.toKept
  cases i
  case powerLoss =>
    cases ht
    split
    · exact k.powerFalls h
    · exact h
  case resetnAssert => cases ht; exact k.resetnFalls h
  case backupFall =>
    cases ht
    split
    · exact h
    · exact k.plain {} h
  case powerUp pins =>
    cases ht
    split
    · exact h
    have hset : P (setPowered true s) := k.plain {} h
    dsimp only
    split
    · exact hset
    · exact k.startPart pins false hset
  case resetnRelease pins =>
    cases ht
    split
    · have hset : P (setResetHeld false s) := k.plain {} h
      dsimp only
      split
      · exact k.startPart pins false hset
      · exact hset
    · exact h
  case restart f pins =>
    exact hk.ofRequest (act := fun u => bare f qRestart (Machine.startPart pins false) u) f h ht
      fun u hu => hk.bare f _ _ (k.startPart pins false hu) hu
  case clearAll f pins =>
    exact hk.ofRequest (act := fun u => bare f qClearAll (Machine.startPart pins true) u) f h ht
      fun u hu => hk.bare f _ _ (k.startPart pins true hu) hu
  all_goals exact exec_keeps k.toKeptByCommands _ rfl h ht

/-- Every step of the part keeps the law. -/
theorem KeptAtStarts.step (hpending : ∀ {u : State} (l : List Instr), P u → P { u with pending := l })
    (h : P s) (ht : step s = .next t) : P t := by
  unfold Machine.step at ht
  split at ht
  · exact k.exec _ (hpending _ h) ht
  · cases ht
    exact k.tickSecond h

end
end Sys2Proof.StepProofs
end

section
/-!
Every step keeps the bounds of the line unit, the ring mark and ATTN (R143 to R149, R159, R161). These laws read the
ports, the intake queue and the notice unit alone, so the changes of the other blocks reach them only through
the frames that they offer and the causes that they raise.
-/
namespace Sys2Proof.LineLawProofs

open Sys2Proof Sys2Proof.Machine Sys2Proof.StepProofs

/-- Two states with the same ports, intake queue, notice unit and start kind. -/
structure LineAlike (s t : State) : Prop where
  portP : t.line.portP = s.line.portP := by rfl
  portF : t.line.portF = s.line.portF := by rfl
  intake : t.line.intake = s.line.intake := by rfl
  notice : t.notice = s.notice := by rfl
  kind : t.sup.kind = s.sup.kind := by rfl

/-- A law that reads the line unit, the notice unit and the start kind alone, kept by their changes. -/
structure OnLine (P : State → Prop) : Prop where
  line : ∀ {s t : State}, LineMove s t → P s → P t
  reads : ∀ {s t : State}, LineAlike s t → P s → P t

section
variable {P : State → Prop} (k : OnLine P) {s : State}
include k

theorem OnLine.lineKept : LineKept P where
  line := k.line
  plain h := k.reads ⟨h.portP, h.portF, h.intake, h.notice, h.kind⟩

theorem OnLine.offerHeat (b : Fin 24) (d : Nat) (h : P s) : P (offerHeat b d s) :=
  k.lineKept.offerNormal _ _ (fitFor_ringFrame ..) nofun (k.reads {} h)

theorem OnLine.recompute (h : P s) : P (recompute s) := by
  have hgrants : P (regrant s) := by
    refine forEach_induction s P _ (fun b t ht => ?_) h
    unfold takeGrant
    dsimp only
    split
    · exact k.lineKept.raise _ _ _ (k.reads {} ht)
    · exact k.reads {} ht
  exact List.foldlRecOn _ _ hgrants fun t ht x _ => k.offerHeat _ _ (k.reads {} ht)

theorem OnLine.enterBed (b : Fin 24) (new : BedState) (h : P s) : P (enterBed b new s) := by
  have hrec : P (modBedRec b (enterRec new) s) := k.reads {} h
  have hheat : P (atEntry b new s) := by
    unfold atEntry
    split
    · exact k.recompute (k.reads {} hrec)
    split
    · exact k.offerHeat b 0 (k.recompute (k.reads {} hrec))
    · exact k.reads {} hrec
  rw [enterBed_eq]
  split
  · exact k.reads {} (k.lineKept.raise _ _ _ hheat)
  · exact k.reads {} hheat

theorem OnLine.dropClaim (t : Task) (h : P s) : P (dropClaim t s) := by
  unfold StepProofs.dropClaim
  split
  · exact k.reads {} h
  · exact h

/-- A law of the line unit and the notice unit is kept by every change of a running command. -/
theorem OnLine.kept : Kept P where
  toLineKept := k.lineKept
  heatRecs _ _ h := k.reads {} h
  handRequest b n _ h := by
    unfold Machine.handRequest
    split
    · exact h
    · exact k.recompute (k.reads {} h)
  budget _ h := k.recompute (k.reads {} h)
  shed _ h := k.recompute (k.reads {} h)
  enterBed b new _ h := k.enterBed b new h
  bedRecs _ _ h := k.reads {} h
  bedEntry _ _ _ h := k.reads {} h
  thermal _ _ _ h := k.reads {} h
  pieces _ _ h := k.reads {} h
  erase _ h := k.reads {} h
  create _ _ _ _ h := k.reads {} h
  area _ _ _ h := k.reads {} h
  areaWrite _ _ _ _ h := k.reads {} h
  slot _ _ _ h := k.reads {} h
  admission o _ h := by
    unfold claimFor
    split <;> exact k.reads {} h
  place _ _ _ _ _ _ h := k.reads {} h
  release _ o _ h := k.reads {} (k.dropClaim o.task h)
  cranes _ _ h := k.reads {} h
  region _ _ _ h := k.reads {} h
  waiting _ _ h := k.reads {} h

end

/-! ### The bounds -/

theorem noticesIn_append (l : List Frame) (f : Frame) :
    noticesIn (l ++ [f]) = noticesIn l + if f.kind = kNotice then 1 else 0 := by
  simp [noticesIn, List.countP_append, List.countP_cons]

theorem noticesIn_eq_zero {s : State} (h : s.noticeInLane = false) : noticesIn s.line.portP.normal = 0 := by
  simpa [noticesIn, State.noticeInLane] using h

theorem lineBounded_line {s t : State} (hmove : LineMove s t) (h : s.lineBounded) : t.lineBounded := by
  obtain ⟨hP, hF, hurgent, hnotices, hintake, hqueue⟩ := h
  cases hmove with
  | port q g hg =>
    cases q
    · exact ⟨hg.bounded hP, hF, hg.urgent hurgent, hg.notices.trans hnotices, hintake, hqueue⟩
    · exact ⟨hP, hg.bounded hF, hurgent, hnotices, hintake, hqueue⟩
  | lane q f hroom _ hnotice =>
    simp only [State.laneRoom, Config.normalDepth, decide_eq_true_eq] at hroom
    cases q
    · refine ⟨?_, hF, hurgent, ?_, hintake, hqueue⟩
      · simp only [PortUnit.bounded, State.port, modPort, List.length_append, List.length_singleton] at hP hroom ⊢
        omega
      · show noticesIn (s.line.portP.normal ++ [f]) ≤ 1
        rw [noticesIn_append]
        split
        · next hkind => rw [noticesIn_eq_zero (hnotice rfl hkind)]
        · exact hnotices
    · refine ⟨hP, ?_, hurgent, hnotices, hintake, hqueue⟩
      simp only [PortUnit.bounded, State.port, modPort, List.length_append, List.length_singleton] at hF hroom ⊢
      omega
  | forward q f hroom _ =>
    simp only [Config.forwardDepth] at hroom
    cases q
    · refine ⟨?_, hF, hurgent, hnotices, hintake, hqueue⟩
      simp only [PortUnit.bounded, State.port, modPort, List.length_append, List.length_singleton] at hP hroom ⊢
      omega
    · refine ⟨hP, ?_, hurgent, hnotices, hintake, hqueue⟩
      simp only [PortUnit.bounded, State.port, modPort, List.length_append, List.length_singleton] at hF hroom ⊢
      omega
  | urgent f hroom _ =>
    simp only [State.urgentRoom, Config.urgentDepth, decide_eq_true_eq] at hroom
    refine ⟨hP, ?_, hurgent, hnotices, hintake, hqueue⟩
    simp only [PortUnit.bounded, modPort, List.length_append, List.length_singleton] at hF hroom ⊢
    omega
  | head f rest _ hlength _ =>
    refine ⟨hP, ?_, hurgent, hnotices, hintake, hqueue⟩
    simp only [PortUnit.bounded, modPort, List.length_cons] at hF ⊢
    omega
  | intake l hl => exact ⟨hP, hF, hurgent, hnotices, hl.trans (max_le le_rfl hintake), hqueue⟩
  | queue q hq => exact ⟨hP, hF, hurgent, hnotices, hintake, hq.trans (max_le le_rfl hqueue)⟩
  | causes => exact ⟨hP, hF, hurgent, hnotices, hintake, hqueue⟩

theorem lineBounded_onLine : OnLine State.lineBounded where
  line := lineBounded_line
  reads {s t} ha h := by
    simp only [State.lineBounded, ha.portP, ha.portF, ha.intake, ha.notice]; exact h

theorem lineBounded_kept : KeptAtStarts State.lineBounded where
  toKept := lineBounded_onLine.kept
  cleared _ h := h
  attn _ h := h
  kind _ h := h
  cold h := h
  warmYard h := h
  warmBeds h := h

/-! ### The ring mark -/

/-- The frames that a port may send after a change: those it might before, and one fit for it. -/
theorem ringMarked_modPort {s : State} {q : Port} {g : PortUnit → PortUnit} {f : Frame}
    (hfit : fitFor q f) (hframes : ∀ x ∈ (g (s.port q)).frames, x = f ∨ x ∈ (s.port q).frames)
    (h : s.ringMarked) : (modPort q g s).ringMarked := by
  obtain ⟨hF, hP⟩ := h
  cases q
  · refine ⟨hF, fun x hx => ?_⟩
    rcases hframes x hx with rfl | hold
    · simpa [fitFor] using hfit
    · exact hP x hold
  · refine ⟨fun x hx => ?_, hP⟩
    rcases hframes x hx with rfl | hold
    · simpa [fitFor] using hfit
    · exact hF x hold

theorem ringMarked_line {s t : State} (hmove : LineMove s t) (h : s.ringMarked) : t.ringMarked := by
  cases hmove with
  | port q g hg =>
    obtain ⟨hF, hP⟩ := h
    cases q
    · exact ⟨hF, fun f hf => hP f (hg.frames f hf)⟩
    · exact ⟨fun f hf => hF f (hg.frames f hf), hP⟩
  | lane q f _ hfit _ =>
    refine ringMarked_modPort hfit (fun x hx => ?_) h
    simp only [PortUnit.frames, List.mem_append, List.mem_singleton] at hx ⊢
    tauto
  | forward q f _ hfit =>
    refine ringMarked_modPort hfit (fun x hx => ?_) h
    simp only [PortUnit.frames, List.mem_append, List.mem_singleton] at hx ⊢
    tauto
  | urgent f _ hfit =>
    refine ringMarked_modPort hfit (fun x hx => ?_) h
    simp only [PortUnit.frames, List.mem_append, List.mem_singleton] at hx ⊢
    tauto
  | head f rest hfit _ hrest =>
    refine ringMarked_modPort hfit (fun x hx => ?_) h
    simp only [PortUnit.frames, List.mem_append, List.mem_cons] at hx ⊢
    have := hrest x
    simp only [State.port]
    tauto
  | intake l _ => exact h
  | queue q _ => exact h
  | causes => exact h

theorem ringMarked_onLine : OnLine State.ringMarked where
  line := ringMarked_line
  reads {s t} ha h := by simp only [State.ringMarked, ha.portP, ha.portF]; exact h

theorem ringMarked_kept : KeptAtStarts State.ringMarked where
  toKept := ringMarked_onLine.kept
  cleared _ h := h
  attn _ h := h
  kind _ h := h
  cold h := h
  warmYard h := h
  warmBeds h := h

/-! ### ATTN -/

/-- ATTN follows the flags, in a part that is not in pass-through. -/
def attnDriven (s : State) : Prop :=
  s.notice.attn = attnLevel s.notice.causes ∧ s.sup.kind ≠ .passThrough

theorem attnDriven_onLine : OnLine attnDriven where
  line {s t} hmove h := by
    cases hmove with
    | port q | lane q | forward q => cases q <;> exact h
    | causes => exact ⟨rfl, h.2⟩
    | urgent | head | intake | queue => exact h
  reads {s t} ha h := by simp only [attnDriven, ha.notice, ha.kind]; exact h

theorem attnDriven_kept : KeptByCommands attnDriven where
  toKept := attnDriven_onLine.kept
  cleared _ h := ⟨rfl, h.2⟩

theorem attnFollows_of_driven {s : State} (h : attnDriven s) : s.attnFollows := by
  simp [State.attnFollows, h.1, h.2]

theorem attnDriven_of_running {s : State} (hrun : s.running = true) (h : s.attnFollows) :
    attnDriven s := by
  have hkind : s.sup.kind ≠ .passThrough := by
    simp only [State.running, Bool.and_eq_true, bne_iff_ne] at hrun; exact hrun.2
  have hlevel : (s.sup.kind != .passThrough) = true := bne_iff_ne.2 hkind
  simp only [State.attnFollows, hlevel, Bool.true_and] at h
  exact ⟨h, hkind⟩

/-- What a command leaves of ATTN depends on the notice unit and the start kind alone. -/
theorem attnFollows_congr {s t : State} (hnotice : t.notice = s.notice) (hkind : t.sup.kind = s.sup.kind)
    (h : s.attnFollows) : t.attnFollows := by
  simp only [State.attnFollows, hnotice, hkind]; exact h

theorem attnFollows_powerFalls (s : State) : (powerFalls s).attnFollows := by
  have hlevel : attnLevel (powerFalls s).notice.causes = false := by
    simp [attnLevel, powerFalls, loseVolatile, releaseAttn, clearNotices, setPowered]
  show false = _
  rw [hlevel, Bool.and_false]

theorem attnFollows_resetnFalls {s : State} (h : s.attnFollows) : (resetnFalls s).attnFollows :=
  attnFollows_congr rfl rfl h

theorem attnFollows_stopBy (x : StopKind) {s : State} (h : s.attnFollows) : (stopBy x s).attnFollows := by
  cases x
  · exact attnFollows_powerFalls s
  · exact attnFollows_resetnFalls h

theorem attnFollows_recordStart {kind : StartKind} (hkind : kind ≠ .passThrough) (s : State) :
    (recordStart kind s).attnFollows := by
  simp [State.attnFollows, recordStart, updateAttn, hkind]

theorem attnFollows_levelAtStop (s : State) : (levelAtStop s).attnFollows := by
  unfold levelAtStop
  split
  · next hkind => simp [State.attnFollows, releaseAttn, hkind]
  · next hkind => simp [State.attnFollows, updateAttn, hkind]

theorem attnFollows_passStart (s : State) : (passStart s).attnFollows := by
  simp [State.attnFollows, passStart, releaseAttn, setSurvey, zeroCounts]

theorem attnFollows_carryOut (steps : List (State → State)) (kind : StartKind)
    (hkind : kind ≠ .passThrough) (cut : Option StartCut) (s : State) :
    (carryOut (steps ++ [recordStart kind]) cut s).attnFollows := by
  unfold carryOut
  split
  · simp only [inTurn, List.foldl_append, List.foldl_cons, List.foldl_nil]
    exact attnFollows_recordStart hkind _
  · exact attnFollows_stopBy _ (attnFollows_levelAtStop _)

/-- A start leaves ATTN following the flags, whatever it was. -/
theorem attnFollows_startPart (pins : StartPins) (clear : Bool) (s : State) :
    (startPart pins clear s).attnFollows := by
  unfold startPart
  dsimp only
  split
  · unfold passThrough
    split
    · exact attnFollows_passStart _
    · exact attnFollows_stopBy _ (attnFollows_passStart _)
  · exact attnFollows_carryOut
      [coldMasks, coldLine, startNotices .cold, coldBlocks, clearLatch] .cold (by decide) _ _
  · exact attnFollows_carryOut
      [id, warmLine, startNotices .warm, warmEffects, id] .warm (by decide) _ _

/-- A part that does not run keeps its notice unit and its start kind, but at the pins. -/
theorem receiveRun_stopped {s : State} (q : Port) (run : Bytes) (hrun : s.running = false) :
    (receiveRun q run s).notice = s.notice ∧ (receiveRun q run s).sup = s.sup := by
  have hforward : ∀ r f, (passForward r f s).notice = s.notice ∧ (passForward r f s).sup = s.sup := by
    intro r f
    unfold passForward
    split <;> simp
  unfold receiveRun
  repeat' split
  · exact ⟨rfl, rfl⟩
  · next hr => simp [hrun] at hr
  · exact ⟨rfl, rfl⟩
  · next hr => simp [hrun] at hr
  · unfold passFate
    repeat' split
    · exact hforward _ _
    · exact ⟨rfl, rfl⟩
    · exact hforward _ _

theorem freePort_stopped {s : State} (q : Port) (hrun : s.running = false) :
    (freePort q s).notice = s.notice ∧ (freePort q s).sup = s.sup := by
  have hport : (modPort .pPort arbitrate s).running = false := by
    simpa [State.running, State.operating] using hrun
  cases q <;> simp [freePort, pumpNotice, hrun, hport]

/-- A request that begins a start, or is refused. -/
theorem attnFollows_startRequest {f : Frame} {code : Byte} {pins : StartPins} {clear : Bool} {s t : State}
    (hrun : s.running = true)
    (ht : whenRunning (fun u => bare f code (startPart pins clear) (takeIntake f u)) s = .next t)
    (h : s.attnFollows) : t.attnFollows := by
  rw [whenRunning_running _ _ hrun] at ht
  cases ht
  unfold bare
  split
  · exact attnFollows_startPart pins clear _
  · have hkept := attnDriven_onLine.kept
    exact attnFollows_of_driven
      (hkept.reply _ _ _ _ (hkept.takeIntake f (attnDriven_of_running hrun h)))

/-- The pins of the supply and of RESETn, and the requests that begin a start. -/
theorem attnFollows_supervisor (i : Instr) {s t : State} (hi : ofSupervisor i = true)
    (hrun : s.running = true ∨ ofPins i = true) (ht : exec i s = .next t) (h : s.attnFollows) :
    t.attnFollows := by
  cases i
  case restart f pins => exact attnFollows_startRequest (hrun.resolve_right nofun) ht h
  case clearAll f pins => exact attnFollows_startRequest (hrun.resolve_right nofun) ht h
  case powerLoss =>
    cases ht
    split
    · exact attnFollows_powerFalls s
    · exact h
  case resetnAssert => cases ht; exact attnFollows_resetnFalls h
  case backupFall =>
    cases ht
    split
    · exact h
    · exact attnFollows_congr rfl rfl h
  case powerUp pins =>
    cases ht
    split
    · exact h
    dsimp only
    split
    · exact attnFollows_congr rfl rfl h
    · exact attnFollows_startPart pins false _
  case resetnRelease pins =>
    cases ht
    split
    · dsimp only
      split
      · exact attnFollows_startPart pins false _
      · exact attnFollows_congr rfl rfl h
    · exact h
  all_goals cases hi

theorem attnFollows_ports_stopped (i : Instr) {s t : State} (hi : ofSupervisor i = false)
    (hpins : ofPins i = true) (hrun : s.running = false) (ht : exec i s = .next t) (h : s.attnFollows) :
    t.attnFollows := by
  have hreceive : ∀ q run, (receiveRun q run s).attnFollows := fun q run =>
    attnFollows_congr (receiveRun_stopped q run hrun).1
      (congrArg Supervisor.kind (receiveRun_stopped q run hrun).2) h
  cases i
  case frameReceiveP run => cases ht; exact hreceive _ run
  case frameReceiveF run => cases ht; exact hreceive _ run
  case frameError q run => cases ht; exact hreceive q run
  case outputArbiter q =>
    cases ht
    split
    · exact attnFollows_congr (freePort_stopped q hrun).1
        (congrArg Supervisor.kind (freePort_stopped q hrun).2) h
    · exact h
  case powerLoss | resetnAssert | backupFall | powerUp | resetnRelease => cases hi
  all_goals cases hpins

theorem attnFollows_exec (i : Instr) {s t : State} (ht : exec i s = .next t) (h : s.attnFollows) :
    t.attnFollows := by
  by_cases hrun : s.running = true
  · by_cases hi : ofSupervisor i = true
    · exact attnFollows_supervisor i hi (.inl hrun) ht h
    · exact attnFollows_of_driven (exec_keeps attnDriven_kept i (by simpa using hi)
        (attnDriven_of_running hrun h) ht)
  · rw [Bool.not_eq_true] at hrun
    by_cases hpins : ofPins i = true
    · by_cases hi : ofSupervisor i = true
      · exact attnFollows_supervisor i hi (.inr hpins) ht h
      · exact attnFollows_ports_stopped i (by simpa using hi) hpins hrun ht h
    · rw [exec_stopped i hrun (by simpa using hpins)] at ht
      cases ht
      exact h

theorem attnFollows_step {s t : State} (ht : step s = .next t) (h : s.attnFollows) : t.attnFollows := by
  unfold step at ht
  split at ht
  · next c rest hpending => exact attnFollows_exec c ht (attnFollows_congr rfl rfl h)
  · cases ht
    unfold tickSecond
    split
    · next hrun =>
      have hkept := attnDriven_onLine.kept
      exact attnFollows_of_driven
        (hkept.offerNotice (hkept.tickTimers (attnDriven_of_running hrun h)))
    · exact h

/-- Settles O52: the bounds and the ring mark by the changes that a step is made of, ATTN by the starts apart,
which recompute or release it. -/
theorem lineLawsKept : Obligations.LineLawsKept := by
  unfold Obligations.LineLawsKept
  intro s t ht
  exact ⟨fun h => lineBounded_kept.step (fun _ hu => hu) h ht, fun h => ringMarked_kept.step (fun _ hu => hu) h ht, attnFollows_step ht⟩

end Sys2Proof.LineLawProofs
end

section
/-!
The laws that read neither the line unit nor the heat supply unit: what reaches them, and that every step keeps the
accounts and demands in their ranges (R37, R66, R71).
-/
namespace Sys2Proof.BlockLawProofs

open Sys2Proof Sys2Proof.Machine Sys2Proof.StepProofs

/-- Two states with the same beds, thermal parts, pieces, areas, slots, cranes, regions and waiting orders. -/
structure BlockAlike (s t : State) : Prop where
  bedTable : t.bed.table = s.bed.table := by rfl
  bedRecs : t.bed.recs = s.bed.recs := by rfl
  thermal : t.curing.thermal = s.curing.thermal := by rfl
  piece : t.piece = s.piece := by rfl
  areas : t.stock.areas = s.stock.areas := by rfl
  slots : t.stock.slots = s.stock.slots := by rfl
  cranes : t.runway.cranes = s.runway.cranes := by rfl
  regions : t.runway.regions = s.runway.regions := by rfl
  waiting : t.runway.waiting = s.runway.waiting := by rfl

theorem BlockAlike.of_blocks {s t : State} (hbed : t.bed = s.bed) (hcuring : t.curing = s.curing)
    (hpiece : t.piece = s.piece) (hstock : t.stock = s.stock) (hrunway : t.runway = s.runway) :
    BlockAlike s t where
  bedTable := by rw [hbed]
  bedRecs := by rw [hbed]
  thermal := by rw [hcuring]
  piece := hpiece
  areas := by rw [hstock]
  slots := by rw [hstock]
  cranes := by rw [hrunway]
  regions := by rw [hrunway]
  waiting := by rw [hrunway]

theorem BlockAlike.of_lineMove {s t : State} (h : LineMove s t) : BlockAlike s t := by
  cases h with
  | port q | lane q | forward q => apply BlockAlike.of_blocks <;> simp
  | urgent | head | intake | queue | causes => exact {}

theorem BlockAlike.of_alike {s t : State} (h : Alike s t) : BlockAlike s t where
  bedTable := h.bedTable
  bedRecs := h.bedRecs
  thermal := h.thermal
  piece := h.piece
  areas := h.areas
  slots := h.slots
  cranes := h.cranes
  regions := h.regions
  waiting := h.waiting

theorem BlockAlike.recompute (s : State) : BlockAlike s (recompute s) := by
  apply BlockAlike.of_blocks <;> simp

theorem BlockAlike.handRequest (b : Fin 24) (n : Nat) (s : State) : BlockAlike s (handRequest b n s) := by
  apply BlockAlike.of_blocks <;> simp

/-- The thermal part of a bed at its change of state (R52, R71, R46). -/
def cureAtEntry (b : Fin 24) (new : BedState) (s : State) : State :=
  if new = .curing then initThermal b (modBedRec b (enterRec new) s)
  else if (s.bedRec b).state = .curing then
    refreshMargin b (leaveThermal b (modBedRec b (enterRec new) s))
  else refreshMargin b (modBedRec b (enterRec new) s)

theorem BlockAlike.enterBed (b : Fin 24) (new : BedState) (s : State) :
    BlockAlike (cureAtEntry b new s) (enterBed b new s) := by
  have hentry : BlockAlike (cureAtEntry b new s) (atEntry b new s) := by
    unfold cureAtEntry atEntry
    split
    · apply BlockAlike.of_blocks <;> simp
    split
    · apply BlockAlike.of_blocks <;> simp
    · exact {}
  rw [enterBed_eq]
  split
  · exact ⟨by simpa using hentry.bedTable, by simpa using hentry.bedRecs, by simpa using hentry.thermal,
      by simpa using hentry.piece, by simpa using hentry.areas, by simpa using hentry.slots,
      by simpa [noteOpportunity] using hentry.cranes, by simpa [noteOpportunity] using hentry.regions,
      by simpa [noteOpportunity] using hentry.waiting⟩
  · exact ⟨hentry.bedTable, hentry.bedRecs, hentry.thermal, hentry.piece, hentry.areas, hentry.slots,
      hentry.cranes, hentry.regions, hentry.waiting⟩

/-- A law of the blocks that `BlockAlike` names, kept by their changes and by a stop and a start. -/
structure OnBlocks (P : State → Prop) : Prop where
  reads : ∀ {s t : State}, BlockAlike s t → P s → P t
  enterBed : ∀ {s : State} (b : Fin 24) (new : BedState), MayEnter s b new → P s →
    P (cureAtEntry b new s)
  bedRecs : ∀ {s : State} (v : Vector BedRec 24), (∀ b, BedKept (s.bedRec b) (tget v b)) →
    P s → P { s with bed := { s.bed with recs := v } }
  bedEntry : ∀ {s : State} (b : Fin 24) (e : BedEntry), s.bedWriteCheck b e = none →
    P s → P (setBedEntry b e s)
  thermal : ∀ {s : State} (b : Fin 24) (f : Thermal → Thermal),
    (cureOk (s.curingBed b) (s.thermal b) → cureOk (s.curingBed b) (f (s.thermal b))) →
    P s → P (modThermal b f s)
  pieces : ∀ {s : State} (g : Piece → Piece), (∀ p ∈ s.piece.recs, PieceKept s p (g p)) →
    P s → P (setPieces (s.piece.recs.map g) s)
  erase : ∀ {s : State} (m : Nat), P s → P (erasePiece m s)
  create : ∀ {s : State} (p : Piece), s.findPiece p.mark = none → s.hasFreeRecord = true →
    (∀ a ∈ p.account, accountInRange a.maturity a.remainder) → P s → P (createPiece p s)
  area : ∀ {s : State} (a : Fin 16) (f : Area → Area), AreaKept (s.area a) (f (s.area a)) →
    P s → P (modArea a f s)
  areaWrite : ∀ {s : State} (a : Fin 16) (x : AreaFields), areaInRange x = true →
    s.areaWriteCheck a x = none → P s → P (modArea a (Area.rewritten x) s)
  slot : ∀ {s : State} (n : Fin 1024) (f : Slot → Slot), slotKept s n (f (s.slot n)) →
    P s → P (modSlot n f s)
  admission : ∀ {s : State} (o : CraneOrder), s.trial o = .admitted →
    P s → P (claimFor o.task (holdOrder o ((s.crane o.crane).position.getD 0) s))
  place : ∀ {s : State} (c : Fin 4) (o : CraneOrder) (n : Fin 1024) (m : Nat),
    (s.crane c).current = some o → o.task.destSlot = some n →
    P s → P (endOrder c (modSlot n (fun x => { stack := x.stack ++ [m], claims := x.claims - 1 }) s))
  release : ∀ {s : State} (c : Fin 4) (o : CraneOrder), (s.crane c).current = some o →
    P s → P (endOrder c (dropClaim o.task s))
  cranes : ∀ {s : State} (v : Vector Crane 4), (∀ c, CraneKept s (s.crane c) (tget v c)) →
    P s → P { s with runway := { s.runway with cranes := v } }
  region : ∀ {s : State} (r : Fin 8) (e : Region), s.yardQuiet = true → P s → P (setRegion r e s)
  waiting : ∀ {s : State} (l : List CraneOrder), WaitingKept s l → P s → P (setWaiting l s)
  cold : ∀ {s : State}, P s → P (coldBlocks s)
  warmYard : ∀ {s : State}, P s → P (warmStock (warmRunway s))
  warmBeds : ∀ {s : State}, P s → P (warmBeds s)

theorem OnBlocks.kept {P : State → Prop} (k : OnBlocks P) : KeptAtStarts P where
  line h := k.reads (.of_lineMove h)
  plain h := k.reads (.of_alike h)
  heatRecs _ _ := k.reads {}
  handRequest b n _ := k.reads (.handRequest b n _)
  budget {s} v h := k.reads (.recompute (writeBudget v s)) (k.reads (t := writeBudget v s) {} h)
  shed {s} v h := k.reads (.recompute (writeShed v s)) (k.reads (t := writeShed v s) {} h)
  enterBed b new hmay h := k.reads (.enterBed b new _) (k.enterBed b new hmay h)
  bedRecs := k.bedRecs
  bedEntry := k.bedEntry
  thermal := k.thermal
  pieces := k.pieces
  erase := k.erase
  create := k.create
  area := k.area
  areaWrite := k.areaWrite
  slot := k.slot
  admission := k.admission
  place := k.place
  release := k.release
  cranes := k.cranes
  region := k.region
  waiting := k.waiting
  cleared _ := k.reads {}
  attn _ := k.reads {}
  kind _ := k.reads {}
  cold := k.cold
  warmYard := k.warmYard
  warmBeds := k.warmBeds

/-- A law of the blocks does not read the queue of waiting commands. -/
theorem OnBlocks.step {P : State → Prop} (k : OnBlocks P) {s t : State} (h : P s) (ht : step s = .next t) :
    P t :=
  k.kept.step (fun _ hu => k.reads {} hu) h ht

/-! ### Accounts and demands -/

/-- What the law asks of the beds. -/
def bedsCure (s : State) : Prop := ∀ b, cureOk (s.curingBed b) (s.thermal b)

/-- What the law asks of the pieces. -/
def piecesCure (s : State) : Prop :=
  ∀ p ∈ s.piece.recs, ∀ a ∈ p.account, accountInRange a.maturity a.remainder

theorem cureLaw_iff (s : State) : s.cureLaw ↔ bedsCure s ∧ piecesCure s := Iff.rfl

theorem cureLaw_reads {s t : State} (hrecs : t.bed.recs = s.bed.recs)
    (hthermal : t.curing.thermal = s.curing.thermal) (hpiece : t.piece = s.piece) (h : s.cureLaw) :
    t.cureLaw := by
  have hbed : t.bedRec = s.bedRec := by funext b; simp [State.bedRec, hrecs]
  have hcure : t.thermal = s.thermal := by funext b; simp [State.thermal, hthermal]
  simp only [State.cureLaw, State.curingBed, hbed, hcure, hpiece]
  exact h

/-- The beds' part of the law after a change of one bed's record and thermal part. -/
theorem bedsCure_of_bed {s t : State} (b : Fin 24) (hother : ∀ j, j ≠ b → t.bedRec j = s.bedRec j)
    (hthermal : ∀ j, j ≠ b → t.thermal j = s.thermal j) (hb : cureOk (t.curingBed b) (t.thermal b))
    (h : bedsCure s) : bedsCure t := by
  intro j
  by_cases hj : j = b
  · exact hj ▸ hb
  · have hcuring : t.curingBed j = s.curingBed j := by simp only [State.curingBed, hother j hj]
    rw [hcuring, hthermal j hj]
    exact h j

theorem refreshMargin_cureOk {s : State} (b : Fin 24) (c : Bool) :
    cureOk c ((refreshMargin b s).thermal b) ↔ cureOk c (s.thermal b) := by
  simp [refreshMargin, cureOk]

theorem cureAtEntry_cureOk {s : State} (b : Fin 24) (new : BedState)
    (h : cureOk (s.curingBed b) (s.thermal b)) :
    cureOk (decide (new = .curing)) ((cureAtEntry b new s).thermal b) := by
  obtain ⟨haccount, hdemand, hidle⟩ := h
  unfold cureAtEntry
  split
  · rw [initThermal, refreshMargin_cureOk]
    simp [cureOk, accountInRange]
  split
  · rw [refreshMargin_cureOk]
    simpa [leaveThermal, cureOk] using haccount
  · next hcuring =>
    rw [refreshMargin_cureOk]
    have hzero := hidle (by simpa [State.curingBed] using hcuring)
    simpa [cureOk, hzero] using haccount

theorem cureAtEntry_bedRec (b : Fin 24) (new : BedState) (s : State) (j : Fin 24) :
    (cureAtEntry b new s).bedRec j = if j = b then enterRec new (s.bedRec b) else s.bedRec j := by
  unfold cureAtEntry
  repeat' split
  all_goals simp_all [initThermal, leaveThermal, refreshMargin]

theorem cureAtEntry_thermal (b : Fin 24) (new : BedState) (s : State) (j : Fin 24) (hj : j ≠ b) :
    (cureAtEntry b new s).thermal j = s.thermal j := by
  unfold cureAtEntry
  repeat' split
  all_goals simp [initThermal, leaveThermal, refreshMargin, hj]

theorem cureAtEntry_piece (b : Fin 24) (new : BedState) (s : State) :
    (cureAtEntry b new s).piece = s.piece := by
  unfold cureAtEntry
  repeat' split
  all_goals simp

theorem accountInRange_of_from {s : State} {p : Piece} {a : Account} (hp : p ∈ s.piece.recs)
    (ha : accountFrom s p a) (h : s.cureLaw) : accountInRange a.maturity a.remainder := by
  rcases ha with ⟨q, hq, x, hx, hm, hr⟩ | hrange | ⟨b, hm, hr⟩
  · rw [hm, hr]
    exact h.2 q (hq.elim (· ▸ hp) id) x hx
  · exact hrange
  · rw [hm, hr]
    exact (h.1 b).1

theorem claimFor_blocks (t : Task) (s : State) : (claimFor t s).bed = s.bed
    ∧ (claimFor t s).curing = s.curing ∧ (claimFor t s).piece = s.piece := by
  unfold claimFor
  split <;> simp [takeClaim]

theorem dropClaim_blocks (t : Task) (s : State) : (dropClaim t s).bed = s.bed
    ∧ (dropClaim t s).curing = s.curing ∧ (dropClaim t s).piece = s.piece := by
  unfold dropClaim
  split <;> simp

theorem warmBeds_bedRec (s : State) (b : Fin 24) : (warmBeds s).bedRec b = warmBedRec (s.bedRec b) :=
  tget_tmap ..

theorem warmBeds_curingBed (s : State) (b : Fin 24) : (warmBeds s).curingBed b = s.curingBed b := by
  simp only [State.curingBed, warmBeds_bedRec, warmBedRec]
  split <;> simp_all

theorem cureLaw_enterBed {s : State} (b : Fin 24) (new : BedState) (h : s.cureLaw) :
    (cureAtEntry b new s).cureLaw := by
  refine ⟨bedsCure_of_bed b (fun j hj => ?_) (cureAtEntry_thermal b new s) ?_ h.1, ?_⟩
  · rw [cureAtEntry_bedRec, if_neg hj]
  · have hcuring : (cureAtEntry b new s).curingBed b = decide (new = .curing) := by
      rw [State.curingBed, cureAtEntry_bedRec, if_pos rfl]; rfl
    rw [hcuring]
    exact cureAtEntry_cureOk b new (h.1 b)
  · rw [cureAtEntry_piece]; exact h.2

theorem cureLaw_bedRecs {s : State} (v : Vector BedRec 24) (hv : ∀ b, BedKept (s.bedRec b) (tget v b))
    (h : s.cureLaw) : State.cureLaw { s with bed := { s.bed with recs := v } } := by
  refine ⟨fun b => ?_, h.2⟩
  have hcuring : State.curingBed { s with bed := { s.bed with recs := v } } b = s.curingBed b := by
    show decide ((tget v b).state = _) = decide _
    rw [(hv b).state]
  rw [hcuring]
  exact h.1 b

theorem cureLaw_thermal {s : State} (b : Fin 24) (f : Thermal → Thermal)
    (hf : cureOk (s.curingBed b) (s.thermal b) → cureOk (s.curingBed b) (f (s.thermal b)))
    (h : s.cureLaw) : (modThermal b f s).cureLaw := by
  have hbeds : bedsCure s := h.1
  refine ⟨bedsCure_of_bed (s := s) b (fun _ _ => rfl) (fun j hj => by simp [hj]) ?_ hbeds, h.2⟩
  rw [modThermal_thermal, if_pos rfl]
  exact hf (h.1 b)

theorem cureLaw_pieces {s : State} (g : Piece → Piece) (hg : ∀ p ∈ s.piece.recs, PieceKept s p (g p))
    (h : s.cureLaw) : (setPieces (s.piece.recs.map g) s).cureLaw := by
  refine ⟨h.1, fun q hq a ha => ?_⟩
  obtain ⟨p, hp, rfl⟩ := List.mem_map.1 hq
  exact accountInRange_of_from hp ((hg p hp).account a ha) h

theorem cureLaw_create {s : State} (p : Piece)
    (hp : ∀ a ∈ p.account, accountInRange a.maturity a.remainder) (h : s.cureLaw) :
    (createPiece p s).cureLaw := by
  refine ⟨h.1, fun q hq => ?_⟩
  rcases (mem_insertPiece _ _ _).1 hq with rfl | hold
  · exact hp
  · exact h.2 q hold

theorem coldBlocks_thermal (s : State) (b : Fin 24) : (coldBlocks s).thermal b = {} :=
  tget_tableOf ..

theorem cureLaw_cold (s : State) : (coldBlocks s).cureLaw := by
  refine ⟨fun b => ?_, fun p hp => absurd hp List.not_mem_nil⟩
  rw [coldBlocks_thermal]
  exact ⟨⟨Nat.zero_le _, Nat.zero_le _⟩, Nat.zero_le _, fun _ => rfl⟩

theorem cureLaw_onBlocks : OnBlocks State.cureLaw where
  reads h := cureLaw_reads h.bedRecs h.thermal h.piece
  enterBed b new _ := cureLaw_enterBed b new
  bedRecs := cureLaw_bedRecs
  bedEntry _ _ _ := cureLaw_reads rfl rfl rfl
  thermal := cureLaw_thermal
  pieces := cureLaw_pieces
  erase m h := ⟨h.1, fun p hp => h.2 p (List.mem_of_mem_filter hp)⟩
  create p _ _ := cureLaw_create p
  area _ _ _ := cureLaw_reads rfl rfl rfl
  areaWrite _ _ _ _ := cureLaw_reads rfl rfl rfl
  slot _ _ _ := cureLaw_reads rfl rfl rfl
  admission {s} o _ := by
    obtain ⟨hbed, hcuring, hpiece⟩ :=
      claimFor_blocks o.task (holdOrder o ((s.crane o.crane).position.getD 0) s)
    exact cureLaw_reads (by rw [hbed]; rfl) (by rw [hcuring]; rfl) (by rw [hpiece]; rfl)
  place _ _ _ _ _ _ := cureLaw_reads rfl rfl rfl
  release {s} c o _ := by
    obtain ⟨hbed, hcuring, hpiece⟩ := dropClaim_blocks o.task s
    exact cureLaw_reads (by simp [hbed]) (by simp [hcuring]) (by simp [hpiece])
  cranes _ _ := cureLaw_reads rfl rfl rfl
  region _ _ _ := cureLaw_reads rfl rfl rfl
  waiting _ _ := cureLaw_reads rfl rfl rfl
  cold _ := cureLaw_cold _
  warmYard := cureLaw_reads rfl rfl rfl
  warmBeds {s} h := ⟨fun b => by rw [warmBeds_curingBed]; exact h.1 b, h.2⟩

/-- Settles O54. -/
theorem cureLawKept : Obligations.CureLawKept := by
  unfold Obligations.CureLawKept
  exact fun s t ht h => cureLaw_onBlocks.step h ht

end Sys2Proof.BlockLawProofs
end

section
/-!
Every step keeps the record numbers strictly rising below 2048 and no mark held twice (R87, R88): a record is
created in the lowest free number, and under a mark that the directory does not hold.
-/
namespace Sys2Proof.DirectoryProofs

open Sys2Proof Sys2Proof.Machine Sys2Proof.StepProofs Sys2Proof.BlockLawProofs

/-- Record numbers strictly rising from a first one on. -/
def Rising (l : List Piece) : Prop := (l.map (·.number)).Pairwise (· < ·)

theorem rising_cons {p : Piece} {l : List Piece} :
    Rising (p :: l) ↔ (∀ q ∈ l, p.number < q.number) ∧ Rising l := by
  simp [Rising]

theorem le_lowestFree (n : Nat) (l : List Piece) : n ≤ lowestFree n l := by
  induction l generalizing n with
  | nil => exact le_rfl
  | cons p rest ih =>
    unfold lowestFree
    split
    · exact (Nat.le_succ n).trans (ih (n + 1))
    · exact le_rfl

theorem lowestFree_le (n : Nat) (l : List Piece) : lowestFree n l ≤ n + l.length := by
  induction l generalizing n with
  | nil => exact le_rfl
  | cons p rest ih =>
    unfold lowestFree
    split
    · exact (ih (n + 1)).trans (by simp only [List.length_cons]; omega)
    · exact Nat.le_add_right ..

/-- The lowest free number is the number of no record. -/
theorem lowestFree_free {n : Nat} {l : List Piece} (hrise : Rising l) (hfrom : ∀ p ∈ l, n ≤ p.number) :
    ∀ p ∈ l, p.number ≠ lowestFree n l := by
  induction l generalizing n with
  | nil => simp
  | cons p rest ih =>
    obtain ⟨hfirst, hrest⟩ := rising_cons.1 hrise
    have hp := hfrom p (by simp)
    unfold lowestFree
    split
    · next hn =>
      have hnext : ∀ q ∈ rest, n + 1 ≤ q.number := fun q hq => hn ▸ hfirst q hq
      intro q hq
      rcases List.mem_cons.1 hq with rfl | hq
      · have := le_lowestFree (n + 1) rest; omega
      · exact ih hrest hnext q hq
    · intro q hq
      rcases List.mem_cons.1 hq with rfl | hq
      · assumption
      · have := hfirst q hq; omega

theorem insertPiece_perm (p : Piece) (l : List Piece) : (insertPiece p l).Perm (p :: l) := by
  induction l with
  | nil => exact .refl _
  | cons q rest ih =>
    unfold insertPiece
    split
    · exact .refl _
    · exact (ih.cons q).trans (.swap p q rest)

theorem rising_insertPiece {p : Piece} {l : List Piece} (hrise : Rising l)
    (hfree : ∀ q ∈ l, q.number ≠ p.number) : Rising (insertPiece p l) := by
  induction l with
  | nil => simp [insertPiece, Rising]
  | cons q rest ih =>
    obtain ⟨hfirst, hrest⟩ := rising_cons.1 hrise
    have hq := hfree q (by simp)
    unfold insertPiece
    split
    · next hlt =>
      refine rising_cons.2 ⟨fun r hr => ?_, hrise⟩
      rcases List.mem_cons.1 hr with rfl | hr
      · exact hlt
      · exact hlt.trans (hfirst r hr)
    · refine rising_cons.2 ⟨fun r hr => ?_, ih hrest fun r hr => hfree r (by simp [hr])⟩
      rcases (mem_insertPiece _ _ _).1 hr with rfl | hr
      · omega
      · exact hfirst r hr

theorem directoryLaw_iff (s : State) : s.directoryLaw ↔ Rising s.piece.recs
    ∧ (∀ p ∈ s.piece.recs, p.number < 2048) ∧ (s.piece.recs.map (·.mark)).Nodup := Iff.rfl

theorem directoryLaw_reads {s t : State} (hpiece : t.piece = s.piece) (h : s.directoryLaw) :
    t.directoryLaw := by
  rw [directoryLaw_iff, hpiece]; exact h

theorem directoryLaw_pieces {s : State} (g : Piece → Piece)
    (hg : ∀ p ∈ s.piece.recs, PieceKept s p (g p)) (h : s.directoryLaw) :
    (setPieces (s.piece.recs.map g) s).directoryLaw := by
  have hnumbers : (s.piece.recs.map g).map (·.number) = s.piece.recs.map (·.number) := by
    rw [List.map_map]; exact List.map_congr_left fun p hp => (hg p hp).number
  have hmarks : (s.piece.recs.map g).map (·.mark) = s.piece.recs.map (·.mark) := by
    rw [List.map_map]; exact List.map_congr_left fun p hp => (hg p hp).mark
  refine ⟨?_, fun q hq => ?_, ?_⟩
  · rw [setPieces_recs, hnumbers]; exact h.1
  · obtain ⟨p, hp, rfl⟩ := List.mem_map.1 hq
    rw [(hg p hp).number]
    exact h.2.1 p hp
  · rw [setPieces_recs, hmarks]; exact h.2.2

theorem directoryLaw_erase {s : State} (m : Nat) (h : s.directoryLaw) : (erasePiece m s).directoryLaw := by
  have hsub : List.Sublist (erasePiece m s).piece.recs s.piece.recs := List.filter_sublist
  exact ⟨h.1.sublist (hsub.map _), fun p hp => h.2.1 p (hsub.subset hp), h.2.2.sublist (hsub.map _)⟩

theorem directoryLaw_create {s : State} (p : Piece) (hnew : s.findPiece p.mark = none)
    (hroom : s.hasFreeRecord = true) (h : s.directoryLaw) : (createPiece p s).directoryLaw := by
  obtain ⟨hrise, hbound, hmarks⟩ := (directoryLaw_iff s).1 h
  have hfree := lowestFree_free hrise (n := 0) fun _ _ => Nat.zero_le _
  refine ⟨rising_insertPiece hrise hfree, fun q hq => ?_, ?_⟩
  · rcases (mem_insertPiece _ _ _).1 hq with rfl | hold
    · have hle := lowestFree_le 0 s.piece.recs
      simp only [State.hasFreeRecord, Config.pieceRecords, decide_eq_true_eq] at hroom
      show lowestFree 0 s.piece.recs < 2048
      omega
    · exact hbound q hold
  · refine (((insertPiece_perm _ s.piece.recs).map _).nodup_iff).2 ?_
    rw [findPiece_eq_none_iff] at hnew
    refine List.nodup_cons.2 ⟨fun hmem => ?_, hmarks⟩
    obtain ⟨q, hq, hmark⟩ := List.mem_map.1 hmem
    exact hnew q hq hmark

theorem directoryLaw_onBlocks : OnBlocks State.directoryLaw where
  reads h := directoryLaw_reads h.piece
  enterBed b new _ := directoryLaw_reads (cureAtEntry_piece b new _)
  bedRecs _ _ := directoryLaw_reads rfl
  bedEntry _ _ _ := directoryLaw_reads rfl
  thermal _ _ _ := directoryLaw_reads rfl
  pieces := directoryLaw_pieces
  erase := directoryLaw_erase
  create p hnew hroom _ := directoryLaw_create p hnew hroom
  area _ _ _ := directoryLaw_reads rfl
  areaWrite _ _ _ _ := directoryLaw_reads rfl
  slot _ _ _ := directoryLaw_reads rfl
  admission o _ := directoryLaw_reads (claimFor_blocks o.task _).2.2
  place _ _ _ _ _ _ := directoryLaw_reads rfl
  release c o _ := directoryLaw_reads (t := endOrder c _) (dropClaim_blocks o.task _).2.2
  cranes _ _ := directoryLaw_reads rfl
  region _ _ _ := directoryLaw_reads rfl
  waiting _ _ := directoryLaw_reads rfl
  cold _ := ⟨List.Pairwise.nil, fun _ hp => absurd hp List.not_mem_nil, List.nodup_nil⟩
  warmYard := directoryLaw_reads rfl
  warmBeds := directoryLaw_reads rfl

/-- Settles O55. -/
theorem directoryLawKept : Obligations.DirectoryLawKept := by
  unfold Obligations.DirectoryLawKept
  exact fun s t ht h => directoryLaw_onBlocks.step h ht

end Sys2Proof.DirectoryProofs
end

section
/-! SUPPORT. A fold over a table whose steps each change one entry: what it leaves of each entry. -/
namespace Sys2Proof.TableProofs

open Sys2Proof Sys2Proof.Machine

theorem indexes_map_val (n : Nat) : (indexes n).map Fin.val = List.range n := by
  have hsome : ∀ i ∈ List.range n,
      (if h : i < n then some (⟨i, h⟩ : Fin n) else none).map Fin.val = some i := by
    intro i hi
    rw [dif_pos (List.mem_range.1 hi)]
    rfl
  rw [indexes, List.map_filterMap, List.filterMap_congr hsome, List.filterMap_some]

theorem indexes_eq_finRange (n : Nat) : indexes n = List.finRange n :=
  (Fin.val_injective.list_map) (by rw [indexes_map_val, List.map_coe_finRange_eq_range])

theorem indexes_nodup (n : Nat) : (indexes n).Nodup := by
  rw [indexes_eq_finRange]; exact List.nodup_finRange n

/-- A fold over a list of indexes, none twice, whose steps each change their own entry by a rule: every
entry of the list is changed once and every other entry is as it was. -/
theorem foldl_at {α : Type} {n : Nat} (Inv : State → Prop) (read : State → Fin n → α)
    (act : Fin n → State → State) (F : Fin n → α → α)
    (hinv : ∀ i t, Inv t → Inv (act i t))
    (hown : ∀ i t, Inv t → read (act i t) i = F i (read t i))
    (hother : ∀ i t j, j ≠ i → read (act i t) j = read t j)
    (l : List (Fin n)) (hl : l.Nodup) (s : State) (hs : Inv s) (i : Fin n) :
    read (l.foldl (fun t j => act j t) s) i = if i ∈ l then F i (read s i) else read s i := by
  induction l generalizing s with
  | nil => simp
  | cons j rest ih =>
    obtain ⟨hj, hrest⟩ := List.nodup_cons.1 hl
    rw [List.foldl_cons, ih hrest _ (hinv j s hs)]
    by_cases hij : i = j
    · subst hij
      simp [hj, hown i s hs]
    · simp [hij, hother j s i hij]

/-- A fold over a whole table, each step changing its own entry by a rule. -/
theorem forEach_at {α : Type} {n : Nat} (Inv : State → Prop) (read : State → Fin n → α)
    (act : Fin n → State → State) (F : Fin n → α → α)
    (hinv : ∀ i t, Inv t → Inv (act i t))
    (hown : ∀ i t, Inv t → read (act i t) i = F i (read t i))
    (hother : ∀ i t j, j ≠ i → read (act i t) j = read t j)
    (s : State) (hs : Inv s) (i : Fin n) : read (forEach act s) i = F i (read s i) := by
  rw [forEach, foldl_at Inv read act F hinv hown hother _ (indexes_nodup n) s hs, if_pos (mem_indexes i)]

/-- A function that is `v` at one index and 0 elsewhere sums to at most `v`. -/
theorem sum_single_le {n : Nat} (k : Fin n) (v : Nat) :
    ((indexes n).map fun b => if k = b then v else 0).sum ≤ v := by
  have hsum : ∀ l : List (Fin n), (l.map fun b => if k = b then v else 0).sum = l.count k * v := by
    intro l
    induction l with
    | nil => simp
    | cons b rest ih => simp only [List.map_cons, List.sum_cons, ih, List.count_cons, beq_iff_eq,
        eq_comm (a := b)]; split <;> ring
  calc _ = (indexes n).count k * v := hsum _
    _ ≤ 1 * v := Nat.mul_le_mul_right v (List.nodup_iff_count_le_one.1 (indexes_nodup n) k)
    _ = v := one_mul v

end Sys2Proof.TableProofs
end

section
/-!
Every step keeps the heat law (R76, R77). A recomputation brings the law about wherever the requests and the heater
states follow the bed states, whatever the grants were: the beds are served in turn from what is left.
-/
namespace Sys2Proof.HeatLawProofs

open Sys2Proof Sys2Proof.Machine Sys2Proof.StepProofs Sys2Proof.TableProofs

/-! ### The allocation -/

/-- The grants served from a budget sum to no more than it (R77). -/
theorem serve_sum_le (s : State) (left : Nat) (l : List (Fin 24)) :
    ((serve s left l).map (·.2)).sum ≤ left := by
  induction l generalizing left with
  | nil => exact Nat.zero_le _
  | cons b rest ih =>
    have hrest := ih (left - min (s.heatRec b).request left)
    simp only [serve, List.map_cons, List.sum_cons]
    omega

theorem serve_mem {s : State} {left : Nat} {l : List (Fin 24)} {x : Fin 24 × Nat}
    (h : x ∈ serve s left l) : x.1 ∈ l ∧ x.2 ≤ (s.heatRec x.1).request := by
  induction l generalizing left with
  | nil => cases h
  | cons b rest ih =>
    simp only [serve, List.mem_cons] at h
    rcases h with rfl | h
    · exact ⟨by simp, min_le_left ..⟩
    · exact ⟨List.mem_cons_of_mem _ (ih h).1, (ih h).2⟩

theorem mem_serveOrder (s : State) (b : Fin 24) : b ∈ s.serveOrder ↔ s.curingBed b = true := by
  have hclass : ∀ c : Fin 4, c ∈ ([3, 2, 1, 0] : List (Fin 4)) := by decide
  simp only [State.serveOrder, List.mem_flatMap, List.mem_filter, Bool.and_eq_true, decide_eq_true_eq]
  exact ⟨fun ⟨_, _, _, hc, _⟩ => hc, fun hc => ⟨s.heatClass b, hclass _, mem_indexes b, hc, rfl⟩⟩

/-- What a list of pairs gives an index first; 0 where it gives none. -/
def firstOf (l : List (Fin 24 × Nat)) (b : Fin 24) : Nat :=
  match l.find? fun x => x.1 = b with
  | some x => x.2
  | none => 0

theorem grantOf_eq (s : State) (b : Fin 24) :
    s.grantOf b = firstOf (serve s s.effectiveBudget s.serveOrder) b := rfl

theorem firstOf_sum_le (l : List (Fin 24 × Nat)) :
    ((indexes 24).map (firstOf l)).sum ≤ (l.map (·.2)).sum := by
  induction l with
  | nil =>
    have hnone : firstOf [] = fun _ => 0 := rfl
    simp [hnone]
  | cons x rest ih =>
    have hfirst : ∀ b, firstOf (x :: rest) b ≤ (if x.1 = b then x.2 else 0) + firstOf rest b := by
      intro b
      unfold firstOf
      rw [List.find?_cons]
      by_cases hb : x.1 = b <;> simp [hb]
    have hone := sum_single_le x.1 x.2
    calc ((indexes 24).map (firstOf (x :: rest))).sum
        ≤ ((indexes 24).map fun b => (if x.1 = b then x.2 else 0) + firstOf rest b).sum :=
          List.sum_le_sum fun b _ => hfirst b
      _ = ((indexes 24).map fun b => if x.1 = b then x.2 else 0).sum
            + ((indexes 24).map (firstOf rest)).sum := by rw [← List.sum_map_add]
      _ ≤ ((x :: rest).map (·.2)).sum := by simp only [List.map_cons, List.sum_cons]; omega

/-- The grants of the allocation sum to no more than the effective budget (R77). -/
theorem grantOf_sum_le (s : State) : ((indexes 24).map s.grantOf).sum ≤ s.effectiveBudget :=
  (firstOf_sum_le _).trans (serve_sum_le ..)

theorem grantOf_le_request (s : State) (b : Fin 24) : s.grantOf b ≤ (s.heatRec b).request := by
  rw [grantOf_eq, firstOf]
  split
  · next x hfind =>
    have hb : x.1 = b := by simpa using List.find?_some hfind
    exact hb ▸ (serve_mem (List.mem_of_find?_eq_some hfind)).2
  · exact Nat.zero_le _

theorem grantOf_idle {s : State} {b : Fin 24} (h : s.curingBed b = false) : s.grantOf b = 0 := by
  rw [grantOf_eq, firstOf]
  split
  · next x hfind =>
    have hb : x.1 = b := by simpa using List.find?_some hfind
    have hmem := (mem_serveOrder s x.1).1 (serve_mem (List.mem_of_find?_eq_some hfind)).1
    rw [hb, h] at hmem
    cases hmem
  · rfl

/-! ### The recomputation -/

theorem takeGrant_heatRec (s0 t : State) (b j : Fin 24) :
    (takeGrant s0 b t).heatRec j = if j = b then
      { t.heatRec b with grant := s0.grantOf b, short := decide (s0.grantOf b < (t.heatRec b).request) }
    else t.heatRec j := by
  have hraise : ∀ (c : Cause) (u : Subject) (v : Int) (x : State), (raise c u v x).heatRec = x.heatRec := by
    intro c u v x; funext k; simp [State.heatRec]
  unfold takeGrant
  dsimp only
  split
  · rw [hraise, modHeat_heatRec]
  · rw [modHeat_heatRec]

/-- The grants and short indications of a recomputation (R77, R79). -/
theorem regrant_heatRec (s : State) (b : Fin 24) :
    (regrant s).heatRec b =
      { s.heatRec b with grant := s.grantOf b, short := decide (s.grantOf b < (s.heatRec b).request) } :=
  forEach_at (fun _ => True) State.heatRec (takeGrant s)
    (fun i h => { h with grant := s.grantOf i, short := decide (s.grantOf i < h.request) })
    (fun _ _ _ => trivial) (fun i t _ => by rw [takeGrant_heatRec, if_pos rfl])
    (fun i t j hj => by rw [takeGrant_heatRec, if_neg hj]) s trivial b

/-- The ceilings are no part of what a recomputation changes. -/
theorem takeGrant_ceilings (s0 t : State) (b : Fin 24) :
    (takeGrant s0 b t).effectiveBudget = t.effectiveBudget := by
  have hheat : (takeGrant s0 b t).heat.budget = t.heat.budget
      ∧ (takeGrant s0 b t).heat.shedLimit = t.heat.shedLimit := by
    unfold takeGrant
    dsimp only
    split
    · simp [modHeat]
    · exact ⟨rfl, rfl⟩
  simp only [State.effectiveBudget, hheat]

theorem offerHeat_heat (b : Fin 24) (d : Nat) (s : State) :
    (offerHeat b d s).effectiveBudget = s.effectiveBudget
      ∧ ∀ j, ((offerHeat b d s).heatRec j).grant = (s.heatRec j).grant
        ∧ ((offerHeat b d s).heatRec j).request = (s.heatRec j).request
        ∧ ((offerHeat b d s).heatRec j).state = (s.heatRec j).state := by
  have hheat : ∀ (q : Port) (f : Frame) (t : State), (offerNormal q f t).heat = t.heat := by simp
  refine ⟨by simp only [offerHeat, State.effectiveBudget, hheat]; rfl, fun j => ?_⟩
  have hrec : ∀ (q : Port) (f : Frame) (t : State), (offerNormal q f t).heatRec j = t.heatRec j := by
    intro q f t; simp only [State.heatRec, hheat]
  simp only [offerHeat, hrec, modHeat_heatRec]
  split
  · next hj => subst hj; exact ⟨rfl, rfl, rfl⟩
  · exact ⟨rfl, rfl, rfl⟩

/-- What the law reads of a heat record, but for its duty, timers and wait. -/
def heatShape (h : HeatRec) : Nat × Nat × HeaterState := (h.grant, h.request, h.state)

/-- Two states in which the heat law reads the same. -/
structure HeatAlike (s t : State) : Prop where
  ceiling : t.effectiveBudget = s.effectiveBudget
  shape : ∀ b, heatShape (t.heatRec b) = heatShape (s.heatRec b)
  curing : ∀ b, t.curingBed b = s.curingBed b

theorem HeatAlike.trans {s t u : State} (h : HeatAlike s t) (g : HeatAlike t u) : HeatAlike s u where
  ceiling := g.ceiling.trans h.ceiling
  shape b := (g.shape b).trans (h.shape b)
  curing b := (g.curing b).trans (h.curing b)

theorem curingBed_of_recs {s t : State} (h : t.bed.recs = s.bed.recs) (b : Fin 24) :
    t.curingBed b = s.curingBed b := by
  have hrec : t.bedRec b = s.bedRec b := congrArg (tget · b) h
  simp only [State.curingBed, hrec]

theorem HeatAlike.of_eq {s t : State} (hbudget : t.heat.budget = s.heat.budget)
    (hshed : t.heat.shedLimit = s.heat.shedLimit) (hrecs : t.heat.recs = s.heat.recs)
    (hbed : t.bed.recs = s.bed.recs) : HeatAlike s t where
  ceiling := by simp only [State.effectiveBudget, hbudget, hshed]
  shape b := by simp only [State.heatRec, hrecs]
  curing b := curingBed_of_recs hbed b

theorem heatLaw_reads {s t : State} (ha : HeatAlike s t) (h : s.heatLaw) : t.heatLaw := by
  have hparts : ∀ b, (t.heatRec b).grant = (s.heatRec b).grant
      ∧ (t.heatRec b).request = (s.heatRec b).request ∧ (t.heatRec b).state = (s.heatRec b).state := by
    intro b
    have hshape := ha.shape b
    simp only [heatShape, Prod.mk.injEq] at hshape
    exact hshape
  have hgrant : ∀ b, (t.heatRec b).grant = (s.heatRec b).grant := fun b => (hparts b).1
  refine ⟨?_, fun b => ?_⟩
  · simp only [State.grantSum, hgrant, ha.ceiling]; exact h.1
  · obtain ⟨hg, hr, hs⟩ := hparts b
    rw [hg, hr, hs, ha.curing b]
    exact h.2 b

theorem offerHeat_alike (b : Fin 24) (d : Nat) (s : State) : HeatAlike s (offerHeat b d s) := by
  obtain ⟨hceiling, hrec⟩ := offerHeat_heat b d s
  refine ⟨hceiling, fun j => ?_, curingBed_of_recs (by simp)⟩
  obtain ⟨hg, hr, hs⟩ := hrec j
  simp only [heatShape, hg, hr, hs]

theorem modHeat_alike (b : Fin 24) (f : HeatRec → HeatRec)
    (hf : ∀ h, heatShape (f h) = heatShape h) (s : State) : HeatAlike s (modHeat b f s) where
  ceiling := rfl
  shape j := by
    rw [modHeat_heatRec]
    split
    · next hj => rw [hf, hj]
    · rfl
  curing _ := rfl

/-- The HEAT frames that a recomputation sends leave the grants, the requests and the heater states. -/
theorem recompute_alike (s : State) : HeatAlike (regrant s) (recompute s) := by
  unfold recompute
  dsimp only
  generalize heatFrames (regrant s) = l
  generalize regrant s = t
  induction l generalizing t with
  | nil => exact ⟨rfl, fun _ => rfl, fun _ => rfl⟩
  | cons x rest ih =>
    exact ((modHeat_alike x.1 (fun h => { h with duty := x.2 }) (fun _ => rfl) t).trans (offerHeat_alike x.1 x.2 _)).trans (ih _)

/-- Requests and heater states that follow the bed states, whatever the grants are. -/
def heatReady (s : State) : Prop :=
  ∀ b, (s.curingBed b = false → (s.heatRec b).request = 0)
    ∧ (s.curingBed b = true ↔ (s.heatRec b).state = .driven)

theorem heatReady_of_heatLaw {s : State} (h : s.heatLaw) : heatReady s := fun b => (h.2 b).2

/-- A recomputation brings the heat law about (R77). -/
theorem recompute_heatLaw {s : State} (h : heatReady s) : (recompute s).heatLaw := by
  refine heatLaw_reads (recompute_alike s) ⟨?_, fun b => ?_⟩
  · have hceiling : (regrant s).effectiveBudget = s.effectiveBudget :=
      forEach_keeps s State.effectiveBudget (takeGrant s) fun i t => takeGrant_ceilings s t i
    simp only [State.grantSum, regrant_heatRec, hceiling]
    exact grantOf_sum_le s
  · have hcuring : (regrant s).curingBed b = s.curingBed b := curingBed_of_recs (by simp) b
    rw [regrant_heatRec, hcuring]
    exact ⟨grantOf_le_request s b, h b⟩

/-! ### The law is kept -/

theorem heatLaw_heatRecs {s : State} (v : Vector HeatRec 24)
    (hv : ∀ b, HeatKept (s.curingBed b) (s.heatRec b) (tget v b)) (h : s.heatLaw) :
    State.heatLaw { s with heat := { s.heat with recs := v } } := by
  refine ⟨?_, fun b => ?_⟩
  · exact (List.sum_le_sum fun b _ => (hv b).grant).trans h.1
  · obtain ⟨hgrant, hidle, hdriven⟩ := h.2 b
    refine ⟨(hv b).request hgrant, fun hc => (hv b).idle (hidle hc), ?_⟩
    rcases (hv b).driven with hsame | hput
    · exact hdriven.trans hsame.symm
    · exact hput.symm

theorem heatLaw_handRequest {s : State} (b : Fin 24) (n : Nat) (hcuring : s.curingBed b = true)
    (h : s.heatLaw) : (handRequest b n s).heatLaw := by
  unfold handRequest
  split
  · exact h
  refine recompute_heatLaw fun j => ?_
  obtain ⟨hidle, hdriven⟩ := heatReady_of_heatLaw h j
  rw [modHeat_heatRec]
  split
  · next hj =>
    subst hj
    exact ⟨fun hc => absurd (hcuring.symm.trans hc) (by decide), hdriven⟩
  · exact ⟨hidle, hdriven⟩

theorem heatLaw_enterBed {s : State} (b : Fin 24) (new : BedState) (h : s.heatLaw) :
    (enterBed b new s).heatLaw := by
  have hready := heatReady_of_heatLaw h
  have hcuring : ∀ j, (modBedRec b (enterRec new) s).curingBed j
      = if j = b then decide (new = .curing) else s.curingBed j := by
    intro j
    simp only [State.curingBed, modBedRec_bedRec]
    split <;> rfl
  have hentry : (atEntry b new s).heatLaw := by
    unfold atEntry
    split
    · next hnew =>
      refine recompute_heatLaw fun j => ?_
      have hj := hcuring j
      simp only [State.curingBed, initThermal, refreshMargin, modHeat_reads, modThermal_reads,
        modHeat_heatRec, modBedRec_reads] at hj ⊢
      rw [hj]
      split
      · simp [hnew]
      · exact hready j
    split
    · next hnew hold =>
      refine heatLaw_reads (offerHeat_alike b 0 _) (recompute_heatLaw fun j => ?_)
      have hj := hcuring j
      simp only [State.curingBed, leaveThermal, refreshMargin, modHeat_reads, modThermal_reads,
        modHeat_heatRec, modBedRec_reads] at hj ⊢
      rw [hj]
      split
      · simp [hnew]
      · exact hready j
    · next hnew hold =>
      refine heatLaw_reads (s := s) ⟨rfl, fun _ => rfl, fun j => ?_⟩ h
      refine (curingBed_of_recs (s := modBedRec b (enterRec new) s) rfl j).trans ?_
      rw [hcuring j]
      split
      · next hj => subst hj; simp [State.curingBed, hnew, hold]
      · rfl
  rw [enterBed_eq]
  split
  · exact heatLaw_reads (.of_eq (by simp) (by simp) (by simp) (by simp)) hentry
  · exact heatLaw_reads (.of_eq rfl rfl rfl rfl) hentry

theorem HeatAlike.of_lineMove {s t : State} (h : LineMove s t) : HeatAlike s t := by
  cases h with
  | port q | lane q | forward q => apply HeatAlike.of_eq <;> simp
  | urgent | head | intake | queue | causes => exact .of_eq rfl rfl rfl rfl

theorem heatLaw_cold (s : State) : (coldBlocks s).heatLaw := by
  have hrec : ∀ b, (coldBlocks s).heatRec b = {} := fun b => tget_tableOf ..
  have hbed : ∀ b, (coldBlocks s).bedRec b = {} := fun b => tget_tableOf ..
  refine ⟨?_, fun b => ?_⟩
  · simp only [State.grantSum, hrec]
    simp
  · rw [State.curingBed, hrec, hbed]
    exact ⟨le_rfl, fun _ => rfl, by decide⟩

theorem heatLaw_kept : KeptAtStarts State.heatLaw where
  line h := heatLaw_reads (.of_lineMove h)
  plain h := heatLaw_reads (.of_eq h.budget h.shedLimit h.heatRecs h.bedRecs)
  heatRecs := heatLaw_heatRecs
  handRequest := heatLaw_handRequest
  budget {s} v h := recompute_heatLaw (s := writeBudget v s) (heatReady_of_heatLaw (s := s) h)
  shed {s} v h := recompute_heatLaw (s := writeShed v s) (heatReady_of_heatLaw (s := s) h)
  enterBed b new _ := heatLaw_enterBed b new
  bedRecs v hv := heatLaw_reads ⟨rfl, fun _ => rfl, fun b => by
    show decide ((tget v b).state = _) = decide _
    rw [(hv b).state]⟩
  bedEntry _ _ _ := heatLaw_reads (.of_eq rfl rfl rfl rfl)
  thermal _ _ _ := heatLaw_reads (.of_eq rfl rfl rfl rfl)
  pieces _ _ := heatLaw_reads (.of_eq rfl rfl rfl rfl)
  erase _ := heatLaw_reads (.of_eq rfl rfl rfl rfl)
  create _ _ _ _ := heatLaw_reads (.of_eq rfl rfl rfl rfl)
  area _ _ _ := heatLaw_reads (.of_eq rfl rfl rfl rfl)
  areaWrite _ _ _ _ := heatLaw_reads (.of_eq rfl rfl rfl rfl)
  slot _ _ _ := heatLaw_reads (.of_eq rfl rfl rfl rfl)
  admission _ _ := by
    unfold claimFor
    split <;> exact heatLaw_reads (.of_eq rfl rfl rfl rfl)
  place _ _ _ _ _ _ := heatLaw_reads (.of_eq rfl rfl rfl rfl)
  release _ _ _ := by
    unfold dropClaim
    split <;> exact heatLaw_reads (.of_eq rfl rfl rfl rfl)
  cranes _ _ := heatLaw_reads (.of_eq rfl rfl rfl rfl)
  region _ _ _ := heatLaw_reads (.of_eq rfl rfl rfl rfl)
  waiting _ _ := heatLaw_reads (.of_eq rfl rfl rfl rfl)
  cleared _ h := heatLaw_reads (.of_eq rfl rfl rfl rfl) h
  attn _ := heatLaw_reads (.of_eq rfl rfl rfl rfl)
  kind _ := heatLaw_reads (.of_eq rfl rfl rfl rfl)
  cold _ := heatLaw_cold _
  warmYard := heatLaw_reads (.of_eq rfl rfl rfl rfl)
  warmBeds {s} := heatLaw_reads ⟨rfl, fun _ => rfl, BlockLawProofs.warmBeds_curingBed s⟩

/-- Settles O53: every change of a request, a ceiling or a CURING bed ends in a recomputation. -/
theorem heatLawKept : Obligations.HeatLawKept := by
  unfold Obligations.HeatLawKept
  exact fun s t ht h => heatLaw_kept.step (fun _ hu => hu) h ht

end Sys2Proof.HeatLawProofs
end

section
/-!
Every step keeps the law of the runway and the law of the ground (R126, R135). What the admission tests leave is said
once, in `Admissible`; from there each law is a matter of the order that is taken up, the order that ends, and the
bed whose state changes.
-/
namespace Sys2Proof.RunwayLawProofs

open Sys2Proof Sys2Proof.Machine Sys2Proof.StepProofs Sys2Proof.BlockLawProofs

/-! ### What an admitting trial has found -/

/-- The order's tests of piece, source and destination have passed. -/
structure CarryPassed (s : State) (o : CraneOrder) (src : Source) (dst : Place) : Prop where
  piece : s.pieceTests o src = none
  bed : s.bedTest src = none
  source : s.sourceTest o src = none
  place : s.placeTest o dst = none

theorem carryTests_eq_none {s : State} {o : CraneOrder} {src : Source} {dst : Place}
    (h : s.carryTests o src dst = none) : CarryPassed s o src dst := by
  unfold State.carryTests at h
  split at h
  · cases h
  next hpiece =>
  split at h
  · cases h
  next hbed =>
  split at h
  · cases h
  next hsource =>
  split at h
  · cases h
  next hplace => exact ⟨hpiece, hbed, hsource, hplace⟩

/-- What an admitting trial has found of an order whose crane is at a position (R125). -/
structure Admissible (s : State) (o : CraneOrder) (pos : Nat) : Prop where
  position : (s.crane o.crane).position = some pos
  closed : s.overRegion .closed (s.orderSpan o.crane pos o.task) = false
  task : s.taskTests o = none
  control : (s.crane o.crane).control = .free
  others : s.overOtherCrane o.crane (s.orderSpan o.crane pos o.task) = false
  ground : s.overNoLoad (s.orderLoaded o.crane pos o.task) = false

theorem admissible_of_trialAt {s : State} {o : CraneOrder} {pos : Nat}
    (hpos : (s.crane o.crane).position = some pos) (h : s.trialAt o pos = .admitted)
    (htask : ∀ t, s.taskTests o = some t → t ≠ .admitted) : Admissible s o pos := by
  unfold State.trialAt at h
  dsimp only at h
  split at h
  · cases h
  next hclosed =>
  split at h
  · next t ht => exact absurd h (htask t ht)
  next hnone =>
  split at h
  · cases h
  next hcontrol =>
  split at h
  · cases h
  next hothers =>
  split at h
  · cases h
  next hground =>
  exact ⟨hpos, by simpa using hclosed, hnone, by simpa using hcontrol, by simpa using hothers,
    by simpa using hground⟩

theorem bedTest_ne_admitted {s : State} {src : Source} {t : Trial} (h : s.bedTest src = some t) :
    t ≠ .admitted := by
  unfold State.bedTest at h
  repeat' split at h
  all_goals cases h
  all_goals decide

/-- The tests of a task refuse or make wait; none of them admits. -/
theorem taskTests_ne_admitted {s : State} {o : CraneOrder} {t : Trial} (h : s.taskTests o = some t) :
    t ≠ .admitted := by
  unfold State.taskTests at h
  split at h
  · cases h
  unfold State.carryTests at h
  split at h
  · cases h; exact nofun
  split at h
  · next hbed => cases h; exact bedTest_ne_admitted hbed
  split at h
  · cases h; exact nofun
  split at h
  · cases h; exact nofun
  · cases h

theorem admissible_of_trial {s : State} {o : CraneOrder} (h : s.trial o = .admitted) :
    Admissible s o ((s.crane o.crane).position.getD 0) := by
  unfold State.trial at h
  dsimp only at h
  split at h
  · cases h
  split at h
  · cases h
  split at h
  · cases h
  · cases h
  · next pos hpos _ =>
    rw [hpos]
    exact admissible_of_trialAt hpos h fun t => taskTests_ne_admitted

theorem bedTest_eq_none {s : State} {b : Fin 24} (h : s.bedTest (.bed b) = none) :
    (s.bedRec b).state = .stripping := by
  unfold State.bedTest at h
  dsimp only at h
  split at h
  · assumption
  all_goals cases h

theorem Admissible.carry {s : State} {o : CraneOrder} {pos : Nat} (h : Admissible s o pos)
    {src : Source} {dst : Place} (htask : o.task = .carry src dst) : CarryPassed s o src dst := by
  have ht := h.task
  unfold State.taskTests at ht
  rw [htask] at ht
  exact carryTests_eq_none ht

/-! ### Intervals -/

theorem Interval.overlaps_comm (a b : Interval) : a.overlaps b = b.overlaps a := by
  simp only [Interval.overlaps, and_comm]

/-- An interval that lies within another overlaps no more than it. -/
theorem Interval.overlaps_of_within {a b c : Interval} (h : a.within b = true)
    (hover : a.overlaps c = true) : b.overlaps c = true := by
  simp only [Interval.within, Interval.overlaps, decide_eq_true_eq] at *
  omega

theorem Interval.within_iff {a b : Interval} : a.within b = true ↔ b.lo ≤ a.lo ∧ a.hi ≤ b.hi :=
  decide_eq_true_iff

theorem widen_within {a b : Interval} (h : a.within b = true) (n : Nat) :
    (widen a n).within (widen b n) = true := by
  rw [Interval.within_iff] at h ⊢
  exact ⟨Nat.sub_le_sub_right h.1 n, min_le_min le_rfl (Nat.add_le_add_right h.2 n)⟩

theorem hull_foldl_within {a b : Interval} (h : a.within b = true) (l : List Interval) :
    (l.foldl Interval.hull a).within (l.foldl Interval.hull b) = true := by
  induction l generalizing a b with
  | nil => exact h
  | cons c rest ih =>
    refine ih ?_
    rw [Interval.within_iff] at h ⊢
    exact ⟨min_le_min h.1 le_rfl, max_le_max h.2 le_rfl⟩

/-- The loaded span lies within the span of the order (R123). -/
theorem orderLoaded_within {s : State} {c : Fin 4} {pos : Nat} {t : Task} {i : Interval}
    (h : s.orderLoaded c pos t = some i) : i.within (s.orderSpan c pos t) = true := by
  unfold State.orderLoaded at h
  split at h
  · cases h
  split at h
  · cases h
  · next a rest hext =>
    cases h
    rw [State.orderSpan, hext, List.foldl_cons]
    exact widen_within (hull_foldl_within (Interval.within_iff.2 ⟨min_le_right .., le_max_right ..⟩) rest) _

/-! ### Reading the law -/

theorem apart_comm (a b : Option Interval) : apart a b = apart b a := by
  cases a <;> cases b <;> simp [apart, Interval.overlaps_comm]

/-- A task takes its piece from a bed. -/
def takesFrom (t : Task) (b : Fin 24) : Prop := ∃ dst, t = .carry (.bed b) dst

theorem liveFromBed_iff (s : State) (b : Fin 24) :
    s.liveFromBed b = true ↔ ∃ c, ∃ o ∈ (s.crane c).current, takesFrom o.task b := by
  have hone : ∀ c : Fin 4, (match (s.crane c).current with
      | some o => (match o.task with
                   | .carry (.bed x) _ => decide (x = b)
                   | _ => false)
      | none => false) = true ↔ ∃ o ∈ (s.crane c).current, takesFrom o.task b := by
    intro c
    cases (s.crane c).current with
    | none => simp
    | some o =>
      simp only [Option.mem_def, Option.some.injEq, exists_eq_left', takesFrom]
      split
      · next x dst htask => simp [htask]
      · next hno =>
        simp only [Bool.false_eq_true, false_iff, not_exists]
        exact fun dst htask => hno b dst htask
  unfold State.liveFromBed
  simp only [List.any_eq_true, FrameFateProofs.exists_mem_indexes]
  exact exists_congr hone

theorem overOtherCrane_eq_false {s : State} {c : Fin 4} {i : Interval}
    (h : s.overOtherCrane c i = false) (d : Fin 4) (hd : d ≠ c) :
    overlapsOpt (s.crane d).reservation i = false := by
  have hno := (List.any_eq_false.1 h) d (mem_indexes d)
  simp only [Bool.and_eq_true, decide_eq_true_eq, Bool.or_eq_true, not_and, not_or, Bool.not_eq_true] at hno
  exact (hno hd).1

theorem yardQuiet_reservation {s : State} (h : s.yardQuiet = true) (c : Fin 4) :
    (s.crane c).reservation = none := by
  simp only [State.yardQuiet, Bool.and_eq_true, List.all_eq_true] at h
  simpa using h.2 c (mem_indexes c)

theorem yardQuiet_current {s : State} (hlaw : s.runwayLaw) (h : s.yardQuiet = true) (c : Fin 4) :
    (s.crane c).current = none := by
  have hres := yardQuiet_reservation h c
  have hcons := (hlaw.1 c).1
  simpa [hres] using hcons

theorem runwayLaw_reads {s t : State} (hcranes : t.runway.cranes = s.runway.cranes)
    (hstate : ∀ b, (t.bedRec b).state = (s.bedRec b).state) (h : s.runwayLaw) : t.runwayLaw := by
  have hcrane : t.crane = s.crane := by funext c; simp [State.crane, hcranes]
  simp only [State.runwayLaw, State.liveFromBed, hcrane, hstate]
  exact h

/-- The law with one crane changed: it stays consistent, apart from the others, and its order takes from a
STRIPPING bed. -/
theorem runwayLaw_of_crane {s t : State} (c : Fin 4) (hother : ∀ d, d ≠ c → t.crane d = s.crane d)
    (hbed : t.bed.recs = s.bed.recs) (hcons : (t.crane c).consistent)
    (hapart : ∀ d, d ≠ c → apart (t.crane c).reservation (s.crane d).reservation = true)
    (hfrom : ∀ o ∈ (t.crane c).current, ∀ b, takesFrom o.task b → (s.bedRec b).state = .stripping)
    (h : s.runwayLaw) : t.runwayLaw := by
  have hrec : t.bedRec = s.bedRec := by funext b; exact congrArg (tget · b) hbed
  refine ⟨fun d => ?_, fun d e hde => ?_, fun b hlive => ?_⟩
  · by_cases hd : d = c
    · exact hd ▸ hcons
    · rw [hother d hd]; exact h.1 d
  · by_cases hd : d = c
    · have he : e ≠ c := fun he => hde (hd.trans he.symm)
      rw [hd, hother e he]
      exact hapart e he
    · by_cases he : e = c
      · rw [he, hother d hd, apart_comm]
        exact hapart d hd
      · rw [hother d hd, hother e he]
        exact h.2.1 d e hde
  · obtain ⟨d, o, ho, htakes⟩ := (liveFromBed_iff t b).1 hlive
    rw [hrec]
    by_cases hd : d = c
    · exact hfrom o (hd ▸ ho) b htakes
    · rw [hother d hd] at ho
      exact h.2.2 b ((liveFromBed_iff s b).2 ⟨d, o, ho, htakes⟩)

/-! ### The law is kept -/

theorem holdOrder_crane (o : CraneOrder) (pos : Nat) (s : State) (d : Fin 4) :
    (holdOrder o pos s).crane d = if d = o.crane then
      { s.crane o.crane with reservation := some (s.orderSpan o.crane pos o.task)
                             control := .ordered, current := some (admittedRecord s o pos) }
    else s.crane d :=
  tget_tset ..

theorem endOrder_crane (c : Fin 4) (s : State) (d : Fin 4) :
    (endOrder c s).crane d = if d = c then
      { s.crane c with reservation := none, current := none
                       control := if (s.crane c).control = .halted then .halted else .free }
    else s.crane d :=
  tget_tset ..

theorem claimFor_cranes (t : Task) (s : State) : (claimFor t s).runway.cranes = s.runway.cranes
    ∧ (claimFor t s).runway.waiting = s.runway.waiting
    ∧ (claimFor t s).runway.regions = s.runway.regions := by
  unfold claimFor
  split <;> exact ⟨rfl, rfl, rfl⟩

theorem dropClaim_runway (t : Task) (s : State) : (dropClaim t s).runway = s.runway := by
  unfold dropClaim
  split <;> rfl

/-- An admitted order holds its crane, apart from the others (R126). -/
theorem runwayLaw_hold {s : State} {o : CraneOrder} {pos : Nat} (hadm : Admissible s o pos)
    (h : s.runwayLaw) : (holdOrder o pos s).runwayLaw := by
  have hcrane := holdOrder_crane o pos s
  refine runwayLaw_of_crane (s := s) o.crane (fun d hd => by rw [hcrane, if_neg hd]) rfl ?_ (fun d hd => ?_) ?_ h
  · rw [hcrane, if_pos rfl]
    exact ⟨by simp, nofun⟩
  · have hclear := overOtherCrane_eq_false hadm.others d hd
    rw [hcrane, if_pos rfl]
    cases hres : (s.crane d).reservation with
    | none => rfl
    | some i =>
      rw [hres, overlapsOpt, Interval.overlaps_comm] at hclear
      simp only [apart, hclear, Bool.not_false]
  · rw [hcrane, if_pos rfl]
    rintro x hx b ⟨dst, htask⟩
    cases hx
    exact bedTest_eq_none (hadm.carry htask).bed

/-- The end of an order frees its crane (R129, R132, R133). -/
theorem runwayLaw_endOrder {s : State} (c : Fin 4) (h : s.runwayLaw) : (endOrder c s).runwayLaw := by
  have hcrane := endOrder_crane c s
  refine runwayLaw_of_crane (s := s) c (fun d hd => by rw [hcrane, if_neg hd]) (by simp) ?_ (fun d _ => ?_) ?_ h
  · rw [hcrane, if_pos rfl]; exact ⟨by simp, fun _ => rfl⟩
  · rw [hcrane, if_pos rfl]; rfl
  · rw [hcrane, if_pos rfl]
    exact fun o ho => absurd ho (Option.not_mem_none o)

theorem runwayLaw_cranes {s : State} (v : Vector Crane 4) (hv : ∀ c, CraneKept s (s.crane c) (tget v c))
    (h : s.runwayLaw) : State.runwayLaw { s with runway := { s.runway with cranes := v } } := by
  refine ⟨fun c => ?_, fun c d hcd => ?_, fun b hlive => ?_⟩
  · obtain ⟨g, hcur, -⟩ := (hv c).current
    obtain ⟨hcons, hfree⟩ := h.1 c
    show (tget v c).consistent
    refine ⟨by rw [hcur, Option.isSome_map, (hv c).reservation]; exact hcons, fun hctl => ?_⟩
    rw [hcur, Option.map_eq_none_iff]
    rcases (hv c).control hctl with hold | hnone | hquiet
    · exact hfree hold
    · exact hnone
    · exact yardQuiet_current h hquiet c
  · show apart (tget v c).reservation (tget v d).reservation = true
    rw [(hv c).reservation, (hv d).reservation]
    exact h.2.1 c d hcd
  · obtain ⟨c, o, ho, htakes⟩ := (liveFromBed_iff _ b).1 hlive
    obtain ⟨g, hcur, hg⟩ := (hv c).current
    have ho' : (s.crane c).current.map g = some o := hcur ▸ ho
    obtain ⟨x, hx, rfl⟩ := Option.map_eq_some_iff.1 ho'
    exact h.2.2 b ((liveFromBed_iff s b).2 ⟨c, x, hx, (hg x).task ▸ htakes⟩)

theorem runwayLaw_enterBed {s : State} (b : Fin 24) (new : BedState) (hmay : MayEnter s b new)
    (h : s.runwayLaw) : (cureAtEntry b new s).runwayLaw := by
  have hcrane : (cureAtEntry b new s).crane = s.crane := by
    unfold cureAtEntry
    repeat' split
    all_goals rfl
  have hlive : ∀ j, (cureAtEntry b new s).liveFromBed j = s.liveFromBed j := by
    intro j; simp only [State.liveFromBed, hcrane]
  refine ⟨by rw [hcrane]; exact h.1, by rw [hcrane]; exact h.2.1, fun j hj => ?_⟩
  rw [hlive] at hj
  have hstrip := h.2.2 j hj
  rw [cureAtEntry_bedRec]
  split
  · next heq =>
    subst heq
    rw [hmay.live hstrip] at hj
    cases hj
  · exact hstrip

theorem warmBedRec_stripping {r : BedRec} (h : r.state = .stripping) : (warmBedRec r).state = .stripping := by
  simp [warmBedRec, h]

theorem noCranes_runwayLaw {s : State} (h : ∀ c, s.crane c = {}) : s.runwayLaw := by
  refine ⟨fun c => ?_, fun c d _ => ?_, fun b hlive => ?_⟩
  · rw [h]; exact ⟨by simp, fun _ => rfl⟩
  · rw [h, h]; rfl
  · obtain ⟨c, o, ho, -⟩ := (liveFromBed_iff s b).1 hlive
    rw [h] at ho
    cases ho

theorem warmRunway_crane (s : State) (c : Fin 4) : (warmStock (warmRunway s)).crane c = {} :=
  tget_tmap ..

theorem coldBlocks_crane (s : State) (c : Fin 4) : (coldBlocks s).crane c = {} := tget_tableOf ..

theorem runwayLaw_onBlocks : OnBlocks State.runwayLaw where
  reads h := runwayLaw_reads h.cranes fun b => by rw [State.bedRec, State.bedRec, h.bedRecs]
  enterBed := runwayLaw_enterBed
  bedRecs v hv := runwayLaw_reads rfl fun b => (hv b).state
  bedEntry _ _ _ := runwayLaw_reads rfl fun _ => rfl
  thermal _ _ _ := runwayLaw_reads rfl fun _ => rfl
  pieces _ _ := runwayLaw_reads rfl fun _ => rfl
  erase _ := runwayLaw_reads rfl fun _ => rfl
  create _ _ _ _ := runwayLaw_reads rfl fun _ => rfl
  area _ _ _ := runwayLaw_reads rfl fun _ => rfl
  areaWrite _ _ _ _ := runwayLaw_reads rfl fun _ => rfl
  slot _ _ _ := runwayLaw_reads rfl fun _ => rfl
  admission {s} o htrial h := by
    refine runwayLaw_reads (claimFor_cranes o.task _).1 (fun b => ?_)
      (runwayLaw_hold (admissible_of_trial htrial) h)
    rw [bedRec_congr (claimFor_blocks o.task _).1]
  place c _ _ _ _ _ h := runwayLaw_endOrder c (runwayLaw_reads rfl (fun _ => rfl) h)
  release c o _ h := runwayLaw_endOrder c (runwayLaw_reads (by rw [dropClaim_runway])
    (fun b => by rw [bedRec_congr (dropClaim_blocks o.task _).1]) h)
  cranes := runwayLaw_cranes
  region _ _ _ := runwayLaw_reads rfl fun _ => rfl
  waiting _ _ := runwayLaw_reads rfl fun _ => rfl
  cold {s} _ := noCranes_runwayLaw (coldBlocks_crane s)
  warmYard {s} _ := noCranes_runwayLaw (warmRunway_crane s)
  warmBeds {s} h := ⟨h.1, h.2.1, fun b hlive => by
    rw [warmBeds_bedRec]; exact warmBedRec_stripping (h.2.2 b hlive)⟩

/-- Settles O56. -/
theorem runwayLawKept : Obligations.RunwayLawKept := by
  unfold Obligations.RunwayLawKept
  exact fun s t ht h => runwayLaw_onBlocks.step h ht

end Sys2Proof.RunwayLawProofs
end

section
/-!
Every step from a state with the runway law keeps loads off closed ground and stressed strands (R135). The runway law
is needed where a region is written: a quiet yard has no reservation, and then no order.
-/
namespace Sys2Proof.GroundLawProofs

open Sys2Proof Sys2Proof.Machine Sys2Proof.StepProofs Sys2Proof.BlockLawProofs Sys2Proof.RunwayLawProofs

/-- No order's loaded span crosses a region. -/
def offRegions (s : State) (i : Interval) : Prop :=
  s.overRegion .closed i = false ∧ s.overRegion .noLoad i = false

/-- An order whose loaded span crosses a bed of the no-load set carries LOAD_OVER. -/
def marksBeds (s : State) (o : CraneOrder) (i : Interval) : Prop :=
  ∀ b, s.noLoadBed b = true → i.overlaps (s.bedSpan b) = true → o.loadOver = true

theorem groundLaw_iff (s : State) : s.groundLaw ↔ ∀ c, ∀ o ∈ (s.crane c).current, ∀ i ∈ o.loadedSpan,
    offRegions s i ∧ marksBeds s o i := by
  simp only [State.groundLaw, offRegions, marksBeds, and_assoc]

theorem offRegions_reads {s t : State} (h : t.runway.regions = s.runway.regions) (i : Interval) :
    offRegions t i ↔ offRegions s i := by
  have hregion : t.region = s.region := by funext r; exact congrArg (tget · r) h
  simp only [offRegions, State.overRegion, hregion]

theorem marksBeds_reads {s t : State} (htable : t.bed.table = s.bed.table)
    (hload : ∀ b, noLoadState (t.bedRec b).state = noLoadState (s.bedRec b).state) (o : CraneOrder)
    (i : Interval) : marksBeds t o i ↔ marksBeds s o i := by
  have hentry : t.bedEntry = s.bedEntry := by funext b; exact congrArg (tget · b) htable
  simp only [marksBeds, State.noLoadBed, State.bedSpan, hentry, hload]

theorem groundLaw_reads {s t : State} (h : s.groundLaw) (hcranes : t.runway.cranes = s.runway.cranes)
    (hregions : t.runway.regions = s.runway.regions) (htable : t.bed.table = s.bed.table)
    (hload : ∀ b, noLoadState (t.bedRec b).state = noLoadState (s.bedRec b).state) : t.groundLaw := by
  have hcrane : t.crane = s.crane := by funext c; exact congrArg (tget · c) hcranes
  rw [groundLaw_iff] at h ⊢
  simp only [hcrane, offRegions_reads hregions, marksBeds_reads htable hload]
  exact h

/-- Fewer orders, or orders with the same loaded span and no LOAD_OVER lost, on the same ground. -/
theorem groundLaw_of_cranes {s t : State} (hregions : t.runway.regions = s.runway.regions)
    (hbed : t.bed = s.bed)
    (hcranes : ∀ c, ∀ o ∈ (t.crane c).current, ∃ d, ∃ x ∈ (s.crane d).current,
      o.loadedSpan = x.loadedSpan ∧ (x.loadOver = true → o.loadOver = true))
    (h : s.groundLaw) : t.groundLaw := by
  rw [groundLaw_iff] at h ⊢
  intro c o ho i hi
  obtain ⟨d, x, hx, hspan, hover⟩ := hcranes c o ho
  obtain ⟨hoff, hmarks⟩ := h d x hx i (hspan ▸ hi)
  have hbeds : marksBeds s o i := fun b hb hcross => hover (hmarks b hb hcross)
  exact ⟨(offRegions_reads hregions i).2 hoff,
    (marksBeds_reads (by rw [hbed]) (fun b => by rw [bedRec_congr hbed]) o i).2 hbeds⟩

theorem groundLaw_of_noOrder {s : State} (h : ∀ c, (s.crane c).current = none) : s.groundLaw := by
  intro c o ho
  rw [h] at ho
  exact absurd ho (Option.not_mem_none o)

theorem overNoLoad_eq_false {s : State} {i : Interval} (h : s.overNoLoad (some i) = false) :
    s.overRegion .noLoad i = false
      ∧ ∀ b, s.noLoadBed b = true → i.overlaps (s.bedSpan b) = false := by
  simp only [State.overNoLoad, Bool.or_eq_false_iff] at h
  refine ⟨h.1, fun b hb => ?_⟩
  have hno := List.any_eq_false.1 h.2 b (mem_indexes b)
  simpa [hb] using hno

theorem overRegion_of_within {s : State} {k : RegionKind} {i j : Interval} (hwithin : i.within j = true)
    (h : s.overRegion k j = false) : s.overRegion k i = false := by
  rw [State.overRegion, List.any_eq_false] at h ⊢
  intro r hr hover
  simp only [Bool.and_eq_true] at hover
  refine h r hr ?_
  simp only [Bool.and_eq_true]
  exact ⟨hover.1, Interval.overlaps_of_within hwithin hover.2⟩

/-- An admitted order's load keeps off the ground that the tests look at (R125, steps 4 and 13). -/
theorem groundLaw_hold {s : State} {o : CraneOrder} {pos : Nat} (hadm : Admissible s o pos)
    (h : s.groundLaw) : (holdOrder o pos s).groundLaw := by
  have hcrane := holdOrder_crane o pos s
  rw [groundLaw_iff] at h ⊢
  intro c x hx i hi
  rw [offRegions_reads (s := s) (t := holdOrder o pos s) rfl,
    marksBeds_reads (s := s) (t := holdOrder o pos s) rfl fun _ => rfl]
  rw [hcrane] at hx
  split at hx
  · cases hx
    have hspan : s.orderLoaded o.crane pos o.task = some i := hi
    have hground := hadm.ground
    rw [hspan] at hground
    obtain ⟨hregion, hbeds⟩ := overNoLoad_eq_false hground
    refine ⟨⟨overRegion_of_within (orderLoaded_within hspan) hadm.closed, hregion⟩, ?_⟩
    intro b hb hcross
    rw [hbeds b hb] at hcross
    cases hcross
  · exact h c x hx i hi

theorem groundLaw_endOrder {s : State} (c : Fin 4) (h : s.groundLaw) : (endOrder c s).groundLaw := by
  refine groundLaw_of_cranes (s := s) (by rfl) (by simp) (fun d o ho => ?_) h
  rw [endOrder_crane] at ho
  split at ho
  · exact absurd ho (Option.not_mem_none o)
  · exact ⟨d, o, ho, rfl, id⟩

theorem groundLaw_cranes {s : State} (v : Vector Crane 4) (hv : ∀ c, CraneKept s (s.crane c) (tget v c))
    (h : s.groundLaw) : State.groundLaw { s with runway := { s.runway with cranes := v } } := by
  refine groundLaw_of_cranes (s := s) (by rfl) (by rfl) (fun c o ho => ?_) h
  obtain ⟨g, hcur, hg⟩ := (hv c).current
  have hmap : (s.crane c).current.map g = some o := hcur ▸ ho
  obtain ⟨x, hx, rfl⟩ := Option.map_eq_some_iff.1 hmap
  exact ⟨c, x, hx, (hg x).loadedSpan, (hg x).loadOver⟩

/-- A bed enters the no-load set only under orders that carry LOAD_OVER (R135). -/
theorem groundLaw_enterBed {s : State} (b : Fin 24) (new : BedState) (hmay : MayEnter s b new)
    (h : s.groundLaw) : (cureAtEntry b new s).groundLaw := by
  have hsame : (cureAtEntry b new s).runway = s.runway
      ∧ (cureAtEntry b new s).bed.table = s.bed.table := by
    unfold cureAtEntry
    repeat' split
    all_goals exact ⟨rfl, rfl⟩
  have hcrane : (cureAtEntry b new s).crane = s.crane := by
    funext c; exact congrArg (fun r : RunwayUnit => tget r.cranes c) hsame.1
  have hentry : (cureAtEntry b new s).bedEntry = s.bedEntry := by
    funext j; exact congrArg (tget · j) hsame.2
  rw [groundLaw_iff] at h ⊢
  intro c o ho i hi
  rw [hcrane] at ho
  obtain ⟨hoff, hmarks⟩ := h c o ho i hi
  refine ⟨(offRegions_reads (by rw [hsame.1]) i).2 hoff, fun j hj hcross => ?_⟩
  simp only [State.noLoadBed, State.bedSpan, hentry, cureAtEntry_bedRec, Bool.and_eq_true] at hj hcross
  obtain ⟨henabled, hload⟩ := hj
  split at hload
  · next heq =>
    subst heq
    rcases hmay.noLoad hload with hold | hmarked
    · exact hmarks j (by simp [State.noLoadBed, henabled, hold]) hcross
    · exact hmarked c o ho i hi hcross
  · exact hmarks j (by simp [State.noLoadBed, henabled, hload]) hcross

theorem bedWriteCheck_vacant {s : State} {b : Fin 24} {e : BedEntry} (h : s.bedWriteCheck b e = none) :
    (s.bedRec b).state = .vacant := by
  unfold State.bedWriteCheck at h
  dsimp only at h
  split at h
  · cases h
  split at h
  · cases h
  · next hvacant =>
    simp only [not_or, Decidable.not_not] at hvacant
    exact hvacant.1

/-- A bed table entry is written only while its bed is VACANT, outside the no-load set (R1, R4). -/
theorem groundLaw_bedEntry {s : State} (b : Fin 24) (e : BedEntry) (hcheck : s.bedWriteCheck b e = none)
    (h : s.groundLaw) : (setBedEntry b e s).groundLaw := by
  rw [groundLaw_iff] at h ⊢
  intro c o ho i hi
  obtain ⟨hoff, hmarks⟩ := h c o ho i hi
  refine ⟨hoff, fun j hj hcross => ?_⟩
  by_cases hjb : j = b
  · subst hjb
    simp [State.noLoadBed, bedWriteCheck_vacant hcheck, noLoadState] at hj
  · refine hmarks j ?_ ?_
    · simpa [State.noLoadBed, hjb] using hj
    · simpa [State.bedSpan, hjb] using hcross

theorem noLoadState_warm (r : BedRec) : noLoadState (warmBedRec r).state = noLoadState r.state := by
  unfold warmBedRec
  dsimp only
  split
  · next h => rw [h]; rfl
  · rfl

/-- The runway law with the ground law. -/
def runwayGround (s : State) : Prop := s.runwayLaw ∧ s.groundLaw

theorem runwayGround_onBlocks : OnBlocks runwayGround where
  reads ha h := ⟨runwayLaw_onBlocks.reads ha h.1, groundLaw_reads h.2 ha.cranes ha.regions ha.bedTable
    fun b => by rw [State.bedRec, State.bedRec, ha.bedRecs]⟩
  enterBed b new hmay h := ⟨runwayLaw_onBlocks.enterBed b new hmay h.1, groundLaw_enterBed b new hmay h.2⟩
  bedRecs v hv h := ⟨runwayLaw_onBlocks.bedRecs v hv h.1,
    groundLaw_reads h.2 rfl rfl rfl fun b => congrArg noLoadState (hv b).state⟩
  bedEntry b e hcheck h := ⟨runwayLaw_onBlocks.bedEntry b e hcheck h.1, groundLaw_bedEntry b e hcheck h.2⟩
  thermal b f hf h := ⟨runwayLaw_onBlocks.thermal b f hf h.1,
    groundLaw_reads h.2 rfl rfl rfl fun _ => rfl⟩
  pieces g hg h := ⟨runwayLaw_onBlocks.pieces g hg h.1, groundLaw_reads h.2 rfl rfl rfl fun _ => rfl⟩
  erase m h := ⟨runwayLaw_onBlocks.erase m h.1, groundLaw_reads h.2 rfl rfl rfl fun _ => rfl⟩
  create p hnew hroom hp h :=
    ⟨runwayLaw_onBlocks.create p hnew hroom hp h.1, groundLaw_reads h.2 rfl rfl rfl fun _ => rfl⟩
  area a f hf h := ⟨runwayLaw_onBlocks.area a f hf h.1, groundLaw_reads h.2 rfl rfl rfl fun _ => rfl⟩
  areaWrite a x hrange hcheck h :=
    ⟨runwayLaw_onBlocks.areaWrite a x hrange hcheck h.1, groundLaw_reads h.2 rfl rfl rfl fun _ => rfl⟩
  slot n f hf h := ⟨runwayLaw_onBlocks.slot n f hf h.1, groundLaw_reads h.2 rfl rfl rfl fun _ => rfl⟩
  admission o htrial h := by
    refine ⟨runwayLaw_onBlocks.admission o htrial h.1, ?_⟩
    obtain ⟨hcranes, -, hregions⟩ := claimFor_cranes o.task (holdOrder o _ _)
    obtain ⟨hbed, -, -⟩ := claimFor_blocks o.task (holdOrder o _ _)
    exact groundLaw_reads (groundLaw_hold (admissible_of_trial htrial) h.2) hcranes hregions
      (by rw [hbed]) fun b => by rw [bedRec_congr hbed]
  place c o n m hcur hdest h := ⟨runwayLaw_onBlocks.place c o n m hcur hdest h.1,
    groundLaw_endOrder c (groundLaw_reads h.2 rfl rfl rfl fun _ => rfl)⟩
  release {s} c o hcur h := by
    refine ⟨runwayLaw_onBlocks.release c o hcur h.1, groundLaw_endOrder c ?_⟩
    have hbed := (dropClaim_blocks o.task s).1
    exact groundLaw_reads h.2 (by rw [dropClaim_runway]) (by rw [dropClaim_runway]) (by rw [hbed])
      fun b => by rw [bedRec_congr hbed]
  cranes v hv h := ⟨runwayLaw_onBlocks.cranes v hv h.1, groundLaw_cranes v hv h.2⟩
  region r e hquiet h := ⟨runwayLaw_onBlocks.region r e hquiet h.1,
    groundLaw_of_noOrder (yardQuiet_current h.1 hquiet)⟩
  waiting l hl h := ⟨runwayLaw_onBlocks.waiting l hl h.1, groundLaw_reads h.2 rfl rfl rfl fun _ => rfl⟩
  cold h := ⟨runwayLaw_onBlocks.cold h.1, groundLaw_of_noOrder fun c => by rw [coldBlocks_crane]⟩
  warmYard h := ⟨runwayLaw_onBlocks.warmYard h.1, groundLaw_of_noOrder fun c => by rw [warmRunway_crane]⟩
  warmBeds h := ⟨runwayLaw_onBlocks.warmBeds h.1, groundLaw_reads h.2 rfl rfl rfl
    fun b => by rw [warmBeds_bedRec, noLoadState_warm]⟩

/-- Settles O57. -/
theorem groundLawKept : Obligations.GroundLawKept := by
  unfold Obligations.GroundLawKept
  exact fun s t ht hrunway h => (runwayGround_onBlocks.step ⟨hrunway, h⟩ ht).2

end Sys2Proof.GroundLawProofs
end

section
/-!
Every step from a state with the runway law keeps the law of the yard (R102 to R105): the areas apart, the stacks
with their claims within the height limit, and one claim for each live order to the slot. The runway law gives that
the crane of an admitted order had none.
-/
namespace Sys2Proof.YardLawProofs

open Sys2Proof Sys2Proof.Machine Sys2Proof.StepProofs Sys2Proof.BlockLawProofs Sys2Proof.RunwayLawProofs

/-- No two areas share a slot (R103). -/
def areasApart (s : State) : Prop := ∀ a b : Fin 16, a ≠ b →
  runsMeet (s.area a).firstSlot (s.area a).count (s.area b).firstSlot (s.area b).count = false

theorem yardLaw_iff (s : State) : s.yardLaw ↔ areasApart s ∧ (∀ n, s.slotFits n = true)
    ∧ ∀ n, (s.slot n).claims = s.ordersTo n := Iff.rfl

/-! ### Areas and slots -/

/-- A slot lies in an area (R102). -/
def inArea (s : State) (a : Fin 16) (n : Nat) : Prop :=
  (s.area a).firstSlot ≤ n ∧ n < (s.area a).firstSlot + (s.area a).count

theorem areaOf_some {s : State} {n : Nat} {a : Fin 16} (h : s.areaOf n = some a) : inArea s a n := by
  simpa [inArea] using List.find?_some h

theorem areaOf_none {s : State} {n : Nat} (h : s.areaOf n = none) (a : Fin 16) : ¬ inArea s a n := by
  have hno := List.find?_eq_none.1 h a (mem_indexes a)
  simpa [inArea] using hno

theorem runsMeet_of_shared {f1 n1 f2 n2 n : Nat} (h1 : f1 ≤ n ∧ n < f1 + n1) (h2 : f2 ≤ n ∧ n < f2 + n2) :
    runsMeet f1 n1 f2 n2 = true := by
  simp only [runsMeet, decide_eq_true_eq]
  omega

theorem runsMeet_comm (f1 n1 f2 n2 : Nat) : runsMeet f1 n1 f2 n2 = runsMeet f2 n2 f1 n1 := by
  simp only [runsMeet, decide_eq_decide]
  tauto

/-- Where no two areas share a slot, a slot has one area. -/
theorem inArea_unique {s : State} (h : areasApart s) {a b : Fin 16} {n : Nat} (ha : inArea s a n)
    (hb : inArea s b n) : a = b := by
  by_contra hne
  have hmeet := runsMeet_of_shared ha hb
  rw [h a b hne] at hmeet
  cases hmeet

theorem areaOf_eq_some {s : State} (h : areasApart s) {a : Fin 16} {n : Nat} (ha : inArea s a n) :
    s.areaOf n = some a := by
  cases hfind : s.areaOf n with
  | none => exact absurd ha (areaOf_none hfind a)
  | some b => rw [inArea_unique h ha (areaOf_some hfind)]

/-- A load fits: within the limit of the slot's area, and 0 without one. -/
def fitsIn (s : State) (n : Nat) (load : Nat) : Prop :=
  (∀ a, inArea s a n → load ≤ (s.area a).heightLimit) ∧ ((∀ a, ¬ inArea s a n) → load = 0)

theorem slotFits_iff {s : State} (h : areasApart s) (n : Fin 1024) :
    s.slotFits n = true ↔ fitsIn s n.val (s.slot n).load := by
  unfold State.slotFits fitsIn
  split
  · next a hfind =>
    have ha := areaOf_some hfind
    simp only [decide_eq_true_eq]
    constructor
    · intro hle
      exact ⟨fun b hb => inArea_unique h ha hb ▸ hle, fun hno => absurd ha (hno a)⟩
    · exact fun hfits => hfits.1 a ha
  · next hfind =>
    have hno := areaOf_none hfind
    simp only [decide_eq_true_eq]
    exact ⟨fun hzero => ⟨fun a ha => absurd ha (hno a), fun _ => hzero⟩, fun hfits => hfits.2 hno⟩

/-! ### Orders to a slot -/

/-- The crane has an order that will place on the slot. -/
def crossesTo (k : Crane) (n : Fin 1024) : Bool :=
  match k.current with
  | some o => o.task.destSlot = some n
  | none => false

theorem ordersTo_eq (s : State) (n : Fin 1024) :
    s.ordersTo n = (indexes 4).countP fun c => crossesTo (s.crane c) n := rfl

/-- The orders of the cranes other than `c` that will place on the slot. -/
def ordersBeside (s : State) (c : Fin 4) (n : Fin 1024) : Nat :=
  (indexes 4).countP fun d => d ≠ c && crossesTo (s.crane d) n

theorem ordersTo_split (s : State) (c : Fin 4) (n : Fin 1024) :
    s.ordersTo n = ordersBeside s c n + if crossesTo (s.crane c) n then 1 else 0 := by
  have hall : indexes 4 = [0, 1, 2, 3] := by decide
  rw [ordersTo_eq, ordersBeside, hall]
  fin_cases c <;> simp [List.countP_cons] <;> omega

theorem ordersBeside_congr {s t : State} {c : Fin 4} (h : ∀ d, d ≠ c → t.crane d = s.crane d)
    (n : Fin 1024) : ordersBeside t c n = ordersBeside s c n := by
  refine List.countP_congr fun d _ => ?_
  by_cases hd : d = c
  · simp [hd]
  · rw [h d hd]

/-! ### The law is kept -/

theorem inArea_reads {s t : State} (h : t.stock.areas = s.stock.areas) : inArea t = inArea s := by
  have harea : t.area = s.area := by funext a; exact congrArg (tget · a) h
  funext a n
  simp only [inArea, harea]

theorem areasApart_reads {s t : State} (h : t.stock.areas = s.stock.areas) : areasApart t ↔ areasApart s := by
  have harea : t.area = s.area := by funext a; exact congrArg (tget · a) h
  simp only [areasApart, harea]

theorem fitsIn_reads {s t : State} (h : t.stock.areas = s.stock.areas) (n load : Nat) :
    fitsIn t n load ↔ fitsIn s n load := by
  have harea : t.area = s.area := by funext a; exact congrArg (tget · a) h
  simp only [fitsIn, inArea_reads h, harea]

theorem fitsIn_mono {s : State} {n l m : Nat} (hle : m ≤ l) (h : fitsIn s n l) : fitsIn s n m :=
  ⟨fun a ha => hle.trans (h.1 a ha), fun hno => Nat.le_zero.1 (h.2 hno ▸ hle)⟩

/-- A slot with room takes one more (R104). -/
theorem fitsIn_of_room {s : State} {n : Fin 1024} (hapart : areasApart s) (h : s.slotRoom n = true) :
    fitsIn s n.val ((s.slot n).load + 1) := by
  unfold State.slotRoom at h
  split at h
  · next a hfind =>
    have ha := areaOf_some hfind
    simp only [decide_eq_true_eq] at h
    exact ⟨fun b hb => inArea_unique hapart ha hb ▸ h, fun hno => absurd ha (hno a)⟩
  · cases h

/-- The law from its parts, over the areas of another state. -/
theorem yardLaw_of {s t : State} (hareas : t.stock.areas = s.stock.areas) (h : s.yardLaw)
    (hfits : ∀ n, fitsIn s n.val (s.slot n).load → fitsIn s n.val (t.slot n).load)
    (hclaims : ∀ n, (t.slot n).claims = t.ordersTo n) : t.yardLaw := by
  have hapart : areasApart t := (areasApart_reads hareas).2 h.1
  refine ⟨hapart, fun n => (slotFits_iff hapart n).2 ((fitsIn_reads hareas _ _).2 (hfits n ?_)), hclaims⟩
  exact (slotFits_iff h.1 n).1 (h.2.1 n)

theorem ordersTo_reads {s t : State} (h : ∀ c n, crossesTo (t.crane c) n = crossesTo (s.crane c) n)
    (n : Fin 1024) : t.ordersTo n = s.ordersTo n := by
  simp only [ordersTo_eq, h]

theorem yardLaw_reads {s t : State} (h : s.yardLaw) (hareas : t.stock.areas = s.stock.areas)
    (hslots : t.stock.slots = s.stock.slots) (hcranes : t.runway.cranes = s.runway.cranes) :
    t.yardLaw := by
  have hslot : t.slot = s.slot := by funext n; exact congrArg (tget · n) hslots
  have hcrane : t.crane = s.crane := by funext c; exact congrArg (tget · c) hcranes
  refine yardLaw_of hareas h (fun n hn => hslot ▸ hn) fun n => ?_
  rw [hslot, ordersTo_reads (s := s) (t := t) (fun c n => by rw [hcrane]) n]
  exact h.2.2 n

theorem slotRoom_of_placeTest {s : State} {o : CraneOrder} {n : Fin 1024}
    (h : s.placeTest o (.slot n) = none) : s.slotRoom n = true :=
  slotRoom_of_placementCheck h

theorem destSlot_eq_some {t : Task} {n : Fin 1024} (h : t.destSlot = some n) :
    ∃ src, t = .carry src (.slot n) := by
  unfold Task.destSlot at h
  split at h
  · next src j => cases h; exact ⟨src, rfl⟩
  · cases h

/-- What an admission does to the claims of a slot (R105, R126). -/
theorem claimFor_slot (t : Task) (s : State) (j : Fin 1024) : (claimFor t s).slot j =
    if t.destSlot = some j then { s.slot j with claims := (s.slot j).claims + 1 } else s.slot j := by
  unfold claimFor
  cases t.destSlot with
  | none => simp
  | some n =>
    simp only [takeClaim, noteOpportunity_reads, modSlot_slot, Option.some.injEq, eq_comm (a := n)]
    split
    · next h => rw [h]
    · rfl

theorem dropClaim_slot (t : Task) (s : State) (j : Fin 1024) : (dropClaim t s).slot j =
    if t.destSlot = some j then { s.slot j with claims := (s.slot j).claims - 1 } else s.slot j := by
  unfold dropClaim
  cases t.destSlot with
  | none => simp
  | some n =>
    simp only [modSlot_slot, Option.some.injEq, eq_comm (a := n)]
    split
    · next h => rw [h]
    · rfl

theorem yardLaw_admission {s : State} {o : CraneOrder} (htrial : s.trial o = .admitted)
    (hrunway : s.runwayLaw) (h : s.yardLaw) :
    (claimFor o.task (holdOrder o ((s.crane o.crane).position.getD 0) s)).yardLaw := by
  have hadm := admissible_of_trial htrial
  have hnone : (s.crane o.crane).current = none := (hrunway.1 o.crane).2 hadm.control
  set u := holdOrder o ((s.crane o.crane).position.getD 0) s
  have hheld := holdOrder_crane o ((s.crane o.crane).position.getD 0) s
  have hslot : ∀ j, (claimFor o.task u).slot j = if o.task.destSlot = some j then
      { s.slot j with claims := (s.slot j).claims + 1 } else s.slot j := claimFor_slot o.task u
  have hcrane : (claimFor o.task u).crane = u.crane := by
    funext c; exact congrArg (tget · c) (claimFor_cranes o.task u).1
  have hareas : (claimFor o.task u).stock.areas = s.stock.areas := by
    unfold claimFor
    split <;> rfl
  refine yardLaw_of hareas h (fun n hn => ?_) fun n => ?_
  · rw [hslot]
    split
    · next hdest =>
      obtain ⟨src, htask⟩ := destSlot_eq_some hdest
      have hroom := slotRoom_of_placeTest (hadm.carry htask).place
      have hfits := fitsIn_of_room h.1 hroom
      rwa [Slot.load, Nat.add_assoc] at hfits
    · exact hn
  · have hbeside : ordersBeside (claimFor o.task u) o.crane n = ordersBeside s o.crane n :=
      ordersBeside_congr (fun d hd => by rw [hcrane, hheld, if_neg hd]) n
    have hold := ordersTo_split s o.crane n
    have hnew := ordersTo_split (claimFor o.task u) o.crane n
    have hclaims := h.2.2 n
    rw [hbeside, hcrane, hheld, if_pos rfl] at hnew
    simp only [crossesTo, hnone] at hold
    simp only [crossesTo, admittedRecord] at hnew
    rw [hslot]
    split
    · next hdest => simp [hdest] at hold hnew ⊢; omega
    · next hdest => simp [hdest] at hold hnew ⊢; omega

/-- What the end of a crane's order leaves of the orders to a slot. -/
theorem endOrder_ordersTo {s : State} {c : Fin 4} {o : CraneOrder}
    (hcur : (s.crane c).current = some o) (n : Fin 1024) :
    s.ordersTo n = (endOrder c s).ordersTo n + if o.task.destSlot = some n then 1 else 0 := by
  have hbeside : ordersBeside (endOrder c s) c n = ordersBeside s c n :=
    ordersBeside_congr (fun d hd => by rw [endOrder_crane, if_neg hd]) n
  have hold := ordersTo_split s c n
  have hnew := ordersTo_split (endOrder c s) c n
  rw [hbeside, endOrder_crane, if_pos rfl] at hnew
  simp only [crossesTo, hcur] at hold
  simp only [crossesTo] at hnew
  simp at hold hnew
  omega

theorem endOrder_slots (c : Fin 4) (s : State) : (endOrder c s).stock = s.stock := rfl

theorem yardLaw_place {s : State} {c : Fin 4} {o : CraneOrder} {n : Fin 1024} (m : Nat)
    (hcur : (s.crane c).current = some o) (hdest : o.task.destSlot = some n) (h : s.yardLaw) :
    (endOrder c (modSlot n (fun x => { stack := x.stack ++ [m], claims := x.claims - 1 }) s)).yardLaw := by
  set u := modSlot n (fun x => { stack := x.stack ++ [m], claims := x.claims - 1 }) s
  have hslot : ∀ j, (endOrder c u).slot j = if j = n then
      { stack := (s.slot n).stack ++ [m], claims := (s.slot n).claims - 1 } else s.slot j :=
    modSlot_slot s n (fun x => { stack := x.stack ++ [m], claims := x.claims - 1 })
  have horders : ∀ j, s.ordersTo j = (endOrder c u).ordersTo j + if o.task.destSlot = some j then 1 else 0 :=
    fun j => endOrder_ordersTo (s := u) hcur j
  have hclaim : 1 ≤ (s.slot n).claims := by
    rw [h.2.2 n, horders n, if_pos hdest]; omega
  refine yardLaw_of (by rfl) h (fun j hj => ?_) fun j => ?_
  · rw [hslot]
    split
    · next heq =>
      subst heq
      refine fitsIn_mono ?_ hj
      simp only [Slot.load, List.length_append, List.length_singleton]
      omega
    · exact hj
  · have hj := horders j
    have hclaims := h.2.2 j
    rw [hslot]
    split
    · next heq =>
      subst heq
      rw [if_pos hdest] at hj
      simp only
      omega
    · next hne =>
      rw [hdest, if_neg (by simpa using Ne.symm hne)] at hj
      omega

theorem yardLaw_release {s : State} {c : Fin 4} {o : CraneOrder} (hcur : (s.crane c).current = some o)
    (h : s.yardLaw) : (endOrder c (dropClaim o.task s)).yardLaw := by
  set u := dropClaim o.task s with hu
  have hcrane : u.crane = s.crane := by
    funext d; exact congrArg (fun r : RunwayUnit => tget r.cranes d) (dropClaim_runway o.task s)
  have hslot : ∀ j, (endOrder c u).slot j = if o.task.destSlot = some j then
      { s.slot j with claims := (s.slot j).claims - 1 } else s.slot j := dropClaim_slot o.task s
  have hareas : (endOrder c u).stock.areas = s.stock.areas := by
    rw [endOrder_slots, hu]
    unfold dropClaim
    split <;> rfl
  refine yardLaw_of hareas h (fun j hj => ?_) fun j => ?_
  · rw [hslot]
    split
    · exact fitsIn_mono (Nat.add_le_add_left (Nat.sub_le ..) _) hj
    · exact hj
  · have hj : u.ordersTo j = _ := endOrder_ordersTo (s := u) (by rw [hcrane]; exact hcur) j
    rw [ordersTo_reads (s := s) (t := u) (fun d n => by rw [hcrane]) j, ← h.2.2 j] at hj
    rw [hslot]
    split
    · next hdest => rw [if_pos hdest] at hj; simp only; omega
    · next hdest => rw [if_neg hdest] at hj; omega

theorem yardLaw_slot {s : State} (n : Fin 1024) (f : Slot → Slot) (hf : slotKept s n (f (s.slot n)))
    (h : s.yardLaw) : (modSlot n f s).yardLaw := by
  refine yardLaw_of (by rfl) h (fun j hj => ?_) fun j => ?_
  · rw [modSlot_slot]
    split
    · next heq =>
      subst heq
      rcases hf.2 with hle | ⟨hlen, hroom⟩
      · refine fitsIn_mono ?_ hj
        simp only [Slot.load, hf.1]
        omega
      · have hfits := fitsIn_of_room h.1 hroom
        refine fitsIn_mono ?_ hfits
        simp only [Slot.load, hf.1, hlen]
        omega
    · exact hj
  · rw [modSlot_slot, ordersTo_reads (s := s) (t := modSlot n f s) (fun _ _ => rfl) j, ← h.2.2 j]
    split
    · next heq => rw [hf.1, heq]
    · rfl

theorem yardLaw_cranes {s : State} (v : Vector Crane 4) (hv : ∀ c, CraneKept s (s.crane c) (tget v c))
    (h : s.yardLaw) : State.yardLaw { s with runway := { s.runway with cranes := v } } := by
  refine yardLaw_of (by rfl) h (fun _ hj => hj) fun j => ?_
  rw [ordersTo_reads (s := s) (fun c n => ?_) j]
  · exact h.2.2 j
  · obtain ⟨g, hcur, hg⟩ := (hv c).current
    show crossesTo (tget v c) n = _
    unfold crossesTo
    rw [hcur]
    cases (s.crane c).current with
    | none => rfl
    | some o => simp only [Option.map_some, (hg o).task]

theorem yardLaw_area {s : State} (a : Fin 16) (f : Area → Area) (hf : AreaKept (s.area a) (f (s.area a)))
    (h : s.yardLaw) : (modArea a f s).yardLaw := by
  have hshape : ∀ b, ((modArea a f s).area b).firstSlot = (s.area b).firstSlot
      ∧ ((modArea a f s).area b).count = (s.area b).count
      ∧ ((modArea a f s).area b).heightLimit = (s.area b).heightLimit := by
    intro b
    rw [modArea_area]
    split
    · next heq => rw [heq]; exact ⟨hf.firstSlot, hf.count, hf.heightLimit⟩
    · exact ⟨rfl, rfl, rfl⟩
  have hin : inArea (modArea a f s) = inArea s := by
    funext b n; simp only [inArea, hshape]
  have hapart : areasApart (modArea a f s) := by
    intro b c hbc
    simp only [hshape]
    exact h.1 b c hbc
  refine ⟨hapart, fun n => (slotFits_iff hapart n).2 ?_, h.2.2⟩
  have hfits := (slotFits_iff h.1 n).1 (h.2.1 n)
  simp only [fitsIn, hin, hshape]
  exact hfits

/-! ### An area written -/

theorem slot_mem_slotsOf {s : State} {a : Fin 16} {n : Fin 1024} (h : inArea s a n.val) :
    s.slot n ∈ s.slotsOf a := by
  obtain ⟨hlo, hhi⟩ := h
  have hlen : s.stock.slots.toList.length = 1024 := by simp
  rw [State.slotsOf, List.mem_iff_getElem]
  refine ⟨n.val - (s.area a).firstSlot, ?_, ?_⟩
  · rw [List.length_take, List.length_drop, hlen]
    have := n.isLt
    omega
  · rw [List.getElem_take, List.getElem_drop]
    simp only [Nat.add_sub_cancel' hlo, Vector.getElem_toList]
    rfl

/-- What a write of an area that passes its checks has found (R103). -/
structure AreaPassed (s : State) (a : Fin 16) (x : AreaFields) : Prop where
  clear : ∀ b, b ≠ a → runsMeet x.firstSlot x.count (s.area b).firstSlot (s.area b).count = false
  height : ∀ n : Fin 1024, inArea s a n.val → (s.slot n).load ≤ x.heightLimit
  emptied : (x.firstSlot ≠ (s.area a).firstSlot ∨ x.count ≠ (s.area a).count) →
    ∀ n : Fin 1024, inArea s a n.val → (s.slot n).load = 0

theorem areaPassed_of_check {s : State} {a : Fin 16} {x : AreaFields} (h : s.areaWriteCheck a x = none) :
    AreaPassed s a x := by
  unfold State.areaWriteCheck at h
  split at h
  · cases h
  next hclash =>
  split at h
  · cases h
  next hheight =>
  split at h
  · cases h
  next hempty =>
  refine ⟨fun b hb => ?_, fun n hn => ?_, fun hmoved n hn => ?_⟩
  · have hno := List.any_eq_false.1 (Bool.not_eq_true _ ▸ hclash) b (mem_indexes b)
    simpa [hb] using hno
  · have hno := List.any_eq_false.1 (Bool.not_eq_true _ ▸ hheight) _ (slot_mem_slotsOf hn)
    simpa using hno
  · have hmoves : movesArea (s.area a) x = true := by
      simp only [movesArea, decide_eq_true_eq]
      tauto
    rw [hmoves, Bool.true_and, Bool.not_eq_true] at hempty
    have hno := List.any_eq_false.1 hempty _ (slot_mem_slotsOf hn)
    simpa using hno

theorem yardLaw_areaWrite {s : State} (a : Fin 16) (x : AreaFields) (hcheck : s.areaWriteCheck a x = none)
    (h : s.yardLaw) : (modArea a (Area.rewritten x) s).yardLaw := by
  have hpassed := areaPassed_of_check hcheck
  set t := modArea a (Area.rewritten x) s with ht
  have harea : ∀ b, t.area b = if b = a then Area.rewritten x (s.area a) else s.area b :=
    modArea_area s a _
  have hother : ∀ b, b ≠ a → t.area b = s.area b := fun b hb => by rw [harea, if_neg hb]
  have hwritten : t.area a = Area.rewritten x (s.area a) := by rw [harea, if_pos rfl]
  have hinOther : ∀ b, b ≠ a → ∀ n, inArea t b n ↔ inArea s b n := fun b hb n => by
    simp only [inArea, hother b hb]
  have hinWritten : ∀ n, inArea t a n ↔ x.firstSlot ≤ n ∧ n < x.firstSlot + x.count := fun n => by
    simp only [inArea, hwritten, Area.rewritten]
  have hapart : areasApart t := by
    intro b c hbc
    by_cases hb : b = a
    · subst hb
      rw [hwritten, hother c (Ne.symm hbc)]
      exact hpassed.clear c (Ne.symm hbc)
    · by_cases hc : c = a
      · subst hc
        rw [hwritten, hother b hb, runsMeet_comm]
        exact hpassed.clear b hb
      · rw [hother b hb, hother c hc]
        exact h.1 b c hbc
  refine ⟨hapart, fun n => (slotFits_iff hapart n).2 ?_, h.2.2⟩
  obtain ⟨hlimit, hnone⟩ := (slotFits_iff h.1 n).1 (h.2.1 n)
  refine ⟨fun b hb => ?_, fun hno => ?_⟩
  · by_cases hba : b = a
    · subst hba
      rw [hwritten]
      by_cases hold : inArea s b n.val
      · exact hpassed.height n hold
      · refine (hnone fun c hc => ?_).trans_le (Nat.zero_le _)
        by_cases hcb : c = b
        · exact hold (hcb ▸ hc)
        · have hmeet := runsMeet_of_shared ((hinWritten _).1 hb) hc
          rw [hpassed.clear c hcb] at hmeet
          cases hmeet
    · rw [hother b hba]
      exact hlimit b ((hinOther b hba _).1 hb)
  · by_cases hold : inArea s a n.val
    · refine hpassed.emptied ?_ n hold
      by_contra hsame
      simp only [not_or, Decidable.not_not] at hsame
      refine hno a ((hinWritten _).2 ?_)
      rw [hsame.1, hsame.2]
      exact hold
    · refine hnone fun c hc => ?_
      by_cases hca : c = a
      · exact hold (hca ▸ hc)
      · exact hno c ((hinOther c hca _).2 hc)

/-! ### Starts -/

theorem ordersTo_noCranes {s : State} (h : ∀ c, s.crane c = {}) (n : Fin 1024) : s.ordersTo n = 0 := by
  rw [ordersTo_eq, List.countP_eq_zero]
  intro c _
  rw [h]
  exact Bool.false_ne_true

theorem yardLaw_warmYard {s : State} (h : s.yardLaw) : (warmStock (warmRunway s)).yardLaw := by
  have hslot : ∀ n, (warmStock (warmRunway s)).slot n = { s.slot n with claims := 0 } :=
    fun n => tget_tmap ..
  refine yardLaw_of (by rfl) h (fun n hn => ?_) fun n => ?_
  · rw [hslot]
    exact fitsIn_mono (Nat.add_le_add_left (Nat.zero_le _) _) hn
  · rw [hslot, ordersTo_noCranes (warmRunway_crane s)]

theorem yardLaw_cold (s : State) : (coldBlocks s).yardLaw := by
  have harea : ∀ a, (coldBlocks s).area a = {} := fun a => tget_tableOf ..
  have hslot : ∀ n, (coldBlocks s).slot n = {} := fun n => tget_tableOf ..
  have hapart : areasApart (coldBlocks s) := by
    intro a b _
    rw [harea, harea]
    rfl
  refine ⟨hapart, fun n => (slotFits_iff hapart n).2 ⟨fun a ha => ?_, fun _ => ?_⟩, fun n => ?_⟩
  · rw [hslot]; exact Nat.zero_le _
  · rw [hslot]; rfl
  · rw [hslot, ordersTo_noCranes (coldBlocks_crane s)]

theorem cureAtEntry_blocks (b : Fin 24) (new : BedState) (s : State) :
    (cureAtEntry b new s).stock = s.stock ∧ (cureAtEntry b new s).runway = s.runway := by
  unfold cureAtEntry
  repeat' split
  all_goals exact ⟨rfl, rfl⟩

/-- The runway law with the law of the yard. -/
def runwayYard (s : State) : Prop := s.runwayLaw ∧ s.yardLaw

theorem runwayYard_onBlocks : OnBlocks runwayYard where
  reads ha h := ⟨runwayLaw_onBlocks.reads ha h.1, yardLaw_reads h.2 ha.areas ha.slots ha.cranes⟩
  enterBed {s} b new hmay h := by
    obtain ⟨hstock, hrunway⟩ := cureAtEntry_blocks b new s
    exact ⟨runwayLaw_onBlocks.enterBed b new hmay h.1,
      yardLaw_reads h.2 (by rw [hstock]) (by rw [hstock]) (by rw [hrunway])⟩
  bedRecs v hv h := ⟨runwayLaw_onBlocks.bedRecs v hv h.1, yardLaw_reads h.2 rfl rfl rfl⟩
  bedEntry b e hcheck h := ⟨runwayLaw_onBlocks.bedEntry b e hcheck h.1, yardLaw_reads h.2 rfl rfl rfl⟩
  thermal b f hf h := ⟨runwayLaw_onBlocks.thermal b f hf h.1, yardLaw_reads h.2 rfl rfl rfl⟩
  pieces g hg h := ⟨runwayLaw_onBlocks.pieces g hg h.1, yardLaw_reads h.2 rfl rfl rfl⟩
  erase m h := ⟨runwayLaw_onBlocks.erase m h.1, yardLaw_reads h.2 rfl rfl rfl⟩
  create p hnew hroom hp h := ⟨runwayLaw_onBlocks.create p hnew hroom hp h.1, yardLaw_reads h.2 rfl rfl rfl⟩
  area a f hf h := ⟨runwayLaw_onBlocks.area a f hf h.1, yardLaw_area a f hf h.2⟩
  areaWrite a x hrange hcheck h :=
    ⟨runwayLaw_onBlocks.areaWrite a x hrange hcheck h.1, yardLaw_areaWrite a x hcheck h.2⟩
  slot n f hf h := ⟨runwayLaw_onBlocks.slot n f hf h.1, yardLaw_slot n f hf h.2⟩
  admission o htrial h := ⟨runwayLaw_onBlocks.admission o htrial h.1, yardLaw_admission htrial h.1 h.2⟩
  place c o n m hcur hdest h :=
    ⟨runwayLaw_onBlocks.place c o n m hcur hdest h.1, yardLaw_place m hcur hdest h.2⟩
  release c o hcur h := ⟨runwayLaw_onBlocks.release c o hcur h.1, yardLaw_release hcur h.2⟩
  cranes v hv h := ⟨runwayLaw_onBlocks.cranes v hv h.1, yardLaw_cranes v hv h.2⟩
  region r e hquiet h := ⟨runwayLaw_onBlocks.region r e hquiet h.1, yardLaw_reads h.2 rfl rfl rfl⟩
  waiting l hl h := ⟨runwayLaw_onBlocks.waiting l hl h.1, yardLaw_reads h.2 rfl rfl rfl⟩
  cold h := ⟨runwayLaw_onBlocks.cold h.1, yardLaw_cold _⟩
  warmYard h := ⟨runwayLaw_onBlocks.warmYard h.1, yardLaw_warmYard h.2⟩
  warmBeds h := ⟨runwayLaw_onBlocks.warmBeds h.1, yardLaw_reads h.2 rfl rfl rfl⟩

/-- Settles O58. -/
theorem yardLawKept : Obligations.YardLawKept := by
  unfold Obligations.YardLawKept
  exact fun s t ht hrunway h => (runwayYard_onBlocks.step ⟨hrunway, h⟩ ht).2

end Sys2Proof.YardLawProofs
end

section
/-!
Every step keeps the bounds of the waiting queue and the permit timers (R13, R127).
-/
namespace Sys2Proof.QueueLawProofs

open Sys2Proof Sys2Proof.Machine Sys2Proof.StepProofs Sys2Proof.BlockLawProofs Sys2Proof.RunwayLawProofs

/-! ### The waiting queue -/

theorem queueLaw_reads {s t : State} (h : s.queueLaw) (hwaiting : t.runway.waiting = s.runway.waiting) :
    t.queueLaw := by
  simp only [State.queueLaw, hwaiting]
  exact h

theorem queueLaw_empty {s : State} (h : s.runway.waiting = []) : s.queueLaw := by
  simp [State.queueLaw, h]

theorem cureAtEntry_runway (b : Fin 24) (new : BedState) (s : State) :
    (cureAtEntry b new s).runway = s.runway := (YardLawProofs.cureAtEntry_blocks b new s).2

theorem queueLaw_onBlocks : OnBlocks State.queueLaw where
  reads ha h := queueLaw_reads h ha.waiting
  enterBed b new _ h := queueLaw_reads h (by rw [cureAtEntry_runway])
  bedRecs _ _ h := queueLaw_reads h rfl
  bedEntry _ _ _ h := queueLaw_reads h rfl
  thermal _ _ _ h := queueLaw_reads h rfl
  pieces _ _ h := queueLaw_reads h rfl
  erase _ h := queueLaw_reads h rfl
  create _ _ _ _ h := queueLaw_reads h rfl
  area _ _ _ h := queueLaw_reads h rfl
  areaWrite _ _ _ _ h := queueLaw_reads h rfl
  slot _ _ _ h := queueLaw_reads h rfl
  admission {s} o _ h := queueLaw_reads (s := s) h (claimFor_cranes o.task _).2.1
  place _ _ _ _ _ _ h := queueLaw_reads h rfl
  release {s} c o _ h :=
    queueLaw_reads h (show (dropClaim o.task s).runway.waiting = _ by rw [dropClaim_runway])
  cranes _ _ h := queueLaw_reads h rfl
  region _ _ _ h := queueLaw_reads h rfl
  waiting l hl h := ⟨hl.all.trans (max_le le_rfl h.1), fun c => (hl.each c).trans (max_le le_rfl (h.2 c))⟩
  cold _ := queueLaw_empty rfl
  warmYard _ := queueLaw_empty rfl
  warmBeds h := queueLaw_reads h rfl

/-! ### The permit timers -/

theorem permitsIdle_reads {s t : State} (h : s.permitsIdle) (hrecs : t.bed.recs = s.bed.recs) :
    t.permitsIdle := by
  have hrec : t.bedRec = s.bedRec := by funext b; exact congrArg (tget · b) hrecs
  simp only [State.permitsIdle, hrec]
  exact h

theorem permitsIdle_enterBed {s : State} (b : Fin 24) (new : BedState) (h : s.permitsIdle) :
    (cureAtEntry b new s).permitsIdle := by
  intro j hj
  rw [cureAtEntry_bedRec] at hj ⊢
  split
  · next heq =>
    rw [if_pos heq] at hj
    exact if_neg hj
  · next hne =>
    rw [if_neg hne] at hj
    exact h j hj

theorem permitsIdle_bedRecs {s : State} (v : Vector BedRec 24) (hv : ∀ b, BedKept (s.bedRec b) (tget v b))
    (h : s.permitsIdle) : State.permitsIdle { s with bed := { s.bed with recs := v } } := by
  intro b hb
  have hstate : (s.bedRec b).state ≠ .releasing := (hv b).state ▸ hb
  show (tget v b).permit = 0
  rcases (hv b).permit with hsame | hzero | hold
  · rw [hsame]; exact h b hstate
  · exact hzero
  · exact absurd hold hstate

theorem permitsIdle_onBlocks : OnBlocks State.permitsIdle where
  reads ha h := permitsIdle_reads h ha.bedRecs
  enterBed b new _ h := permitsIdle_enterBed b new h
  bedRecs := permitsIdle_bedRecs
  bedEntry _ _ _ h := permitsIdle_reads h rfl
  thermal _ _ _ h := permitsIdle_reads h rfl
  pieces _ _ h := permitsIdle_reads h rfl
  erase _ h := permitsIdle_reads h rfl
  create _ _ _ _ h := permitsIdle_reads h rfl
  area _ _ _ h := permitsIdle_reads h rfl
  areaWrite _ _ _ _ h := permitsIdle_reads h rfl
  slot _ _ _ h := permitsIdle_reads h rfl
  admission {s} o _ h := permitsIdle_reads (s := s) h (congrArg BedUnit.recs (claimFor_blocks o.task _).1)
  place _ _ _ _ _ _ h := permitsIdle_reads h rfl
  release {s} c o _ h := permitsIdle_reads h (congrArg BedUnit.recs (dropClaim_blocks o.task s).1)
  cranes _ _ h := permitsIdle_reads h rfl
  region _ _ _ h := permitsIdle_reads h rfl
  waiting _ _ h := permitsIdle_reads h rfl
  cold {s} _ := fun b _ => by
    have hrec : (coldBlocks s).bedRec b = {} := tget_tableOf ..
    rw [hrec]
  warmYard h := permitsIdle_reads h rfl
  warmBeds {s} _ := fun b _ => by rw [warmBeds_bedRec]; rfl

/-! ### The passes leave no opportunity -/

theorem answerOrder_runway (o : CraneOrder) (a : Answer) (s : State) :
    (answerOrder o a s).runway = s.runway := by simp

/-- An admission hands over at most one opportunity, the claim's, and leaves the waiting orders. -/
theorem admitOrder_count (o : CraneOrder) (s : State) :
    (admitOrder o s).runway.waiting = s.runway.waiting
      ∧ (admitOrder o s).runway.opportunities ≤ s.runway.opportunities + 1 := by
  have hclaim : (claimFor o.task (holdOrder o ((s.crane o.crane).position.getD 0) s)).runway.waiting
        = s.runway.waiting
      ∧ (claimFor o.task (holdOrder o ((s.crane o.crane).position.getD 0) s)).runway.opportunities
        ≤ s.runway.opportunities + 1 := by
    unfold claimFor
    split
    · exact ⟨rfl, le_rfl⟩
    · exact ⟨rfl, Nat.le_succ _⟩
  have hrunway : (admitOrder o s).runway
      = (claimFor o.task (holdOrder o ((s.crane o.crane).position.getD 0) s)).runway := by
    simp [admitOrder]
  rw [hrunway]
  exact hclaim

/-- The opportunities left and the orders waiting: what bounds the passes (R128). -/
def passBound (s : State) : Nat := s.runway.opportunities + s.runway.waiting.length

/-- One order of a pass: the orders still to try are among those waiting, and the bound does not rise. -/
theorem passOne_bound (acc : List (Fin 4) × State) (o : CraneOrder) (rest : List CraneOrder)
    (hsub : (o :: rest).Subperm acc.2.runway.waiting) :
    rest.Subperm (passOne acc o).2.runway.waiting ∧ passBound (passOne acc o).2 ≤ passBound acc.2 := by
  have hmem : o ∈ acc.2.runway.waiting := hsub.subset (by simp)
  have hskip : rest.Subperm acc.2.runway.waiting := (List.sublist_cons_self o rest).subperm.trans hsub
  have herase : rest.Subperm (unqueue o acc.2).runway.waiting := by
    have h := hsub.erase o
    rwa [List.erase_cons_head] at h
  have hlength : (unqueue o acc.2).runway.waiting.length + 1 = acc.2.runway.waiting.length := by
    show (acc.2.runway.waiting.erase o).length + 1 = _
    rw [List.length_erase_of_mem hmem]
    have := List.length_pos_of_mem hmem
    omega
  have hopp : (unqueue o acc.2).runway.opportunities = acc.2.runway.opportunities := rfl
  unfold passOne
  split
  · exact ⟨hskip, le_rfl⟩
  split
  · obtain ⟨hwaiting, hcount⟩ := admitOrder_count o (unqueue o acc.2)
    simp only [passBound]
    rw [hwaiting]
    exact ⟨herase, by omega⟩
  · simp only [passBound, answerOrder_runway]
    exact ⟨herase, by omega⟩
  · exact ⟨hskip, le_rfl⟩

theorem admissionPass_bound (s : State) : passBound (admissionPass s) ≤ passBound s := by
  have hfold : ∀ (l : List CraneOrder) (acc : List (Fin 4) × State),
      l.Subperm acc.2.runway.waiting → passBound (l.foldl passOne acc).2 ≤ passBound acc.2 := by
    intro l
    induction l with
    | nil => exact fun acc _ => le_rfl
    | cons o rest ih =>
      intro acc hsub
      obtain ⟨hrest, hle⟩ := passOne_bound acc o rest hsub
      exact (ih _ hrest).trans hle
  exact hfold _ ([], s) (List.Subperm.refl _)

theorem takeOpportunities_settled (n : Nat) (s : State) (h : passBound s ≤ n) :
    (takeOpportunities n s).settled := by
  induction n generalizing s with
  | zero =>
    have hzero : s.runway.opportunities = 0 := by simp only [passBound] at h; omega
    exact hzero
  | succ n ih =>
    unfold takeOpportunities
    split
    · assumption
    · refine ih _ ?_
      have hpass := admissionPass_bound
        { s with runway := { s.runway with opportunities := s.runway.opportunities - 1 } }
      simp only [passBound] at hpass h
      simp only [takeOpportunity, passBound]
      omega

/-- The opportunities are all taken (R128). -/
theorem settle_settled (s : State) : (settle s).settled := takeOpportunities_settled _ s le_rfl

end Sys2Proof.QueueLawProofs
end

section
/-!
Every step leaves no admission opportunity untaken (R128): a command that hands one over takes them all before its
answer, and every other command leaves their count. The start sets it to 0.
-/
namespace Sys2Proof.QueueLawProofs

open Sys2Proof Sys2Proof.Machine Sys2Proof.StepProofs

@[simp] theorem settle_opportunities (s : State) : (settle s).runway.opportunities = 0 := settle_settled s

/-- A change that leaves the runway unit leaves no opportunity. -/
theorem settled_of_runway {s t : State} (h : s.settled) (hrunway : t.runway = s.runway) : t.settled := by
  rw [State.settled, hrunway]; exact h

section
variable {s : State}

/-! ### Panels and works minutes -/

theorem panelAnswer_runway (f : Frame) (a : PanelAnswer) (s : State) :
    (panelAnswer f a s).runway = s.runway := by
  unfold panelAnswer panelFree
  split <;> simp

theorem settled_panelAnswer {f : Frame} {a : PanelAnswer} (h : s.settled) : (panelAnswer f a s).settled :=
  settled_of_runway h (panelAnswer_runway f a s)

theorem settled_reply {f : Frame} {c : Byte} {st : Status} {l : Bytes} (h : s.settled) :
    (reply f c st l s).settled :=
  settled_of_runway h (by simp)

theorem settled_panelStressed (f : Frame) (b : Fin 24) (h : s.settled) : (panelStressed f b s).settled := by
  unfold panelStressed
  split
  · exact settled_panelAnswer (settle_settled _)
  · exact settled_panelAnswer h

theorem settled_panelCastDone (f : Frame) (b : Fin 24) (h : s.settled) : (panelCastDone f b s).settled := by
  unfold panelCastDone
  split
  · refine settled_panelAnswer ?_
    split
    · exact settle_settled _
    · exact settled_of_runway h (by simp [castSeen])
  · exact settled_panelAnswer h

theorem settled_panelDetensionAsk (f : Frame) (b : Fin 24) (h : s.settled) :
    (panelDetensionAsk f b s).settled := by
  unfold panelDetensionAsk
  split
  case h_1 => exact settled_panelAnswer (settle_settled _)
  case h_2 => exact settled_panelAnswer (settled_of_runway h rfl)
  all_goals exact settled_panelAnswer h

theorem settled_panelDetensioned (f : Frame) (b : Fin 24) (h : s.settled) :
    (panelDetensioned f b s).settled := by
  have hcount : (countDuplicate s).settled := settled_of_runway h rfl
  unfold panelDetensioned
  split
  case h_1 | h_2 | h_3 => exact settled_panelAnswer (settle_settled _)
  case h_4 =>
    refine settled_panelAnswer ?_
    split
    · exact settle_settled _
    · exact settle_settled _
  case h_5 | h_6 | h_7 => exact settled_panelAnswer hcount

theorem settled_panelBedClear (f : Frame) (b : Fin 24) (h : s.settled) : (panelBedClear f b s).settled := by
  unfold panelBedClear
  split
  · split
    · exact settled_panelAnswer h
    · exact settled_panelAnswer (settle_settled _)
  · exact settled_panelAnswer (settle_settled _)
  · exact settled_panelAnswer h

theorem settled_permitMinute (b : Fin 24) (h : s.settled) : (permitMinute b s).settled := by
  unfold permitMinute
  repeat' split
  · exact settle_settled _
  · exact settled_of_runway h rfl
  · exact h

/-! ### Cranes -/

theorem settled_takeReport (f : Frame) (act : Fin 4 → ReportFields → State → State) (h : s.settled) :
    (takeReport f act s).settled := by
  unfold takeReport
  split
  · exact h
  split
  · exact h
  · exact settle_settled _

theorem settled_takeScan (f : Frame) (h : s.settled) : (takeScan f s).settled := by
  unfold takeScan
  repeat' split
  · exact h
  · exact settle_settled _
  · exact h
  · exact h

theorem settled_craneRelease (f : Frame) (h : s.settled) : (craneRelease f s).settled := by
  unfold craneRelease
  repeat' split
  · exact settled_reply h
  · exact settled_reply h
  · exact settled_reply h
  · exact settled_reply (settle_settled _)
  · exact settled_reply h

theorem settled_censusBegin (f : Frame) (h : s.settled) : (censusBegin f s).settled := by
  unfold censusBegin
  repeat' split
  · exact settled_reply h
  · exact settled_reply (settle_settled _)
  · exact settled_reply h

theorem settled_censusEnd (f : Frame) (h : s.settled) : (censusEnd f s).settled := by
  unfold censusEnd
  repeat' split
  · exact settled_reply h
  · exact settled_reply (settle_settled _)
  · exact settled_reply h

/-! ### Requests on beds, and the curing minute -/

theorem settled_forBed (f : Frame) (code : Byte) (act : Fin 24 → State → State)
    (hact : ∀ b, (act b s).settled) (h : s.settled) : (forBed f code act s).settled := by
  unfold forBed
  repeat' split
  · exact hact _
  · exact settled_reply h
  · exact settled_reply h

theorem writeOrder_runway (b : Fin 24) (o : CastOrder) (lines : List OrderLine) (recipe : Recipe)
    (s : State) : (writeOrder b o lines recipe s).runway = s.runway := by
  have hrecords : ∀ t : State, (lines.foldl (fun u l => createPiece (linePiece b l) u) t).runway = t.runway :=
    fun t => foldl_keeps t State.runway (fun u (l : OrderLine) => createPiece (linePiece b l) u)
      (fun _ _ => by simp) lines
  unfold writeOrder
  dsimp only
  split <;> simp [hrecords]

theorem freeLines_runway (b : Fin 24) (s : State) : (freeLines b s).runway = s.runway :=
  foldl_keeps s State.runway (fun t (l : OrderLine) => erasePiece l.mark t) (fun _ _ => by simp) _

theorem settled_bedOrder (f : Frame) (h : s.settled) : (bedOrder f s).settled := by
  have hadopt : ∀ (b : Fin 24) (u : State), u.settled → (adoptCast b u).settled := by
    intro b u hu
    unfold adoptCast
    split
    · exact settle_settled _
    · exact hu
  unfold bedOrder
  repeat' split
  · exact settled_reply h
  · exact settled_reply h
  · exact settled_reply h
  · exact settled_reply h
  · exact settled_reply (hadopt _ _ (settled_of_runway h (writeOrder_runway ..)))

theorem settled_cancelBed (f : Frame) (b : Fin 24) (h : s.settled) : (cancelBed f b s).settled := by
  unfold cancelBed
  dsimp only
  split
  · exact settled_reply (settled_of_runway h (by simp [freeLines_runway]))
  · exact settled_reply h

theorem settled_abandonBed (f : Frame) (b : Fin 24) (h : s.settled) : (abandonBed f b s).settled := by
  unfold abandonBed
  dsimp only
  split
  · exact settled_reply (settle_settled _)
  · exact settled_reply h

theorem settled_coolBed (f : Frame) (b : Fin 24) (h : s.settled) : (coolBed f b s).settled := by
  unfold coolBed
  dsimp only
  split
  · exact settled_reply (settled_of_runway h (by simp))
  · exact settled_reply h

theorem settled_treatBed (b : Fin 24) (h : s.settled) : (treatBed b s).settled := by
  have hdemand : ∀ (hot : Int) (soak : Bool) (t : Thermal) (u : State), u.settled →
      (demandMinute b hot soak t u).settled := by
    intro hot soak t u hu
    refine settled_of_runway hu ?_
    simp only [demandMinute, handDemand]
    split <;> simp
  have hblind : ∀ (t : Thermal) (u : State), u.settled → (blindMinute b t u).settled := by
    intro t u hu
    refine settled_of_runway hu ?_
    simp only [blindMinute, handDemand]
    split <;> simp
  have haccrue : (accrueBed b s).settled := settled_of_runway h (by simp)
  unfold treatBed
  split
  case h_1 =>
    unfold treatCuring
    dsimp only
    split
    · exact hblind _ _ haccrue
    · unfold sightedMinute
      dsimp only
      repeat' split
      · exact hdemand _ _ _ _ haccrue
      · exact settle_settled _
      · exact hdemand _ _ _ _ (settled_of_runway haccrue (by simp))
      · exact hdemand _ _ _ _ (settled_of_runway haccrue (by simp))
  case h_2 | h_3 | h_4 => exact haccrue
  case h_5 | h_6 | h_7 => exact h

/-! ### Pieces -/

theorem settled_pieceMinute (m : Nat) (h : s.settled) : (pieceMinute m s).settled := by
  unfold pieceMinute
  repeat' split
  · exact settled_of_runway h (by simp [setAccount])
  · exact h
  · exact h

theorem settled_pieceDeclare (f : Frame) (h : s.settled) : (pieceDeclare f s).settled := by
  have hat : ∀ m n, (declareAt f m n s).settled := by
    intro m n
    unfold declareAt
    repeat' split
    · exact settled_reply h
    · exact settled_reply h
    · exact settled_reply h
    · exact settled_reply (settle_settled _)
  unfold pieceDeclare
  repeat' split
  · exact settled_reply h
  · exact settled_reply h
  · exact settled_reply h
  · exact hat _ _
  · exact settled_reply h

theorem settled_pieceSetMaturity (f : Frame) (h : s.settled) : (pieceSetMaturity f s).settled := by
  unfold pieceSetMaturity
  repeat' split
  · exact settled_reply h
  · exact settled_reply h
  · exact settled_reply (settled_of_runway h (by simp))
  · exact settled_reply h
  · exact settled_reply h

theorem settled_pieceDrop (f : Frame) (h : s.settled) : (pieceDrop f s).settled := by
  unfold pieceDrop
  repeat' split
  · exact settled_reply h
  · exact settled_reply h
  · exact settled_reply h
  · exact settled_reply (settle_settled _)
  · exact settled_reply h

/-! ### Tables and the other requests -/

theorem settled_tableWrite {α : Type} {n : Nat} (f : Frame) (table : Byte) (parse : Bytes → Option α)
    (check : Fin n → α → Option Status) (write : Fin n → α → State → State)
    (hwrite : ∀ i e, (write i e s).settled) (h : s.settled) :
    (tableWrite f table parse check write s).settled := by
  unfold tableWrite
  repeat' split
  · exact settled_reply h
  · exact settled_reply h
  · exact settled_reply (hwrite _ _)

theorem settled_writeProbe (i : Fin 128) (e : ProbeEntry) (h : s.settled) : (writeProbe i e s).settled := by
  unfold writeProbe
  dsimp only
  split
  · exact settled_of_runway h (by simp [setSurvey])
  · exact settled_of_runway h rfl

theorem settled_writeService (g : Fin 128) (b : Bool) (h : s.settled) : (writeService g b s).settled := by
  unfold writeService
  dsimp only
  split
  · exact settled_of_runway h rfl
  · exact settle_settled _

theorem settled_tableWriteParameter (f : Frame) (h : s.settled) : (tableWriteParameter f s).settled := by
  have hset : ∀ p v, (setParameter p v s).settled := by
    intro p v
    cases p
    case faultLimit q => exact settled_of_runway h (by simp [setParameter])
    all_goals exact h
  have hwrite : ∀ p v, (writeParameter p v s).settled := by
    intro p v
    refine settled_of_runway (hset p v) ?_
    unfold writeParameter compareLimit
    split
    · dsimp only
      split
      · simp
      · rfl
    · rfl
  unfold tableWriteParameter
  repeat' split
  · exact settled_reply h
  · exact settled_reply h
  · exact settled_reply h
  · exact settled_reply (hwrite _ _)

theorem settled_bare (f : Frame) (code : Byte) (act : State → State) (hact : (act s).settled)
    (h : s.settled) : (bare f code act s).settled := by
  unfold bare
  split
  · exact hact
  · exact settled_reply h

theorem settled_tablesReady (f : Frame) (h : s.settled) : (tablesReady f s).settled :=
  settled_of_runway h (by simp [tablesReady, setSurvey, setConfigured])

theorem settled_clearFlags (h : s.settled) : (clearFlags s).settled := by
  obtain ⟨x, hx⟩ := clearUnlessHeld_fold s Cause.all s
  exact settled_of_runway h (by simp [clearFlags, emptyLatches, hx])

theorem settled_setCause (f : Frame) (h : s.settled) : (setCause f s).settled := by
  unfold setCause
  repeat' split
  · exact settled_reply h
  · exact settled_reply (settled_of_runway h (by simp [writeCause]))
  · exact settled_reply h
  · exact settled_reply h

theorem settled_reallocate (f : Frame) (code : Byte) (h : s.settled) : (reallocate f code s).settled :=
  settled_of_runway h (by simp [reallocate])

theorem settled_setBudget (f : Frame) (h : s.settled) : (setBudget f s).settled := by
  unfold setBudget
  repeat' split
  · exact settled_reallocate (s := writeBudget _ s) f _ h
  · exact settled_reply h
  · exact settled_reply h

theorem settled_shed (f : Frame) (h : s.settled) : (shed f s).settled := by
  unfold shed
  repeat' split
  · exact settled_reallocate (s := writeShed _ s) f _ h
  · exact settled_reallocate (s := writeShed _ s) f _ h
  · exact settled_reply h
  · exact settled_reply h

theorem settled_probeForce (f : Frame) (h : s.settled) : (probeForce f s).settled := by
  unfold probeForce
  repeat' split
  all_goals exact settled_of_runway h (by simp)

theorem settled_readRequests (f : Frame) (h : s.settled) : (tableRead f s).settled
    ∧ (readCrane f s).settled ∧ (readPiece f s).settled ∧ (readSlot f s).settled := by
  unfold tableRead readCrane readPiece readSlot
  refine ⟨?_, ?_, ?_, ?_⟩
  all_goals repeat' split
  all_goals exact settled_reply h

/-! ### Probes, heat and the line -/

theorem settled_takeSample (f : Frame) (h : s.settled) : (takeSample f s).settled := by
  unfold takeSample
  split
  · exact settled_of_runway h rfl
  · exact settled_of_runway h (foldl_keeps s State.runway _ (fun _ _ => by simp) _)

theorem settled_probeMinute (h : s.settled) : (staleSurvey (forEach staleProbe (ageProbes s))).settled := by
  have hage : (ageProbes s).runway = s.runway :=
    forEach_keeps s State.runway _ fun _ u => by split <;> simp
  have hstale : (forEach staleProbe (ageProbes s)).runway = (ageProbes s).runway :=
    forEach_keeps _ State.runway _ fun _ _ => by simp
  exact settled_of_runway h (by simp [hage, hstale])

theorem settled_takeHeatAck (f : Frame) (h : s.settled) : (takeHeatAck f s).settled := by
  unfold takeHeatAck
  dsimp only
  repeat' split
  all_goals exact settled_of_runway h (by simp)

theorem goodFrame_runway (q : Port) (s : State) : (goodFrame q s).runway = s.runway := by simp [goodFrame]

theorem fateP_runway (f : Frame) (s : State) : (fateP f s).runway = s.runway := by
  unfold fateP takeMgmt
  repeat' split
  · rfl
  · simp
  · rfl
  · rfl
  · simp

theorem fateF_runway (f : Frame) (s : State) : (fateF f s).runway = s.runway := by
  have hown : (fateOwn f s).runway = s.runway := by
    unfold fateOwn
    repeat' split
    · rfl
    · simp [denyMgmt]
    · rfl
  have hplant : (passToPlant f s).runway = s.runway := by
    unfold passToPlant
    split <;> simp [handOver]
  unfold fateF
  repeat' split
  · rfl
  · rfl
  · rfl
  · exact hown
  · simp
  · exact hplant

theorem receiveRun_runway (q : Port) (run : Bytes) (s : State) : (receiveRun q run s).runway = s.runway := by
  have hpass : ∀ p f, (passForward p f s).runway = s.runway := by
    intro p f
    unfold passForward
    split <;> simp
  unfold receiveRun
  repeat' split
  · rfl
  · unfold failedFrame
    dsimp only
    split <;> simp
  · rfl
  · cases q
    · exact (fateP_runway _ _).trans (goodFrame_runway _ _)
    · exact (fateF_runway _ _).trans (goodFrame_runway _ _)
  · unfold passFate
    repeat' split
    · exact hpass _ _
    · rfl
    · exact hpass _ _

theorem freePort_runway (q : Port) (s : State) : (freePort q s).runway = s.runway := by
  have hpump : ∀ u, (pumpNotice u).runway = u.runway := by
    intro u
    unfold pumpNotice
    split <;> simp
  have hmod : ∀ p u, (modPort p arbitrate u).runway = u.runway := by simp
  cases q
  · exact (hpump _).trans (((hmod .pPort _).trans (hpump s)))
  · exact hmod .fPort s

theorem settled_takeIntake (f : Frame) (h : s.settled) : (takeIntake f s).settled :=
  settled_of_runway h (by simp)

theorem settled_takeHanded (f : Frame) (h : s.settled) : (takeHanded f s).settled :=
  settled_of_runway h (by simp)

/-! ### The commands of the blocks -/

section
variable {t : State}

theorem settled_ofRequest {act : State → State} (f : Frame) (h : s.settled)
    (ht : whenRunning (fun u => act (takeIntake f u)) s = .next t)
    (hact : ∀ u : State, u.settled → (act u).settled) : t.settled :=
  after_whenRunning (P := State.settled) h ht (hact _ (settled_takeIntake f h))

theorem settled_ofHanded {act : State → State} (f : Frame) (h : s.settled)
    (ht : whenRunning (fun u => act (takeHanded f u)) s = .next t)
    (hact : ∀ u : State, u.settled → (act u).settled) : t.settled :=
  after_whenRunning (P := State.settled) h ht (hact _ (settled_takeHanded f h))

theorem settled_ofPanel (f : Frame) (event : Byte) {act : Fin 24 → State → State} (h : s.settled)
    (ht : whenRunning (fun u => takePanel f event act (takeHanded f u)) s = .next t)
    (hact : ∀ b (u : State), u.settled → (act b u).settled) : t.settled := by
  refine settled_ofHanded (act := fun u => takePanel f event act u) f h ht fun u hu => ?_
  unfold takePanel
  repeat' split
  · exact hact _ _ hu
  · exact settled_panelAnswer hu

theorem settled_ofBedRequest (f : Frame) (code : Byte) {act : Fin 24 → State → State} (h : s.settled)
    (ht : whenRunning (fun u => forBed f code act (takeIntake f u)) s = .next t)
    (hact : ∀ b (u : State), u.settled → (act b u).settled) : t.settled :=
  settled_ofRequest (act := fun u => forBed f code act u) f h ht
    fun u hu => settled_forBed f code act (fun b => hact b u hu) hu

theorem settled_ofWrite {α : Type} {n : Nat} (f : Frame) (table : Byte) (parse : Bytes → Option α)
    (check : State → Fin n → α → Option Status) (write : Fin n → α → State → State) (h : s.settled)
    (ht : whenRunning (fun u => tableWrite f table parse (check u) write (takeIntake f u)) s = .next t)
    (hwrite : ∀ i e (u : State), u.settled → (write i e u).settled) : t.settled :=
  after_whenRunning (P := State.settled) h ht
    (settled_tableWrite f table parse _ write (fun i e => hwrite i e _ (settled_takeIntake f h))
      (settled_takeIntake f h))

/-- Every command of a block and of the line unit leaves no opportunity. -/
theorem settled_exec (i : Instr) (hi : ofSupervisor i = false) (h : s.settled) (ht : exec i s = .next t) :
    t.settled := by
  cases i
  case frameReceiveP run => cases ht; exact settled_of_runway h (receiveRun_runway ..)
  case frameReceiveF run => cases ht; exact settled_of_runway h (receiveRun_runway ..)
  case frameError q run => cases ht; exact settled_of_runway h (receiveRun_runway ..)
  case outputArbiter q =>
    cases ht
    split
    · exact settled_of_runway h (freePort_runway q s)
    · exact h
  case sample f => exact settled_ofHanded f h ht (fun _ => settled_takeSample f)
  case heatAck f => exact settled_ofHanded f h ht (fun _ => settled_takeHeatAck f)
  case panelStressed f => exact settled_ofPanel f 1#8 h ht (fun b _ => settled_panelStressed f b)
  case panelCastDone f => exact settled_ofPanel f 2#8 h ht (fun b _ => settled_panelCastDone f b)
  case panelDetensionAsk f => exact settled_ofPanel f 3#8 h ht (fun b _ => settled_panelDetensionAsk f b)
  case panelDetensioned f => exact settled_ofPanel f 4#8 h ht (fun b _ => settled_panelDetensioned f b)
  case panelBedClear f => exact settled_ofPanel f 5#8 h ht (fun b _ => settled_panelBedClear f b)
  case order f =>
    exact settled_ofHanded (act := fun u => settle (takeOrder f u)) f h ht fun _ _ => settle_settled _
  case reportPosition f | reportStarted f | reportLifted f | reportComplete f | reportAborted f =>
    exact settled_ofHanded f h ht (fun _ => settled_takeReport f _)
  case hookScan f => exact settled_ofHanded f h ht (fun _ => settled_takeScan f)
  case worksMinuteExpiry =>
    exact after_whenRunning (P := State.settled) (body := fun u => forEach permitMinute (advanceMinute u)) h ht
      (forEach_induction _ State.settled _ (fun b _ => settled_permitMinute b) (settled_of_runway h rfl))
  case probeMinute =>
    exact after_whenRunning (P := State.settled)
      (body := fun u => staleSurvey (forEach staleProbe (ageProbes u))) h ht
      (settled_probeMinute h)
  case curingMinute =>
    exact after_whenRunning (P := State.settled) (body := forEach treatBed) h ht
      (forEach_induction _ State.settled _ (fun b _ => settled_treatBed b) h)
  case pieceMinute =>
    exact after_whenRunning (P := State.settled)
      (body := fun u => ((u : State).piece.recs.map fun p : Piece => p.mark).foldl (fun v m => pieceMinute m v) u)
      h ht (List.foldlRecOn _ _ h fun _ hu m _ => settled_pieceMinute m hu)
  case refreshExpiry b =>
    exact after_whenRunning (P := State.settled) h ht (settled_of_runway h (by simp))
  case ackWaitExpiry b =>
    exact after_whenRunning (P := State.settled) h ht (settled_of_runway h (by simp))
  case silenceExpiry c =>
    exact after_whenRunning (P := State.settled) (body := fun u => settle (loseCrane c u)) h ht
      (settle_settled _)
  case waitExpiry c tag =>
    exact after_whenRunning (P := State.settled) (body := fun u => settle (expireWait c tag u)) h ht
      (settle_settled _)
  case orderLapse c =>
    exact after_whenRunning (P := State.settled) (body := fun u => settle (lapseOrder c u)) h ht
      (settle_settled _)
  case tableWriteBed f =>
    exact settled_ofWrite f tBed _ State.bedWriteCheck writeBed h ht
      (fun b e u hu => settled_of_runway hu (by simp [writeBed]))
  case tableWriteProbeMap f =>
    exact settled_ofWrite f tProbeMap _ State.probeWriteCheck writeProbe h ht (fun i e _ => settled_writeProbe i e)
  case tableWriteMix f =>
    exact settled_ofWrite f tMix _ State.mixWriteCheck setMix h ht (fun _ _ _ hu => hu)
  case tableWriteSchedule f =>
    exact settled_ofWrite f tSchedule _ (fun _ _ _ => none) setSchedule h ht (fun _ _ _ hu => hu)
  case tableWriteArea f =>
    exact settled_ofWrite f tArea _ State.areaWriteCheck writeArea h ht (fun _ _ _ _ => settle_settled _)
  case tableWriteService f =>
    exact settled_ofWrite f tService _ (fun _ _ _ => none) writeService h ht (fun g b _ => settled_writeService g b)
  case tableWriteCrane f =>
    exact settled_ofWrite f tCrane _ State.craneWriteCheck writeCrane h ht (fun _ _ _ hu => hu)
  case tableWriteRegion f =>
    exact settled_ofWrite f tRegion _ (fun u _ _ => u.quietCheck) setRegion h ht (fun _ _ _ hu => hu)
  case tableWriteBay f =>
    exact settled_ofWrite f tBay _ (fun u _ _ => u.quietCheck) setBay h ht (fun _ _ _ hu => hu)
  case tableWriteParameter f => exact settled_ofRequest f h ht (fun _ => settled_tableWriteParameter f)
  case tableRead f => exact settled_ofRequest f h ht (fun _ hu => (settled_readRequests f hu).1)
  case tablesReady f => exact settled_ofRequest f h ht (fun _ hu => settled_bare f _ _ (settled_tablesReady f hu) hu)
  case bedOrder f => exact settled_ofRequest f h ht (fun _ => settled_bedOrder f)
  case bedCancel f => exact settled_ofBedRequest f _ h ht (fun b _ => settled_cancelBed f b)
  case bedAbandon f => exact settled_ofBedRequest f _ h ht (fun b _ => settled_abandonBed f b)
  case bedPause f | bedResume f =>
    exact settled_ofBedRequest f _ h ht (fun _ _ hu => settled_reply (settled_of_runway hu (by simp)))
  case bedCool f => exact settled_ofBedRequest f _ h ht (fun b _ => settled_coolBed f b)
  case readBed f => exact settled_ofBedRequest f _ h ht (fun _ _ => settled_reply)
  case setBudget f => exact settled_ofRequest f h ht (fun _ => settled_setBudget f)
  case shed f => exact settled_ofRequest f h ht (fun _ => settled_shed f)
  case craneRelease f => exact settled_ofRequest f h ht (fun _ => settled_craneRelease f)
  case readCrane f => exact settled_ofRequest f h ht (fun _ hu => (settled_readRequests f hu).2.1)
  case censusBegin f => exact settled_ofRequest f h ht (fun _ => settled_censusBegin f)
  case censusEnd f => exact settled_ofRequest f h ht (fun _ => settled_censusEnd f)
  case pieceDeclare f => exact settled_ofRequest f h ht (fun _ => settled_pieceDeclare f)
  case pieceSetMaturity f => exact settled_ofRequest f h ht (fun _ => settled_pieceSetMaturity f)
  case pieceDrop f => exact settled_ofRequest f h ht (fun _ => settled_pieceDrop f)
  case readPiece f => exact settled_ofRequest f h ht (fun _ hu => (settled_readRequests f hu).2.2.1)
  case readSlot f => exact settled_ofRequest f h ht (fun _ hu => (settled_readRequests f hu).2.2.2)
  case probeForce f => exact settled_ofRequest f h ht (fun _ => settled_probeForce f)
  case readFlags f => exact settled_ofRequest f h ht (fun _ hu => settled_bare f _ _ (settled_reply hu) hu)
  case readClearFlags f =>
    exact settled_ofRequest f h ht (fun _ hu => settled_bare f _ _ (settled_reply (settled_clearFlags hu)) hu)
  case setCause f => exact settled_ofRequest f h ht (fun _ => settled_setCause f)
  case readCounters f => exact settled_ofRequest f h ht (fun _ hu => settled_bare f _ _ (settled_reply hu) hu)
  case unknownRequest f => exact settled_ofRequest f h ht (fun _ => settled_reply)
  case restart | clearAll | powerLoss | resetnAssert | backupFall | powerUp | resetnRelease =>
    exact absurd hi (by simp [ofSupervisor])

end

/-! ### Starts -/

theorem settled_startNotices (x : StartKind) (h : s.settled) : (startNotices x s).settled :=
  settled_of_runway h (by simp [startNotices, clearNotices])

theorem settled_recordStart (x : StartKind) (h : s.settled) : (recordStart x s).settled :=
  settled_of_runway h rfl

theorem settled_warmEffects (s : State) : (warmEffects s).settled := by
  have hyard : (warmStock (warmRunway s)).settled := rfl
  have hpieces : ∀ hooks u, (warmPieces hooks u).runway = u.runway := by
    intro hooks u
    unfold warmPieces
    dsimp only
    split <;> simp
  have hcure : ∀ u, (forEach warmCure u).runway = u.runway := fun u =>
    forEach_keeps u State.runway _ fun b v => by
      unfold warmCure
      dsimp only
      repeat' split
      all_goals simp
  have hheat : ∀ u, (warmHeat u).runway = u.runway := fun u =>
    forEach_keeps u State.runway _ fun b v => by simp [warmHeatBed]
  have hprobes : ∀ u, (warmProbes u).runway = u.runway := fun u =>
    forEach_keeps _ State.runway _ fun b v => by
      unfold blindAtStart
      split <;> simp
  refine settled_of_runway hyard ?_
  simp only [warmEffects, hprobes, hheat, hcure]
  exact hpieces _ _

theorem settled_stopBy (x : StopKind) (h : s.settled) : (stopBy x s).settled := by
  cases x
  · exact (rfl : (powerFalls s).settled)
  · exact settled_of_runway h (by simp [stopBy, resetnFalls, setResetHeld, cutTransmission])

theorem settled_carryOut (steps : List (State → State)) (cut : Option StartCut)
    (hsteps : ∀ act ∈ steps, ∀ u : State, u.settled → (act u).settled) (h : s.settled) :
    (carryOut steps cut s).settled := by
  unfold carryOut
  split
  · exact inTurn_keeps (P := State.settled) _ hsteps h
  · next c =>
    have htaken := inTurn_keeps (P := State.settled) (steps.take (min 4 c.steps))
      (fun act hact => hsteps act (List.mem_of_mem_take hact)) h
    refine settled_stopBy _ ?_
    unfold levelAtStop
    split
    · exact htaken
    · exact htaken

theorem settled_startPart (pins : StartPins) (clear : Bool) (h : s.settled) :
    (startPart pins clear s).settled := by
  unfold startPart
  dsimp only
  split
  · have hpass : (passStart (readStrap pins.strap clear s)).settled := rfl
    unfold passThrough
    split
    · exact hpass
    · exact settled_stopBy _ hpass
  · refine settled_carryOut _ _ (fun act hact u hu => ?_) h
    simp only [coldSteps, List.mem_cons, List.not_mem_nil, or_false] at hact
    rcases hact with rfl | rfl | rfl | rfl | rfl | rfl
    · exact hu
    · exact hu
    · exact settled_startNotices _ hu
    · exact (rfl : (coldBlocks u).settled)
    · exact hu
    · exact settled_recordStart _ hu
  · refine settled_carryOut _ _ (fun act hact u hu => ?_) h
    simp only [warmSteps, List.mem_cons, List.not_mem_nil, or_false] at hact
    rcases hact with rfl | rfl | rfl | rfl | rfl | rfl
    · exact hu
    · exact hu
    · exact settled_startNotices _ hu
    · exact settled_warmEffects u
    · exact hu
    · exact settled_recordStart _ hu

theorem settled_supervisor {t : State} (i : Instr) (hi : ofSupervisor i = true) (h : s.settled)
    (ht : exec i s = .next t) : t.settled := by
  cases i
  case powerLoss =>
    cases ht
    split
    · exact (rfl : (powerFalls s).settled)
    · exact h
  case resetnAssert => cases ht; exact settled_stopBy .resetn h
  case backupFall =>
    cases ht
    split
    · exact h
    · exact h
  case powerUp pins =>
    cases ht
    split
    · exact h
    dsimp only
    split
    · exact h
    · exact settled_startPart (s := setPowered true s) pins false h
  case resetnRelease pins =>
    cases ht
    split
    · dsimp only
      split
      · exact settled_startPart (s := setResetHeld false s) pins false h
      · exact h
    · exact h
  case restart f pins =>
    exact settled_ofRequest (act := fun u => bare f qRestart (startPart pins false) u) f h ht
      fun _ hu => settled_bare f _ _ (settled_startPart pins false hu) hu
  case clearAll f pins =>
    exact settled_ofRequest (act := fun u => bare f qClearAll (startPart pins true) u) f h ht
      fun _ hu => settled_bare f _ _ (settled_startPart pins true hu) hu
  all_goals exact absurd hi (by simp [ofSupervisor])

theorem settled_step {t : State} (h : s.settled) (ht : step s = .next t) : t.settled := by
  unfold step at ht
  split at ht
  · next c rest _ =>
    have hrest : ({ s with pending := rest } : State).settled := h
    cases hc : ofSupervisor c
    · exact settled_exec c hc hrest ht
    · exact settled_supervisor c hc hrest ht
  · cases ht
    unfold tickSecond
    split
    · exact settled_of_runway (s := tickTimers s) h (by simp)
    · exact h

end

/-- Settles O59: the queue and the permit timers by the changes of each unit, the opportunities by the
operation that takes them all. -/
theorem queueLawsKept : Obligations.QueueLawsKept := by
  unfold Obligations.QueueLawsKept
  exact fun _ _ ht => ⟨fun h => queueLaw_onBlocks.step h ht, fun h => permitsIdle_onBlocks.step h ht,
    fun h => settled_step h ht⟩

end Sys2Proof.QueueLawProofs
end

section
/-! The machine as a whole: its step, the laws of its reset state, and what it does while it is stopped. -/
namespace Sys2Proof.MachineProofs

open Sys2Proof Sys2Proof.Machine Sys2Proof.StepProofs

/-- Settles O1. -/
theorem stepRunsFrontCommand : Obligations.StepRunsFrontCommand := by
  unfold Obligations.StepRunsFrontCommand
  intro c s
  rfl

/-! ### The state after reset -/

/-- The blocks of the reset state are those of a cold start. -/
theorem coldBlocks_reset : coldBlocks State.reset = State.reset := rfl

/-- Settles O60: the laws of the blocks hold after a cold start, and the line and notice units are evaluated. -/
theorem resetHasLaws : Obligations.ResetHasLaws := by
  unfold Obligations.ResetHasLaws
  rw [← coldBlocks_reset]
  have hrunway : (coldBlocks State.reset).runwayLaw :=
    RunwayLawProofs.noCranes_runwayLaw (RunwayLawProofs.coldBlocks_crane _)
  have hground : (coldBlocks State.reset).groundLaw :=
    GroundLawProofs.groundLaw_of_noOrder fun c => by rw [RunwayLawProofs.coldBlocks_crane]
  have hpermits : (coldBlocks State.reset).permitsIdle := fun b _ => by
    have hrec : (coldBlocks State.reset).bedRec b = {} := tget_tableOf ..
    rw [hrec]
  have hbounded : (coldBlocks State.reset).lineBounded := by decide
  have hmarked : (coldBlocks State.reset).ringMarked := ⟨nofun, nofun⟩
  have hattn : (coldBlocks State.reset).attnFollows := by decide
  exact ⟨hbounded, hmarked, hattn, HeatLawProofs.heatLaw_cold _, BlockLawProofs.cureLaw_cold _,
    ⟨List.Pairwise.nil, fun _ hp => absurd hp List.not_mem_nil, List.nodup_nil⟩, hrunway, hground,
    YardLawProofs.yardLaw_cold _, QueueLawProofs.queueLaw_empty rfl, hpermits, rfl⟩

/-! ### A stopped part, and pass-through -/

/-- While the part is stopped no run of bytes is taken. -/
theorem receiveRun_notOperating {s : State} (hop : s.operating = false) (q : Port) (run : Bytes) :
    receiveRun q run s = s := by
  simp [receiveRun, hop]

/-- In pass-through a failed run of bytes is dropped. -/
theorem receiveRun_pass_error {s : State} (hrun : s.running = false) {run : Bytes} {e : RxError}
    (hjudge : judge run = .error e) (q : Port) : receiveRun q run s = s := by
  unfold receiveRun
  simp only [hjudge, hrun]
  split <;> rfl

/-- In pass-through a good frame is carried, or dropped. -/
theorem receiveRun_pass_ok {s : State} (hop : s.operating = true) (hrun : s.running = false) {run : Bytes}
    {f : Frame} (hjudge : judge run = .ok f) (q : Port) : receiveRun q run s = passFate q f s := by
  simp [receiveRun, hop, hjudge, hrun]

theorem running_passThrough {s : State} (hkind : s.sup.kind = .passThrough) : s.running = false := by
  simp [State.running, hkind]

/-- Settles O10. -/
theorem stoppedAndPassThrough : Obligations.StoppedAndPassThrough := by
  unfold Obligations.StoppedAndPassThrough
  refine ⟨fun c s hrun => ⟨exec_stopped c hrun, fun hop run q => ?_⟩, fun s run hop hkind => ?_⟩
  · have hreceive := fun p => congrArg (Host.Outcome.next : State → Out) (receiveRun_notOperating hop p run)
    refine ⟨hreceive .pPort, hreceive .fPort, hreceive q, ?_⟩
    simp [exec, execOutputArbiter, hop]
  · have hrun := running_passThrough hkind
    refine ⟨fun e hjudge => ?_, fun f hjudge => ?_⟩
    · have hreceive := fun p => congrArg (Host.Outcome.next : State → Out) (receiveRun_pass_error hrun hjudge p)
      exact ⟨hreceive .pPort, hreceive .fPort, hreceive .pPort, hreceive .fPort⟩
    · have hreceive := fun p => congrArg (Host.Outcome.next : State → Out) (receiveRun_pass_ok hop hrun hjudge p)
      refine ⟨(hreceive .pPort).trans rfl, (hreceive .fPort).trans ?_⟩
      cases hmark : f.flags.getLsbD 0
      · have hclear : ringMark f = false := hmark
        by_cases hroom : s.line.portP.forward.length < 8
        · simp [passFate, hclear, passForward, modPort, State.port, Config.forwardDepth, hroom]
        · simp [passFate, hclear, passForward, State.port, Config.forwardDepth, hroom]
      · have hset : ringMark f = true := hmark
        simp [passFate, hset]

/-! ### Every command has a next state -/

theorem keepsPending (l : List Instr) : KeptAtStarts fun s => s.pending = l where
  line h := by cases h <;> simp
  plain h hs := h.pending.trans hs
  heatRecs _ _ h := h
  handRequest _ _ _ h := by simpa
  budget _ h := by simpa [writeBudget]
  shed _ h := by simpa [writeShed]
  enterBed _ _ _ h := by simpa
  bedRecs _ _ h := h
  bedEntry _ _ _ h := h
  thermal _ _ _ h := h
  pieces _ _ h := h
  erase _ h := h
  create _ _ _ _ h := h
  area _ _ _ h := h
  areaWrite _ _ _ _ h := h
  slot _ _ _ h := h
  admission _ _ h := by simpa
  place _ _ _ _ _ _ h := by simpa
  release {s} c o _ h := by
    have hclaim : (dropClaim o.task s).pending = s.pending := by
      unfold dropClaim
      split <;> rfl
    simpa [hclaim]
  cranes _ _ h := h
  region _ _ _ h := h
  waiting _ _ h := h
  cleared _ h := h
  attn _ h := h
  kind _ h := h
  cold h := h
  warmYard h := h
  warmBeds h := h

/-- Settles O3: the queue of waiting commands is among what every command keeps. -/
theorem everyCommandCompletes : Obligations.EveryCommandCompletes := by
  unfold Obligations.EveryCommandCompletes
  intro c s
  obtain ⟨t, ht⟩ := exec_next c s
  exact ⟨t, ht, (keepsPending s.pending).exec c rfl ht⟩

end Sys2Proof.MachineProofs
end

section
/-! A flag once raised stays to the end of a command, but for READ_CLEAR_FLAGS and a start. -/
namespace Sys2Proof.FlagProofs

open Sys2Proof Sys2Proof.Machine Sys2Proof.StepProofs Sys2Proof.LineLawProofs

/-- A cause's flag is set. -/
def flagSet (c : Cause) (s : State) : Prop := (s.cause c).flag = true

theorem flagSet_onLine (c : Cause) : OnLine (flagSet c) where
  line {s t} h hflag := by
    cases h with
    | causes x hraised => exact hraised c hflag
    | port q | lane q | forward q => cases q <;> exact hflag
    | urgent | head | intake | queue => exact hflag
  reads h hflag := by rw [flagSet, State.cause, h.notice]; exact hflag

theorem flagSet_kept (c : Cause) : Kept (flagSet c) := (flagSet_onLine c).kept

/-- A cause recorded has its flag set, whatever its mask (R156). -/
theorem recordCause_flagSet (c : Cause) (u : Subject) (v : Int) (n : Nat) (s : State) :
    flagSet c (recordCause c u v n s) := by
  have hset : ∀ d (t : State), flagSet c t → flagSet c (modCause d (fun k => { k with flag := true }) t) := by
    intro d t ht
    rw [flagSet, modCause_cause]
    split
    · rfl
    · exact ht
  have hself : flagSet c (modCause c (fun k => { k with flag := true }) s) := by simp [flagSet]
  unfold recordCause
  dsimp only
  split
  · exact hself
  split
  · exact hset .noticeOverflow (setNoticeQueue _ (modCause c _ s)) hself
  · exact hself

theorem raise2_flagSet (c : Cause) (u : Subject) (v : Int) (n : Nat) (s : State) :
    flagSet c (raise2 c u v n s) :=
  (flagSet_onLine c).lineKept.offerNotice (recordCause_flagSet c u v n s)

theorem raise_flagSet (c : Cause) (u : Subject) (v : Int) (s : State) : flagSet c (raise c u v s) :=
  raise2_flagSet c u v 0 s

end Sys2Proof.FlagProofs
end

section
/-!
SUPPORT. How a request is answered: its payload's fields read back, the frame taken from the intake queue, the act,
and the reply with room in the lane. A request's act is carried past the taking of the frame by
`takeIntake_comm`, so that its next state is `answered` of what the act does to the state before.
-/
namespace Sys2Proof.RequestProofs

open Sys2Proof Sys2Proof.Machine

/-! ### Fields of a payload -/

theorem byteOf_toNat_mod (n : Nat) : (byteOf n).toNat = n % 256 := BitVec.toNat_ofNat ..

theorem byteOf_toNat_of_lt {n : Nat} (h : n < 256) : (byteOf n).toNat = n :=
  CuringRequestProofs.byteOf_toNat h

theorem byteOf_toNat_self (x : Byte) : byteOf x.toNat = x := BitVec.ofNat_toNat ..

theorem idx?_byteOf {n : Nat} (i : Fin n) (hn : n ≤ 256) : idx? n (byteOf i.val).toNat = some i := by
  rw [byteOf_toNat_of_lt (i.isLt.trans_le hn), CuringRequestProofs.idx?_val]

theorem dec2_enc {n : Nat} (h : n < 65536) : dec2 (byteOf (n / 256)) (byteOf n) = n := by
  rw [dec2, byteOf_toNat_mod, byteOf_toNat_mod]
  omega

theorem dec4_enc {n : Nat} (h : n < 4294967296) :
    dec4 (byteOf (n / 16777216)) (byteOf (n / 65536)) (byteOf (n / 256)) (byteOf n) = n := by
  simp only [dec4, byteOf_toNat_mod]
  omega

/-! ### Equal states -/

/-- States are equal when every block is. -/
theorem state_eq {s t : State} (line : t.line = s.line) (probe : t.probe = s.probe)
    (curing : t.curing = s.curing) (heat : t.heat = s.heat) (bed : t.bed = s.bed)
    (piece : t.piece = s.piece) (stock : t.stock = s.stock) (runway : t.runway = s.runway)
    (mgmt : t.mgmt = s.mgmt) (notice : t.notice = s.notice) (sup : t.sup = s.sup)
    (freeCount : t.freeCount = s.freeCount) (pending : t.pending = s.pending) : t = s := by
  cases s
  cases t
  simp_all

/-! ### The frame taken from the intake queue -/

/-- The intake queue after a request has been taken from its head, where it stands there (R152). -/
def intakeWithout (f : Frame) (l : List Frame) : List Frame := if l.head? = some f then l.tail else l

theorem takeIntake_line (f : Frame) (s : State) : takeIntake f s =
    { s with line := { s.line with intake := intakeWithout f s.line.intake } } := by
  unfold takeIntake intakeWithout
  split <;> rfl

section
variable {s t : State} {f : Frame} {code : Byte} {st : Status} {contents : Bytes}

/-- An act that neither reads nor writes the line unit does not see the frame taken. -/
theorem takeIntake_comm {act : State → State}
    (hact : ∀ u l, act { u with line := l } = { act u with line := l }) :
    act (takeIntake f s) = takeIntake f (act s) := by
  have hline : (act s).line = s.line := by rw [hact s s.line]
  rw [takeIntake_line, hact, takeIntake_line, hline]

/-- A command that takes a request while the part runs. -/
theorem exec_request {act : State → State} (hrun : s.running = true) (hact : act (takeIntake f s) = t) :
    whenRunning (fun u => act (takeIntake f u)) s = .next t := by
  rw [whenRunning_running _ _ hrun, hact]

/-- An act that replies without a change. -/
theorem reply_unchanged (hroom : s.replyRoom) :
    reply f code st contents (takeIntake f s) = answered f code st contents s :=
  CuringRequestProofs.reply_takeIntake hroom st contents

/-- An act that changes the state and replies. -/
theorem reply_changed {act : State → State}
    (hact : ∀ u l, act { u with line := l } = { act u with line := l }) (hroom : s.replyRoom) :
    reply f code st contents (act (takeIntake f s)) = answered f code st contents (act s) := by
  have hline : (act s).line = s.line := by rw [hact s s.line]
  rw [takeIntake_comm hact]
  exact reply_unchanged (by rw [State.replyRoom, hline]; exact hroom)

/-- A reply into a lane with room (R147, R152). -/
theorem reply_room (hroom : s.replyRoom) :
    reply f code st contents s =
      withPlantFrame (plantFrame s f.src kMgmtReply f.seq (code :: st.code :: contents)) s := by
  have hlane : s.laneRoom .pPort = true := decide_eq_true hroom
  rw [reply, offerNormal_room _ _ _ hlane]
  rfl

theorem bare_of_code {act : State → State} {x : Byte} (h : f.payload = [x]) : bare f code act s = act s := by
  simp [bare, h]

end

end Sys2Proof.RequestProofs
end

section
/-! The requests that read (O16). -/
namespace Sys2Proof.ReadProofs

open Sys2Proof Sys2Proof.Machine Sys2Proof.RequestProofs

section
variable {s : State} {f : Frame}

theorem bedContents_takeIntake (b : Fin 24) : (takeIntake f s).bedContents b = s.bedContents b := by
  rw [takeIntake_line]; rfl

theorem craneContents_takeIntake (c : Fin 4) : (takeIntake f s).craneContents c = s.craneContents c := by
  rw [takeIntake_line]; rfl

theorem slotContents_takeIntake (n : Fin 1024) : (takeIntake f s).slotContents n = s.slotContents n := by
  rw [takeIntake_line]; rfl

theorem findPiece_takeIntake (m : Nat) : (takeIntake f s).findPiece m = s.findPiece m := by
  rw [takeIntake_line]; rfl

theorem pieceContents_takeIntake (p : Piece) : (takeIntake f s).pieceContents p = s.pieceContents p := by
  rw [takeIntake_line]; rfl

theorem flagContents_takeIntake : (takeIntake f s).flagContents = s.flagContents := by
  rw [takeIntake_line]; rfl

theorem counterContents_takeIntake : (takeIntake f s).counterContents = s.counterContents := by
  rw [takeIntake_line]; rfl

theorem tableEntry_takeIntake (table : Byte) (n : Nat) :
    (takeIntake f s).tableEntry table n = s.tableEntry table n := by
  rw [takeIntake_line]; rfl

end

/-- Settles O16: each request replies with its contents, which the taking of the frame does not change. -/
theorem readsAnswerOnly : Obligations.ReadsAnswerOnly := by
  unfold Obligations.ReadsAnswerOnly
  intro s f hrun hroom
  refine ⟨?bed, ?largeBed, ?crane, ?slot, ?piece, ?flags, ?counters, ?table, ?unknown⟩
  case bed =>
    intro b hpayload
    refine exec_request (act := fun u => forBed f qReadBed (fun b u => reply f qReadBed .ok (u.bedContents b) u) u) hrun ?_
    simp only [forBed, hpayload, idx?_byteOf b (by decide), bedContents_takeIntake]
    exact reply_unchanged hroom
  case largeBed =>
    exact fun x hpayload hx => CuringRequestProofs.forBed_of_large hx hrun hroom hpayload
  case crane =>
    intro c hpayload
    refine exec_request (act := readCrane f) hrun ?_
    simp only [readCrane, hpayload, idx?_byteOf c (by decide), craneContents_takeIntake]
    exact reply_unchanged hroom
  case slot =>
    intro n hpayload
    refine exec_request (act := readSlot f) hrun ?_
    have hn : n.val < 65536 := by omega
    simp only [readSlot, hpayload, enc2, dec2_enc hn, CuringRequestProofs.idx?_val, slotContents_takeIntake]
    exact reply_unchanged hroom
  case piece =>
    intro m hpos hm hpayload
    refine exec_request (act := readPiece f) hrun ?_
    simp only [readPiece, hpayload, enc4, dec4_enc hm, hpos.ne', if_false, findPiece_takeIntake]
    cases s.findPiece m with
    | some p =>
      simp only [pieceContents_takeIntake]
      exact reply_unchanged hroom
    | none => exact reply_unchanged hroom
  case flags =>
    intro hpayload
    refine exec_request (act := bare f qReadFlags fun u => reply f qReadFlags .ok u.flagContents u) hrun ?_
    rw [bare_of_code hpayload, flagContents_takeIntake]
    exact reply_unchanged hroom
  case counters =>
    intro hpayload
    refine exec_request (act := bare f qReadCounters fun u => reply f qReadCounters .ok u.counterContents u) hrun ?_
    rw [bare_of_code hpayload, counterContents_takeIntake]
    exact reply_unchanged hroom
  case table =>
    intro table index entry hpayload hentry
    refine exec_request (act := tableRead f) hrun ?_
    simp only [tableRead, hpayload, tableEntry_takeIntake, hentry]
    split
    · exact reply_unchanged hroom
    · exact reply_unchanged hroom
  case unknown => exact exec_request (act := fun u => reply f (requestCode f) .unknownRequest [] u) hrun (reply_unchanged hroom)

end Sys2Proof.ReadProofs
end

section
/-! The line unit and the notice unit by themselves: O2, O8, O9 and O12. -/
namespace Sys2Proof.LineProofs

open Sys2Proof Sys2Proof.Machine Sys2Proof.RequestProofs Sys2Proof.FlagProofs

/-! ### A failed frame (R141, R142) -/

theorem failPort_eq (e : RxError) (run : Bytes) (u : PortUnit) : failPort e run u =
    { u with total := min 65535 (u.total + 1), consecutive := min 255 (u.consecutive + 1)
             latch := some (u.latch.getD { error := e, source := run[1]?, kind := run[2]? }) } := by
  unfold failPort
  cases u.latch <;> rfl

theorem modPort_congr (q : Port) {g h : PortUnit → PortUnit} (s : State) (hgh : g (s.port q) = h (s.port q)) :
    modPort q g s = modPort q h s := by
  cases q
  · simp only [modPort]; rw [show g s.line.portP = h s.line.portP from hgh]
  · simp only [modPort]; rw [show g s.line.portF = h s.line.portF from hgh]

/-- Settles O8. -/
theorem failedFrameCounted : Obligations.FailedFrameCounted := by
  unfold Obligations.FailedFrameCounted
  intro s q run e hrun hjudge u n t
  have hop : s.operating = true := (Bool.and_eq_true_iff.1 hrun).1
  have hexec : exec (.frameError q run) s = .next (failedFrame q e run s) := by
    simp [exec, execFrameError, receiveRun, hop, hjudge, hrun]
  have hport : modPort q (failPort e run) s = t := modPort_congr q s (failPort_eq e run _)
  have hcount : (t.port q).consecutive = n := by simp [t]
  rw [hexec, failedFrame, hport, hcount]
  exact ⟨fun hcross => congrArg _ (if_pos hcross), fun hnot => congrArg _ (if_neg hnot)⟩

/-! ### The arbiter (R149) -/

theorem pumpNotice_empty {s : State} (h : s.notice.queue = []) : pumpNotice s = s := by
  have hnone : offerNotice s = s := by
    unfold offerNotice
    rw [h]
    cases s.mgmt.noticeStation <;> rfl
  unfold pumpNotice
  split
  · exact hnone
  · rfl

theorem exec_outputArbiter {s : State} {q : Port} (hop : s.operating = true)
    (hqueue : q = .pPort → s.notice.queue = []) :
    exec (.outputArbiter q) s = .next (modPort q arbitrate s) := by
  simp only [exec, execOutputArbiter, hop, if_true]
  cases q
  · have hempty := hqueue rfl
    rw [freePort, pumpNotice_empty hempty, pumpNotice_empty (by simpa using hempty)]
  · rfl

/-- Settles O9. -/
theorem arbiterChooses : Obligations.ArbiterChooses := by
  unfold Obligations.ArbiterChooses
  intro s q hop hqueue u
  have hexec {g : PortUnit → PortUnit} (h : arbitrate u = g u) :
      exec (.outputArbiter q) s = .next (modPort q g s) := by
    rw [exec_outputArbiter hop hqueue, modPort_congr q s h]
  refine ⟨fun f rest hurgent => hexec (by simp [arbitrate, hurgent]), fun hurgent => ⟨?_, ?_, ?_, ?_⟩⟩
  · intro f rest hforward hnormal hrun
    obtain ⟨n, more, hlane⟩ := List.exists_cons_of_ne_nil hnormal
    exact hexec (by simp [arbitrate, hurgent, hforward, hlane, hrun, sendForward])
  · intro n more hforward hnormal hrun
    obtain ⟨f, rest, hqueued⟩ := List.exists_cons_of_ne_nil hforward
    exact hexec (by simp [arbitrate, hurgent, hqueued, hnormal, hrun.not_gt, sendNormal])
  · exact fun f rest hforward hnormal =>
      hexec (by simp [arbitrate, hurgent, hforward, hnormal, sendForward])
  · exact fun n more hforward hnormal =>
      hexec (by simp [arbitrate, hurgent, hforward, hnormal, sendNormal])

/-! ### A raised cause (R156), and a normal lane (R147) -/

theorem recordCause_only (c : Cause) (sub : Subject) (v : Int) (n : Nat) (s : State) :
    recordCause c sub v n s = { s with notice := (recordCause c sub v n s).notice } := by
  apply state_eq <;> simp

theorem recordCause_unqueued {s : State} {c : Cause} (h : (s.cause c).masked = true ∨ c = .noticeOverflow)
    (sub : Subject) (v : Int) (n : Nat) :
    recordCause c sub v n s = updateAttn (modCause c (fun k => { k with flag := true }) s) :=
  if_pos h.symm

/-- An unmasked cause raised where the queue has room. -/
theorem recordCause_queued {s : State} {c : Cause} (hunmasked : (s.cause c).masked = false)
    (hc : c ≠ .noticeOverflow) (hroom : s.notice.queue.length < 32) (sub : Subject) (v : Int) (n : Nat) :
    recordCause c sub v n s =
      updateAttn (setNoticeQueue (s.notice.queue ++ [NoticeQueueProofs.noticeOf c sub v n s])
        (modCause c (fun k => { k with flag := true }) s)) := by
  have hrecord : ¬(c = .noticeOverflow ∨ (s.cause c).masked = true) := by simp [hc, hunmasked]
  have hqueue : queueNotice (NoticeQueueProofs.noticeOf c sub v n s) s.notice.queue =
      (s.notice.queue ++ [NoticeQueueProofs.noticeOf c sub v n s], false) := if_pos hroom
  rw [NoticeQueueProofs.noticeOf] at hqueue
  simp [recordCause, hrecord, hqueue, NoticeQueueProofs.noticeOf]

theorem recordCause_cause_ne {c d : Cause} (hd : d ≠ c) (hoverflow : d ≠ .noticeOverflow) (sub : Subject)
    (v : Int) (n : Nat) (s : State) : (recordCause c sub v n s).cause d = s.cause d := by
  unfold recordCause
  dsimp only
  split
  · simp [hd]
  split
  · simp [hd, hoverflow]
  · simp [hd]

/-- A lane of port P that is full takes no notice. -/
theorem offerNotice_fullLane {s : State} (h : 16 ≤ s.line.portP.normal.length) : offerNotice s = s := by
  unfold offerNotice
  split
  · rw [if_pos (by simp [Config.normalDepth, h])]
  · rfl

theorem offerNotice_portF (s : State) : (offerNotice s).line.portF = s.line.portF := by
  unfold offerNotice
  split
  · split <;> rfl
  · rfl

theorem raise_portF (c : Cause) (sub : Subject) (v : Int) (s : State) :
    (raise c sub v s).line.portF = s.line.portF := by
  rw [raise, raise2, offerNotice_portF, (recordCause_keeps ..).1]

theorem raise_fullLane {s : State} (h : 16 ≤ s.line.portP.normal.length) (c : Cause) (sub : Subject) (v : Int) :
    raise c sub v s = recordCause c sub v 0 s := by
  refine offerNotice_fullLane ?_
  rwa [(recordCause_keeps ..).1]

/-- Settles O12. -/
theorem raisedCauseRecorded : Obligations.RaisedCauseRecorded := by
  unfold Obligations.RaisedCauseRecorded
  refine ⟨fun s c sub v second => ⟨recordCause_flagSet c sub v second s,
    fun d hd hoverflow => recordCause_cause_ne hd hoverflow sub v second s, fun hnone => ?_,
    fun hunmasked hc hroom => ?_, recordCause_only c sub v second s⟩, ?room, ?full⟩
  · rw [recordCause_unqueued hnone]
    rfl
  · rw [recordCause_queued hunmasked hc hroom]
    rfl
  case room => exact fun s q f hroom => offerNormal_room s q f (decide_eq_true hroom)
  case full =>
    intro s q f hfull
    have hlane : offerNormal q f s = raise .insertOverflow (.port q) f.kind.toNat s :=
      offerNormal_full s q f (decide_eq_false (Nat.not_lt.2 hfull))
    refine ⟨hlane ▸ raise_flagSet .., ?_, ?_⟩
    · rw [hlane]
      cases q
      · exact congrArg PortUnit.normal
          ((congrArg (fun t : State => t.line.portP) (raise_fullLane hfull ..)).trans
            (congrArg LineUnit.portP (recordCause_keeps ..).1))
      · exact congrArg PortUnit.normal (raise_portF ..)
    · rw [hlane]
      apply state_eq <;> simp

/-! ### A second without a command (log entry 11) -/

theorem mem_of_firstNotice {q : List Notice} {n : Notice} (h : firstNotice q = some n) : n ∈ q := by
  obtain ⟨pre, post, hq, -, -⟩ := NoticeQueueProofs.firstNotice_split h
  simp [hq]

/-- The first record is the one of the highest class that no other of that class precedes. -/
theorem firstNotice_of_split {pre post : List Notice} {n : Notice} (hpre : ∀ m ∈ pre, m.cls < n.cls)
    (hpost : ∀ m ∈ post, m.cls ≤ n.cls) : firstNotice (pre ++ n :: post) = some n := by
  induction pre with
  | nil =>
    rw [List.nil_append, firstNotice]
    split
    · rfl
    · next m hm => rw [if_neg (hpost m (mem_of_firstNotice hm)).not_gt]
  | cons m pre ih =>
    rw [List.cons_append, firstNotice, ih fun x hx => hpre x (List.mem_cons_of_mem _ hx)]
    exact if_pos (hpre m List.mem_cons_self)

theorem erase_of_split {pre post : List Notice} {n : Notice} (hpre : ∀ m ∈ pre, m.cls < n.cls) :
    (pre ++ n :: post).erase n = pre ++ post := by
  rw [List.erase_append_right _ fun hn => absurd (hpre n hn) (lt_irrefl _), List.erase_cons_head]

/-- Where no notice can be offered the second changes the timers alone. -/
theorem offerNotice_none {s : State} (h : s.mgmt.noticeStation = none ∨ s.notice.queue = []
    ∨ (∃ f ∈ s.line.portP.normal, f.kind = kNotice) ∨ 16 ≤ s.line.portP.normal.length) :
    offerNotice s = s := by
  unfold offerNotice
  split
  · next dst n hdst hn =>
    have hoff : (s.noticeInLane || decide (Config.normalDepth ≤ s.line.portP.normal.length)) = true := by
      rcases h with h | h | h | h
      · rw [h] at hdst; cases hdst
      · rw [h] at hn; cases hn
      · simpa [State.noticeInLane] using .inl h
      · simp [Config.normalDepth, h]
    rw [if_pos hoff]
  · rfl

/-- The first record offered into a lane with room and without a notice. -/
theorem offerNotice_some {s : State} {dst : Station} {pre post : List Notice} {n : Notice}
    (hdst : s.mgmt.noticeStation = some dst) (hqueue : s.notice.queue = pre ++ n :: post)
    (hpre : ∀ m ∈ pre, m.cls < n.cls) (hpost : ∀ m ∈ post, m.cls ≤ n.cls)
    (hlane : ∀ f ∈ s.line.portP.normal, f.kind ≠ kNotice) (hroom : s.line.portP.normal.length < 16) :
    offerNotice s = { s with
      notice := { s.notice with queue := pre ++ post }
      line := { s.line with
        seq := s.line.seq + 1#8
        portP := { s.line.portP with normal := s.line.portP.normal ++
          [{ dst := dst, src := s.sup.station, kind := 0x0D#8, seq := s.line.seq + 1#8
             flags := 0#8, payload := n.enc }] } } } := by
  have hnone : (s.noticeInLane || decide (Config.normalDepth ≤ s.line.portP.normal.length)) = false := by
    simpa [State.noticeInLane, Config.normalDepth, hroom] using hlane
  unfold offerNotice
  rw [hdst, hqueue, firstNotice_of_split hpre hpost]
  simp only [hnone, erase_of_split hpre]
  rfl

/-- Settles O2: the timers, and then the notice unit. -/
theorem idleSecondRunsTimers : Obligations.IdleSecondRunsTimers := by
  unfold Obligations.IdleSecondRunsTimers
  intro s hpending u
  have hstep : step s = .next (tickSecond s) := by rw [step, hpending]
  have htimers : tickTimers s = u := rfl
  rw [hstep, tickSecond, htimers]
  refine ⟨fun hstopped => by rw [hstopped]; rfl, fun hrun => ?_⟩
  rw [hrun, if_pos rfl]
  refine ⟨rfl, fun hnone => congrArg _ (offerNotice_none hnone), ?_⟩
  intro dst pre n post hdst hqueue hpre hpost hlane hroom
  exact congrArg _ (offerNotice_some hdst hqueue hpre hpost hlane hroom)

end Sys2Proof.LineProofs
end

section
/-! Where a HALT is placed (R148), and the wait it drops (R82): O11. -/
namespace Sys2Proof.HaltProofs

open Sys2Proof Sys2Proof.Machine Sys2Proof.RequestProofs Sys2Proof.LineProofs

/-! ### The frame displaced -/

section
variable {lane pre post : List Frame} {h x : Frame}

theorem takeHeat_of_split (hkind : h.kind = kHeat) (hpre : ∀ y ∈ pre, y.kind ≠ kHeat) :
    takeHeat (pre ++ h :: post) = some (h, pre ++ post) := by
  have hnone : pre.find? (fun y => decide (y.kind = kHeat)) = none := by simpa using hpre
  have herase : (pre ++ h :: post).eraseP (fun y => decide (y.kind = kHeat)) = pre ++ post := by
    rw [List.eraseP_append_right _ (by simpa using hpre), List.eraseP_cons_of_pos (by simpa using hkind)]
  simp [takeHeat, List.find?_append, hnone, hkind, herase]

theorem takeHeat_of_none (hlane : ∀ y ∈ lane, y.kind ≠ kHeat) : takeHeat lane = none := by
  have hnone : lane.find? (fun y => decide (y.kind = kHeat)) = none := by simpa using hlane
  simp [takeHeat, hnone]

/-- The frame nearest the tail that is not a HALT. -/
theorem dropTail_of_split (hkind : x.kind ≠ kHalt) (hpost : ∀ y ∈ post, y.kind = kHalt) :
    dropTail (pre ++ x :: post) = some (x, pre ++ post) := by
  have hnone : post.reverse.find? (fun y => decide (y.kind ≠ kHalt)) = none := by simpa using hpost
  have herase : (post.reverse ++ x :: pre.reverse).eraseP (fun y => decide (y.kind ≠ kHalt)) =
      post.reverse ++ pre.reverse := by
    rw [List.eraseP_append_right _ (by simpa using hpost), List.eraseP_cons_of_pos (by simpa using hkind)]
  have hrev : (pre ++ x :: post).reverse = post.reverse ++ x :: pre.reverse := by simp
  simp only [dropTail, hrev, herase, List.find?_append, hnone]
  simp [hkind]

/-- In a lane of HALTs alone the tail frame is lost. -/
theorem dropTail_of_halts (hlane : ∀ y ∈ pre ++ [x], y.kind = kHalt) : dropTail (pre ++ [x]) = some (x, pre) := by
  have hnone : (pre ++ [x]).reverse.find? (fun y => decide (y.kind ≠ kHalt)) = none := by
    rw [List.find?_eq_none]
    intro y hy
    simp [hlane y (List.mem_reverse.1 hy)]
  unfold dropTail
  rw [hnone]
  simp

end

/-! ### The wait dropped (R82) -/

theorem dropWaitFor_only (h : Frame) (s : State) : dropWaitFor h s = { s with heat := (dropWaitFor h s).heat } := by
  unfold dropWaitFor
  repeat' split
  all_goals rfl

theorem dropWaitFor_line (h : Frame) (s : State) (l : LineUnit) :
    dropWaitFor h { s with line := l } = { dropWaitFor h s with line := l } := by
  unfold dropWaitFor
  dsimp only [State.heatRec]
  repeat' split
  all_goals rfl

theorem dropWaitFor_recs (h : Frame) (s : State) :
    (dropWaitFor h s).heat = { s.heat with recs := (dropWaitFor h s).heat.recs } := by
  unfold dropWaitFor
  repeat' split
  all_goals rfl

theorem dropWaitFor_heatRec (h : Frame) (s : State) (b : Fin 24) :
    (dropWaitFor h s).heatRec b =
      if h.payload.head? = some (byteOf b.val) then
        match (s.heatRec b).wait with
        | some w => if w.seq = h.seq then { s.heatRec b with wait := none } else s.heatRec b
        | none => s.heatRec b
      else s.heatRec b := by
  unfold dropWaitFor
  split
  case h_2 hnil => simp [hnil]
  case h_1 x rest hpayload =>
    simp only [hpayload, List.head?_cons, Option.some.injEq]
    split
    case h_2 hnone =>
      have hne : x ≠ byteOf b.val := by
        rintro rfl
        rw [idx?_byteOf b (by decide)] at hnone
        cases hnone
      rw [if_neg hne]
    case h_1 k hk =>
      by_cases hb : x = byteOf b.val
      · obtain rfl : b = k := by
          rw [hb, idx?_byteOf b (by decide)] at hk
          exact Option.some.inj hk
        rw [if_pos hb]
        cases hw : (s.heatRec b).wait with
        | none => rfl
        | some w =>
          by_cases hseq : w.seq = h.seq
          · simp [hseq]
          · simp [hseq]
      · have hbk : b ≠ k := by
          rintro rfl
          apply hb
          unfold idx? at hk
          split at hk
          · rw [← Option.some.inj hk, byteOf_toNat_self]
          · cases hk
        rw [if_neg hb]
        split
        · split
          · simp [hbk]
          · rfl
        · rfl

/-! ### The steps of R148 -/

/-- A frame of a full lane lost for a HALT, with INSERT_OVERFLOW (R148, step 2). -/
theorem haltAtHead_lost {s : State} {f x : Frame} {rest : List Frame}
    (hnone : ∀ y ∈ s.line.portF.normal, y.kind ≠ kHeat) (hlong : 16 ≤ s.line.portF.normal.length)
    (hdrop : dropTail s.line.portF.normal = some (x, rest)) :
    haltAtHead f (makeHaltRoom s) = setNormalF (f :: rest)
      (raise .insertOverflow (.port .fPort) x.kind.toNat (setNormalF rest s)) := by
  have hlane : s.laneRoom .fPort = false := decide_eq_false (Nat.not_lt.2 hlong)
  have hport := raise_portF .insertOverflow (.port .fPort) x.kind.toNat (setNormalF rest s)
  have hmake : makeHaltRoom s = raise .insertOverflow (.port .fPort) x.kind.toNat (setNormalF rest s) := by
    rw [makeHaltRoom, takeHeat_of_none hnone]
    simp [hlane, hdrop]
  have hnormal : ((raise .insertOverflow (.port .fPort) x.kind.toNat (setNormalF rest s)).port .fPort).normal =
      rest := congrArg PortUnit.normal hport
  rw [hmake]
  exact modPort_congr .fPort _ (by rw [hnormal])


/-- Settles O11: each step of R148 by the frame it takes out of the lane. -/
theorem haltPlacement : Obligations.HaltPlacement := by
  unfold Obligations.HaltPlacement
  intro s f lane atHead lost
  refine ⟨fun hroom => ?urgent, fun hfull => ⟨?heat, ?room, fun hnone hlong => ⟨?tail, ?halts⟩⟩⟩
  case urgent => exact if_pos (decide_eq_true hroom)
  all_goals
    have hoffer : offerHalt f s = haltAtHead f (makeHaltRoom s) :=
      if_neg (by simpa [State.urgentRoom, Config.urgentDepth] using hfull)
  case heat =>
    intro pre h post hlane hkind hpre
    have hmake : makeHaltRoom s = dropWaitFor h (setNormalF (pre ++ post) s) := by
      have htake := takeHeat_of_split (post := post) hkind hpre
      rw [makeHaltRoom, show s.line.portF.normal = pre ++ h :: post from hlane, htake]
    refine ⟨(dropWaitFor h s).heat, ?_, fun b hb => ?_, fun b hb => ?_, dropWaitFor_recs h s⟩
    · rw [hoffer, hmake, setNormalF, modPort, dropWaitFor_line, dropWaitFor_only h s]
      rfl
    · exact (dropWaitFor_heatRec h s b).trans (if_pos hb)
    · exact (dropWaitFor_heatRec h s b).trans (if_neg hb)
  case room =>
    intro hnone hshort
    have hlane : s.laneRoom .fPort = true := decide_eq_true hshort
    rw [hoffer, makeHaltRoom, takeHeat_of_none hnone]
    simp only [hlane]
    rfl
  case tail =>
    intro pre x post hlane hkind hpost
    have hdrop := dropTail_of_split (pre := pre) hkind hpost
    exact hoffer.trans (haltAtHead_lost hnone hlong ((congrArg dropTail hlane).trans hdrop))
  case halts =>
    intro pre x hlane hhalts
    have hdrop : dropTail (pre ++ [x]) = some (x, pre) := dropTail_of_halts (hlane ▸ hhalts)
    exact hoffer.trans (haltAtHead_lost hnone hlong ((congrArg dropTail hlane).trans hdrop))

end Sys2Proof.HaltProofs
end

section
/-! Flags, causes, tables and parameters: O14, O15 and O19. -/
namespace Sys2Proof.NoticeRequestProofs

open Sys2Proof Sys2Proof.Machine Sys2Proof.RequestProofs Sys2Proof.FlagProofs Sys2Proof.LineProofs

/-! ### SET_CAUSE (R158) -/

theorem Cause.ofCode_place (c : Cause) : Cause.ofCode (c.place.val + 1) = some c := by
  cases c <;> rfl

theorem Cause.ofCode_zero : Cause.ofCode 0 = none := rfl

theorem Cause.ofCode_large {n : Nat} (h : 28 < n) : Cause.ofCode n = none := by
  have hlength : Cause.all.length = 28 := rfl
  rw [Cause.ofCode, if_neg (by omega)]
  exact List.getElem?_eq_none (by omega)

theorem bool?_eq_none {x : Byte} (h : 1 < x.toNat) : bool? x = none := by
  unfold bool?
  rw [if_neg (by rintro rfl; simp at h), if_neg (by rintro rfl; simp at h)]

section
variable {s : State} {f : Frame} {cause mask cls : Byte}

theorem setCause_of_valid {c : Cause} {k : Fin 4} (hrun : s.running = true) (hroom : s.replyRoom)
    (hpayload : f.payload = [qSetCause, cause, mask, cls]) (hcause : cause = byteOf (c.place.val + 1))
    (hc : c ≠ .noticeOverflow) (hmask : mask = 0#8 ∨ mask = 1#8) (hcls : cls = byteOf k.val) :
    exec (.setCause f) s = .next (answered f qSetCause .ok [] (updateAttn
      (modCause c (fun x => { x with masked := decide (mask = 1#8), cls := k }) s))) := by
  have hcode : Cause.ofCode cause.toNat = some c := by
    rw [hcause, byteOf_toNat_of_lt (by omega), Cause.ofCode_place]
  have hbool : bool? mask = some (decide (mask = 1#8)) := by
    rcases hmask with rfl | rfl <;> rfl
  have hclass : idx? 4 cls.toNat = some k := by rw [hcls, idx?_byteOf k (by decide)]
  refine exec_request (act := setCause f) hrun ?_
  simp only [setCause, hpayload, hcode, hbool, hclass, hc, if_false]
  exact reply_changed (act := writeCause c _ k) (fun _ _ => rfl) hroom

theorem setCause_of_invalid (hrun : s.running = true) (hroom : s.replyRoom)
    (hpayload : f.payload = [qSetCause, cause, mask, cls])
    (hbad : cause = 0#8 ∨ 28 < cause.toNat ∨ cause = 27#8 ∨ 1 < mask.toNat ∨ 3 < cls.toNat) :
    exec (.setCause f) s = .next (answered f qSetCause .badArg [] s) := by
  refine exec_request (act := setCause f) hrun ?_
  simp only [setCause, hpayload]
  split
  · next c m k hc hm hk =>
    have hoverflow : c = .noticeOverflow := by
      rcases hbad with rfl | hbad | rfl | hbad | hbad
      · cases hc
      · rw [Cause.ofCode_large hbad] at hc; cases hc
      · exact (Option.some.inj hc).symm
      · rw [bool?_eq_none hbad] at hm; cases hm
      · rw [CuringRequestProofs.idx?_of_le hbad] at hk; cases hk
    rw [if_pos hoverflow]
    exact reply_unchanged hroom
  · exact reply_unchanged hroom

end

/-! ### TABLES_READY (R155) -/

/-- What TABLES_READY does before the notice unit offers a record. -/
def tablesSet (f : Frame) (s : State) : State := setSurvey true (setConfigured f.src s)

theorem exec_tablesReady {s : State} {f : Frame} (hrun : s.running = true) (hpayload : f.payload = [qTablesReady]) :
    exec (.tablesReady f) s = .next (reply f qTablesReady .ok [] (offerNotice (tablesSet f (takeIntake f s)))) :=
  exec_request (act := bare f qTablesReady (tablesReady f)) hrun (by rw [bare_of_code hpayload]; rfl)

/-- Settles O14. -/
theorem causeAndTablesSet : Obligations.CauseAndTablesSet := by
  unfold Obligations.CauseAndTablesSet
  refine ⟨fun s f cause mask cls hrun hroom hpayload => ⟨fun c k => setCause_of_valid hrun hroom hpayload,
    setCause_of_invalid hrun hroom hpayload⟩, fun s f hrun hpayload => ⟨⟨_, exec_tablesReady hrun hpayload, ?_⟩,
    fun hroom hqueue => ?_⟩⟩
  · refine ⟨?_, ?_, ?_⟩
    · simp [tablesSet, setSurvey, setConfigured]
    · simp [tablesSet, setSurvey, setConfigured]
    · apply state_eq <;> simp [tablesSet, setSurvey, setConfigured]
  · have hnone : offerNotice (tablesSet f (takeIntake f s)) = tablesSet f (takeIntake f s) :=
      offerNotice_none (.inr (.inl ((congrArg NoticeUnit.queue (by simp [tablesSet, setSurvey, setConfigured])).trans hqueue)))
    rw [exec_tablesReady hrun hpayload, hnone]
    exact congrArg _ (reply_changed (act := tablesSet f) (fun _ _ => rfl) hroom)

/-! ### READ_CLEAR_FLAGS (R157) -/

theorem mem_all (c : Cause) : c ∈ Cause.all := by cases c <;> decide

theorem clearUnlessHeld_cause (before s : State) (c d : Cause) :
    (clearUnlessHeld before s c).cause d =
      if d = c ∧ before.persists c = false then { s.cause d with flag := false } else s.cause d := by
  unfold clearUnlessHeld
  split
  · next h => simp [h]
  · next h =>
    rw [modCause_cause]
    by_cases hd : d = c
    · subst hd; simp [h]
    · simp [hd]

theorem clearUnlessHeld_fold_cause (before : State) (l : List Cause) (s : State) (d : Cause) :
    (l.foldl (clearUnlessHeld before) s).cause d =
      if d ∈ l ∧ before.persists d = false then { s.cause d with flag := false } else s.cause d := by
  induction l generalizing s with
  | nil => simp
  | cons c rest ih =>
    rw [List.foldl_cons, ih, clearUnlessHeld_cause]
    by_cases hd : d = c
    · subst hd
      by_cases hp : before.persists d = false
      · simp [hp]
      · simp [hp]
    · simp [hd]

theorem clearFlags_cause (s : State) (c : Cause) :
    (clearFlags s).cause c = { s.cause c with flag := (s.cause c).flag && s.persists c } := by
  have hfold := clearUnlessHeld_fold_cause s Cause.all s c
  have hlatches : ∀ t : State, (updateAttn (emptyLatches t)).cause c = t.cause c := fun _ => rfl
  rw [clearFlags, hlatches, hfold]
  cases hp : s.persists c
  · simp [mem_all]
  · simp

theorem clearFlags_only (s : State) : ∃ x, clearFlags s = { s with
    line := { s.line with portP := { s.line.portP with latch := none }, portF := { s.line.portF with latch := none } }
    notice := { s.notice with causes := x, attn := attnLevel x } } := by
  obtain ⟨x, hx⟩ := StepProofs.clearUnlessHeld_fold s Cause.all s
  exact ⟨x, by rw [clearFlags, hx]; rfl⟩

/-- Settles O15: the flags cleared, and then the reply. -/
theorem flagsReadAndCleared : Obligations.FlagsReadAndCleared := by
  unfold Obligations.FlagsReadAndCleared
  intro s f hrun hroom hpayload
  have hexec : exec (.readClearFlags f) s = .next (reply f qReadClearFlags .ok (takeIntake f s).flagContents
      (clearFlags (takeIntake f s))) :=
    exec_request (act := bare f qReadClearFlags fun u => reply f qReadClearFlags .ok u.flagContents (clearFlags u))
      hrun (by rw [bare_of_code hpayload])
  have hcause := clearFlags_cause (takeIntake f s)
  obtain ⟨x, hx⟩ := clearFlags_only (takeIntake f s)
  rw [takeIntake_line] at hx hcause hexec
  have hroom' : (clearFlags { s with line := { s.line with intake := intakeWithout f s.line.intake } }).replyRoom := by
    rw [hx]; exact hroom
  rw [reply_room hroom'] at hexec
  refine ⟨_, hexec, hcause, ?_⟩
  rw [hx]
  exact ⟨rfl, rfl, rfl, rfl, rfl⟩

end Sys2Proof.NoticeRequestProofs
end

section
/-! Parameters written (R141, R154): O19. -/
namespace Sys2Proof.ParameterProofs

open Sys2Proof Sys2Proof.Machine Sys2Proof.StepProofs Sys2Proof.RequestProofs Sys2Proof.FlagProofs Sys2Proof.LineProofs

/-- A raised cause does not see the frame taken from the intake queue. -/
theorem raise_takeIntake (c : Cause) (u : Subject) (v : Int) (f : Frame) (s : State) :
    raise c u v (takeIntake f s) = takeIntake f (raise c u v s) := by
  have hseq : (takeIntake f s).line.seq = s.line.seq := by rw [takeIntake_line]
  rw [raise_congr (s := s) (t := takeIntake f s) c u v (by simp) hseq (by simp) (by simp) (by simp)]
  conv_rhs => rw [raise_eq c u v s]
  rw [takeIntake_line, takeIntake_line]

theorem reply_full {s : State} (hfull : ¬s.replyRoom) (f : Frame) (code : Byte) (st : Status) (l : Bytes) :
    reply f code st l s = raise .insertOverflow (.port .pPort) 12 s :=
  offerNormal_full s .pPort _ (decide_eq_false hfull)

/-! ### The parameters (R154) -/

theorem setParameter_parameter (p r : Parameter) (v : Nat) (s : State) :
    (setParameter p v s).parameter r = if r = p then v else s.parameter r := by
  cases p
  case faultLimit q =>
    cases r
    case faultLimit x =>
      simp only [setParameter, State.parameter, modPort_port, Parameter.faultLimit.injEq]
      split
      · rfl
      · rfl
    all_goals simp [setParameter, State.parameter]
  all_goals cases r <;> simp [setParameter, State.parameter, State.port]

theorem ofIndex_injective {i j : Fin 6} (h : Parameter.ofIndex i = Parameter.ofIndex j) : i = j := by
  revert i j
  decide

theorem setParameter_takeIntake (p : Parameter) (v : Nat) (f : Frame) (s : State) :
    setParameter p v (takeIntake f s) = takeIntake f (setParameter p v s) := by
  rw [takeIntake_line, takeIntake_line]
  cases p
  case faultLimit q => cases q <;> rfl
  all_goals rfl

theorem port_takeIntake (q : Port) (f : Frame) (s : State) : (takeIntake f s).port q = s.port q := by
  cases q <;> simp [State.port]

theorem parameter_takeIntake (p : Parameter) (f : Frame) (s : State) :
    (takeIntake f s).parameter p = s.parameter p := by
  cases p
  case faultLimit q => rw [State.parameter, port_takeIntake]; rfl
  all_goals simp [State.parameter]

theorem writeParameter_takeIntake (p : Parameter) (v : Nat) (f : Frame) (s : State) :
    writeParameter p v (takeIntake f s) = takeIntake f (writeParameter p v s) := by
  have hcompare : ∀ (old : Nat) (u : State),
      compareLimit p old (takeIntake f u) = takeIntake f (compareLimit p old u) := by
    intro old u
    cases p
    case faultLimit q =>
      simp only [compareLimit, port_takeIntake, raise_takeIntake]
      split
      · rfl
      · rfl
    all_goals rfl
  rw [writeParameter, parameter_takeIntake, setParameter_takeIntake, hcompare]
  rfl

theorem parseParameter_enc {p : Parameter} {v : Nat} (hv : v < if p.oneByte then 256 else 65536) :
    parseParameter p (if p.oneByte then enc1 v else enc2 v) = if p.inRange v then some v else none := by
  cases hone : p.oneByte
  · rw [hone] at hv
    simp [parseParameter, enc2, dec2_enc hv, hone]
  · rw [hone] at hv
    simp [parseParameter, enc1, byteOf_toNat_of_lt hv, hone]

theorem setParameter_replyRoom (p : Parameter) (v : Nat) {s : State} (h : s.replyRoom) :
    (setParameter p v s).replyRoom := by
  cases p
  case faultLimit q => cases q <;> exact h
  all_goals exact h

/-- A fault limit written: compared with the port's count at once (R141). -/
theorem writeParameter_faultLimit (q : Port) (v : Nat) (s : State) :
    writeParameter (.faultLimit q) v s =
      if (s.port q).consecutive < (s.port q).faultLimit ∧ v ≤ (s.port q).consecutive then
        raise .lineFault (.port q) (s.port q).consecutive (setParameter (.faultLimit q) v s)
      else setParameter (.faultLimit q) v s := by
  simp [writeParameter, compareLimit, State.parameter, setParameter]

theorem writeParameter_other {p : Parameter} (h : ∀ q, p ≠ .faultLimit q) (v : Nat) (s : State) :
    writeParameter p v s = setParameter p v s := by
  cases p
  case faultLimit q => exact absurd rfl (h q)
  all_goals rfl

theorem exec_tableWriteParameter {s : State} {f : Frame} {i : Fin 6} {v : Nat} (hrun : s.running = true)
    (hv : v < if (Parameter.ofIndex i).oneByte then 256 else 65536)
    (hpayload : f.payload = [0x01#8, 10#8, byteOf i.val] ++
      (if (Parameter.ofIndex i).oneByte then enc1 v else enc2 v)) :
    exec (.tableWriteParameter f) s = .next
      (if (Parameter.ofIndex i).inRange v then
        reply f qTableWrite .ok [] (takeIntake f (writeParameter (Parameter.ofIndex i) v s))
      else reply f qTableWrite .badArg [] (takeIntake f s)) := by
  refine exec_request (act := tableWriteParameter f) hrun ?_
  have hargs : writeArgs tParameter f.payload =
      some ((byteOf i.val).toNat, if (Parameter.ofIndex i).oneByte then enc1 v else enc2 v) := by
    rw [hpayload]; rfl
  simp only [tableWriteParameter, hargs, idx?_byteOf i (by decide), parseParameter_enc hv]
  cases (Parameter.ofIndex i).inRange v
  · rfl
  · simp only [if_true, writeParameter_takeIntake]

/-- Settles O19: a parameter by its index, its range and what the comparison of a fault limit adds. -/
theorem parameterWritten : Obligations.ParameterWritten := by
  unfold Obligations.ParameterWritten
  intro s f i v hrun hroom one lo hi u q n crossed w hv hpayload
  have hone : (Parameter.ofIndex i).oneByte = decide one := by
    simp only [one]; clear * -; revert i; decide
  have hrange : (Parameter.ofIndex i).inRange v = decide (lo ≤ v ∧ v ≤ hi) := by
    simp only [lo, hi]; clear * -
    fin_cases i <;> simp [Parameter.ofIndex, Parameter.inRange]
  have hset : setParameter (Parameter.ofIndex i) v s = u := by
    simp only [u]; clear * -
    fin_cases i <;> rfl
  have hwrite : writeParameter (Parameter.ofIndex i) v s = if crossed then w else u := by
    by_cases hfault : i = 4 ∨ i = 5
    · have hp : Parameter.ofIndex i = .faultLimit q := by
        simp only [q]; clear * - hfault
        rcases hfault with rfl | rfl <;> rfl
      rw [hp] at hset ⊢
      simp only [writeParameter_faultLimit, hset, crossed, hfault, true_and, w, n]
    · have hp : ∀ p, Parameter.ofIndex i ≠ .faultLimit p := by
        clear * - hfault
        fin_cases i <;> simp_all [Parameter.ofIndex]
      rw [writeParameter_other hp, hset, if_neg fun hcross => hfault hcross.1]
  have hexec := exec_tableWriteParameter (f := f) (i := i) (v := v) hrun
    (by simpa [hone] using hv) (by simpa [hone] using hpayload)
  rw [hrange, hwrite] at hexec
  refine ⟨fun hout => ?_, fun hlo hhi => ⟨?_, fun j hj => ?_, fun hnot => ?_, fun hcross => ?_⟩⟩
  · rw [hexec]
    have hno : ¬(lo ≤ v ∧ v ≤ hi) := by omega
    simp only [hno, decide_false]
    exact congrArg _ (reply_unchanged hroom)
  · rw [← hset, setParameter_parameter, if_pos rfl]
  · rw [← hset, setParameter_parameter, if_neg (mt ofIndex_injective hj)]
  · have huroom : u.replyRoom := by
      rw [← hset]
      exact setParameter_replyRoom _ v hroom
    simp only [hlo, hhi, and_self, decide_true, if_true, if_neg hnot] at hexec
    rw [hexec, reply_unchanged huroom]
  · simp only [hlo, hhi, and_self, decide_true, if_true, if_pos hcross] at hexec
    refine ⟨raise_flagSet .., fun hwroom => ?_, fun hfull => ?_⟩
    · rw [hexec, reply_unchanged hwroom]
    · have hfull' : ¬(takeIntake f w).replyRoom := by simpa using hfull
      rw [hexec, reply_full hfull']

end Sys2Proof.ParameterProofs
end

section
/-!
SUPPORT. Opportunities with no order waiting (R128), and panel reports answered (R9). With them CENSUS_BEGIN, CENSUS_END and
CRANE_RELEASE (O41), the reports refused (O29) and the pins (O50).
-/
namespace Sys2Proof.SettleProofs

open Sys2Proof Sys2Proof.Machine Sys2Proof.RequestProofs

/-! ### Opportunities with no order waiting -/

/-- The state with no admission opportunity left. -/
def unnoted (s : State) : State := { s with runway := { s.runway with opportunities := 0 } }

theorem takeOpportunity_idle {s : State} (h : s.runway.waiting = []) :
    takeOpportunity s =
      { s with runway := { s.runway with opportunities := s.runway.opportunities - 1 } } := by
  rw [takeOpportunity, admissionPass, h]
  rfl

theorem takeOpportunities_idle (n : Nat) {s : State} (h : s.runway.waiting = []) (hn : s.runway.opportunities ≤ n) :
    takeOpportunities n s = unnoted s := by
  induction n generalizing s with
  | zero =>
    have hzero : s.runway.opportunities = 0 := Nat.le_zero.1 hn
    rw [takeOpportunities, unnoted, ← hzero]
  | succ n ih =>
    rw [takeOpportunities]
    split
    · next hzero => rw [unnoted, ← hzero]
    · rw [takeOpportunity_idle h, ih]
      · rfl
      · exact h
      · exact Nat.sub_le_of_le_add hn

/-- With no order waiting the opportunities change nothing but their count. -/
theorem settle_idle {s : State} (h : s.runway.waiting = []) : settle s = unnoted s :=
  takeOpportunities_idle _ h (by rw [h]; exact Nat.le_refl _)

theorem unnoted_settled {s : State} (h : s.runway.opportunities = 0) : unnoted s = s := by
  rw [unnoted, ← h]

theorem settle_of_noneWaiting {s : State} (h : s.noneWaiting) : settle s = s :=
  (settle_idle h.1).trans (unnoted_settled h.2)

theorem settle_noteOpportunity {s : State} (h : s.noneWaiting) : settle (noteOpportunity s) = s := by
  rw [settle_idle (s := noteOpportunity s) h.1]
  exact unnoted_settled h.2

/-! ### CENSUS_BEGIN, CENSUS_END and CRANE_RELEASE (R112, R136) -/

section
variable {s : State} {f : Frame}

theorem takeIntake_noneWaiting (h : s.noneWaiting) : (takeIntake f s).noneWaiting := by
  rw [takeIntake_line]; exact h

theorem censusCheck_takeIntake (x : Byte) : (takeIntake f s).censusCheck x = s.censusCheck x := by
  rw [takeIntake_line]; rfl

theorem censusCheck_of_area (a : Fin 16) : s.censusCheck (byteOf a.val) =
    if s.mgmt.configured = false then .error .notConfigured
    else if (s.area a).count = 0 then .error .notFound
    else if s.picksFrom a = true then .error .busy
    else .ok a := by
  unfold State.censusCheck
  rw [idx?_byteOf a (by decide)]
  cases s.mgmt.configured <;> rfl

theorem censusCheck_of_large {x : Byte} (hx : 16 ≤ x.toNat) : s.censusCheck x =
    .error (if s.mgmt.configured = true then .badArg else .notConfigured) := by
  unfold State.censusCheck
  rw [CuringRequestProofs.idx?_of_le hx]
  cases s.mgmt.configured <;> rfl

theorem modArea_same (a : Fin 16) {g : Area → Area} (h : g (s.area a) = s.area a) : modArea a g s = s := by
  have hset : tset s.stock.areas a (s.area a) = s.stock.areas := Vector.set_getElem_self a.isLt
  rw [modArea, h, hset]

theorem settle_beginCensus (h : s.noneWaiting) (a : Fin 16) : settle (beginCensus a s) =
    if (s.area a).inCensus = true then s
    else modArea a (fun x =>
      { x with inCensus := true, confirmed := 0, relocated := 0, created := 0, failed := 0 }) s := by
  unfold beginCensus
  split
  · exact settle_of_noneWaiting h
  · exact settle_noteOpportunity (s := modArea a _ s) h

theorem settle_endCensus (h : s.noneWaiting) (a : Fin 16) :
    settle (endCensus a s) = modArea a (fun x => { x with inCensus := false }) s := by
  unfold endCensus
  split
  · exact settle_noteOpportunity (s := modArea a _ s) h
  · next hidle =>
    have hsame : ({ s.area a with inCensus := false } : Area) = s.area a := by
      simp only [Bool.not_eq_true] at hidle
      rw [← hidle]
    exact (settle_of_noneWaiting h).trans (modArea_same a hsame).symm

theorem exec_censusBegin {x : Byte} (hrun : s.running = true) (hroom : s.replyRoom) (hnone : s.noneWaiting)
    (hpayload : f.payload = [qCensusBegin, x]) : exec (.censusBegin f) s = .next
      (match s.censusCheck x with
       | .error st => answered f qCensusBegin st [] s
       | .ok a => answered f qCensusBegin .ok []
          (if (s.area a).inCensus = true then s
           else modArea a (fun x =>
            { x with inCensus := true, confirmed := 0, relocated := 0, created := 0, failed := 0 }) s)) := by
  refine exec_request (act := censusBegin f) hrun ?_
  simp only [censusBegin, hpayload, censusCheck_takeIntake]
  cases s.censusCheck x with
  | error st => exact reply_unchanged hroom
  | ok a =>
    have harea : (takeIntake f s).area = s.area := by rw [takeIntake_line]; rfl
    simp only [settle_beginCensus (takeIntake_noneWaiting hnone), harea]
    split
    · exact reply_unchanged hroom
    · exact reply_changed (act := modArea a _) (fun _ _ => rfl) hroom

theorem exec_censusEnd {x : Byte} (hrun : s.running = true) (hroom : s.replyRoom) (hnone : s.noneWaiting)
    (hpayload : f.payload = [qCensusEnd, x]) : exec (.censusEnd f) s = .next
      (match s.censusCheck x with
       | .error st => answered f qCensusEnd st [] s
       | .ok a => answered f qCensusEnd .ok (censusCounts (s.area a))
          (modArea a (fun x => { x with inCensus := false }) s)) := by
  refine exec_request (act := censusEnd f) hrun ?_
  simp only [censusEnd, hpayload, censusCheck_takeIntake]
  cases s.censusCheck x with
  | error st => exact reply_unchanged hroom
  | ok a =>
    have harea : (takeIntake f s).area = s.area := by rw [takeIntake_line]; rfl
    simp only [settle_endCensus (takeIntake_noneWaiting hnone), harea]
    exact reply_changed (act := modArea a _) (fun _ _ => rfl) hroom

theorem settle_releaseCrane (h : s.noneWaiting) (c : Fin 4) : settle (releaseCrane c s) =
    modCrane c (fun k => { k with control := if k.current.isSome then .ordered else .free }) s :=
  settle_noteOpportunity (s := modCrane c _ s) h

theorem exec_craneRelease {c : Fin 4} (hrun : s.running = true) (hroom : s.replyRoom) (hnone : s.noneWaiting)
    (hpayload : f.payload = [qCraneRelease, byteOf c.val]) : exec (.craneRelease f) s = .next
      (if (s.craneEntry c).station = none then answered f qCraneRelease .notFound [] s
       else if (s.crane c).control ≠ .halted then answered f qCraneRelease .state [] s
       else answered f qCraneRelease .ok [] (modCrane c (fun k =>
          { k with control := if k.current = none then .free else .ordered }) s)) := by
  refine exec_request (act := craneRelease f) hrun ?_
  have huse : (takeIntake f s).craneInUse c = (s.craneEntry c).station.isSome := by
    rw [takeIntake_line]; rfl
  have hcrane : (takeIntake f s).crane = s.crane := by rw [takeIntake_line]; rfl
  have hcontrol : (fun k : Crane => { k with control := if k.current.isSome then .ordered else .free }) =
      fun k : Crane => { k with control := if k.current = none then .free else .ordered } := by
    funext k
    cases k.current <;> rfl
  simp only [craneRelease, hpayload, idx?_byteOf c (by decide), huse, hcrane,
    settle_releaseCrane (takeIntake_noneWaiting hnone), hcontrol]
  cases (s.craneEntry c).station with
  | none => exact reply_unchanged hroom
  | some x =>
    by_cases hhalted : (s.crane c).control = .halted
    · simp only [hhalted]
      exact reply_changed (act := modCrane c _) (fun _ _ => rfl) hroom
    · simp only [ne_eq, hhalted]
      exact reply_unchanged hroom

end

/-- Settles O41. -/
theorem censusAndRelease : Obligations.CensusAndRelease := by
  unfold Obligations.CensusAndRelease
  intro s f hrun hroom hnone
  refine ⟨fun a => ⟨fun hpayload => ?begins, fun hpayload => ?ends⟩, ?large,
    fun c => exec_craneRelease hrun hroom hnone, ?largeCrane⟩
  case begins =>
    rw [exec_censusBegin hrun hroom hnone hpayload, censusCheck_of_area]
    repeat' split
    all_goals simp_all
  case ends =>
    rw [exec_censusEnd hrun hroom hnone hpayload, censusCheck_of_area]
    repeat' split
    all_goals simp_all [censusCounts]
  case large =>
    intro x hx st
    refine ⟨fun hpayload => ?_, fun hpayload => ?_⟩
    · rw [exec_censusBegin hrun hroom hnone hpayload, censusCheck_of_large hx]
    · rw [exec_censusEnd hrun hroom hnone hpayload, censusCheck_of_large hx]
  case largeCrane =>
    intro x hpayload hx
    refine exec_request (act := craneRelease f) hrun ?_
    simp only [craneRelease, hpayload, CuringRequestProofs.idx?_of_le hx]
    exact reply_unchanged hroom

end Sys2Proof.SettleProofs
end

section
/-! SUPPORT. A panel report, taken for its bed or refused (R9): O29; and the pins (R165): O50. -/
namespace Sys2Proof.PanelProofs

open Sys2Proof Sys2Proof.Machine Sys2Proof.RequestProofs

section
variable {s : State} {f : Frame}

/-- A panel answer into a lane with room. -/
theorem panelAnswer_room (hroom : s.ringRoom) (a : PanelAnswer) : panelAnswer f a s =
    withRingFrame (ringFrame s f.src kPanelAnswer f.seq (panelBedByte f s :: a.enc)) (panelFree f s) := by
  have hfree : (panelFree f s).laneRoom .fPort = true := by
    unfold panelFree
    split <;> exact decide_eq_true hroom
  rw [panelAnswer, offerNormal_room _ _ _ hfree]
  rfl

/-- The answer to a report with a bed byte, once the report has been taken. -/
theorem panelAnswer_takeHanded (hroom : s.ringRoom) {x : Byte} {rest : Bytes} (hpayload : f.payload = x :: rest)
    (a : PanelAnswer) : panelAnswer f a (takeHanded f s) = panelAnswered f x a s := by
  rw [panelAnswer_room (s := takeHanded f s) hroom, panelFree, panelBedByte, hpayload]
  rfl

/-- A report that holds the four conditions of R9 is acted on for its bed. -/
theorem exec_panelTaken {event : Byte} {b : Fin 24} {act : Fin 24 → State → State} (h : s.panelTaken f event b) :
    whenRunning (fun t => takePanel f event act (takeHanded f t)) s = .next (act b (takeHanded f s)) := by
  obtain ⟨hrun, -, hconfigured, hpayload, henabled, hpanel⟩ := h
  have hbed : (takeHanded f s).panelBed f event = some b := by
    simp [State.panelBed, hpayload, idx?_byteOf b (by decide), hconfigured, henabled, hpanel]
  rw [whenRunning_running _ _ hrun]
  simp only [takePanel, hbed]

/-- A report that fails a condition of R9. -/
theorem panelBed_of_fails {event : Byte} (h : ∀ b : Fin 24, ¬(s.mgmt.configured = true
      ∧ f.payload = [byteOf b.val, event] ∧ (s.bedEntry b).enabled = true
      ∧ (s.bedEntry b).panel = some f.src)) : (takeHanded f s).panelBed f event = none := by
  unfold State.panelBed
  split
  · next x code hpayload =>
    split
    · next b hb =>
      refine if_neg fun hall => h b ?_
      simp only [Bool.and_eq_true, decide_eq_true_eq] at hall
      obtain ⟨⟨⟨hconfigured, henabled⟩, hpanel⟩, rfl⟩ := hall
      have hx : byteOf b.val = x := by
        unfold idx? at hb
        split at hb
        · rw [← Option.some.inj hb, byteOf_toNat_self]
        · cases hb
      exact ⟨hconfigured, hx ▸ hpayload, henabled, hpanel⟩
    · rfl
  · rfl

theorem panelAnswer_refused (hroom : s.ringRoom) : panelAnswer f .ignored (takeHanded f s) =
    { panelAnswered f (f.payload.headD (Config.freeByte s.freeCount)) .ignored s with
      freeCount := s.freeCount + if f.payload = [] then 1 else 0 } := by
  rw [panelAnswer_room (s := takeHanded f s) hroom, panelFree, panelBedByte]
  cases f.payload <;> rfl

theorem exec_panelRefused {event : Byte} {act : Fin 24 → State → State} (hrun : s.running = true)
    (hroom : s.ringRoom) (h : ∀ b : Fin 24, ¬(s.mgmt.configured = true
      ∧ f.payload = [byteOf b.val, event] ∧ (s.bedEntry b).enabled = true
      ∧ (s.bedEntry b).panel = some f.src)) :
    whenRunning (fun t => takePanel f event act (takeHanded f t)) s = .next
      { panelAnswered f (f.payload.headD (Config.freeByte s.freeCount)) .ignored s with
        freeCount := s.freeCount + if f.payload = [] then 1 else 0 } := by
  rw [whenRunning_running _ _ hrun, takePanel, panelBed_of_fails h]
  exact congrArg _ (panelAnswer_refused hroom)

end

/-- Settles O29. -/
theorem panelReportRefused : Obligations.PanelReportRefused := by
  unfold Obligations.PanelReportRefused
  intro s f hrun hroom fails u
  exact ⟨exec_panelRefused hrun hroom, exec_panelRefused hrun hroom, exec_panelRefused hrun hroom,
    exec_panelRefused hrun hroom, exec_panelRefused hrun hroom⟩

/-! ### The pins (R165) -/

/-- Settles O50. -/
theorem supplyAndReset : Obligations.SupplyAndReset := by
  unfold Obligations.SupplyAndReset
  intro s
  refine ⟨fun hpowered => ?_, fun hoff => ?_, rfl, ?_⟩
  · simp only [exec, execPowerLoss, hpowered, if_true]
    rfl
  · simp [exec, execPowerLoss, hoff]
  · simp [exec, execBackupFall]

end Sys2Proof.PanelProofs
end

section
/-!
SUPPORT. Layouts read back: what a field reader accepts is the byte form of what it answers. From this come the
round trip of a frame through the receive checks (O4) and of a table entry through its layout (O5).
-/
namespace Sys2Proof.LayoutProofs

open Sys2Proof Sys2Proof.Machine Sys2Proof.RequestProofs

/-! ### Fields -/

theorem enc1_toNat (b : Byte) : enc1 b.toNat = [b] := by
  rw [enc1, byteOf_toNat_self]

theorem byteOf_eq_of_mod {n : Nat} {b : Byte} (h : n % 256 = b.toNat) : byteOf n = b :=
  BitVec.eq_of_toNat_eq (by rw [byteOf_toNat_mod, h])

theorem enc2_dec2 (a b : Byte) : enc2 (dec2 a b) = [a, b] := by
  have ha := a.isLt
  have hb := b.isLt
  rw [enc2, byteOf_eq_of_mod (b := a) (by simp only [dec2]; omega),
    byteOf_eq_of_mod (b := b) (by simp only [dec2]; omega)]

theorem enc4_dec4 (a b c d : Byte) : enc4 (dec4 a b c d) = [a, b, c, d] := by
  have ha := a.isLt
  have hb := b.isLt
  have hc := c.isLt
  have hd := d.isLt
  rw [enc4, byteOf_eq_of_mod (b := a) (by simp only [dec4]; omega),
    byteOf_eq_of_mod (b := b) (by simp only [dec4]; omega),
    byteOf_eq_of_mod (b := c) (by simp only [dec4]; omega),
    byteOf_eq_of_mod (b := d) (by simp only [dec4]; omega)]

theorem dec2_lt (a b : Byte) : dec2 a b < 65536 := by
  have ha := a.isLt
  have hb := b.isLt
  simp only [dec2]
  omega

theorem encS2_decS2 (a b : Byte) : encS2 (decS2 a b) = [a, b] := by
  have hlt := dec2_lt a b
  have hpattern : (decS2 a b % 65536).toNat = dec2 a b := by
    unfold decS2
    split <;> omega
  rw [encS2, hpattern, enc2_dec2]

theorem idx?_eq_some {n i : Nat} {x : Fin n} (h : idx? n i = some x) : x.val = i := by
  unfold idx? at h
  split at h
  · cases h; rfl
  · cases h

theorem encFlags_of_bool? {b : Byte} {x : Bool} (h : bool? b = some x) : encFlags [x] = [b] := by
  unfold bool? at h
  split at h
  · cases h; subst b; rfl
  · split at h
    · cases h; subst b; rfl
    · cases h

theorem encOpt1_of_optIdx? {n : Nat} {b : Byte} {x : Option (Fin n)} (h : optIdx? n b = some x) :
    encOpt1 (x.map (·.val)) = [b] := by
  unfold optIdx? at h
  split at h
  case isTrue habsent => cases h; rw [habsent]; rfl
  case isFalse hpresent =>
    obtain ⟨y, hy, rfl⟩ := Option.map_eq_some_iff.mp h
    rw [Option.map_some, encOpt1, idx?_eq_some hy, enc1_toNat]

theorem encStation_optStation (b : Byte) : encStation (optStation b) = [b] := by
  unfold optStation
  split
  · subst b; rfl
  · rfl

theorem enc1_regionKind {b : Byte} {k : RegionKind} (h : RegionKind.ofCode b.toNat = some k) :
    enc1 k.code = [b] := by
  unfold RegionKind.ofCode at h
  split at h
  case isTrue hzero => cases h; rw [RegionKind.code, ← hzero, enc1_toNat]
  case isFalse =>
    split at h
    case isTrue hone => cases h; rw [RegionKind.code, ← hone, enc1_toNat]
    case isFalse => cases h

theorem parsePoints_length {n : Nat} {bytes tail : Bytes} {ps : List (Nat × Nat)}
    (h : parsePoints n bytes = some (ps, tail)) : ps.length = n := by
  induction n, bytes using parsePoints.induct generalizing ps tail with
  | case1 rest => cases h; rfl
  | case2 n m3 m2 m1 m0 s1 s0 rest ps' tail' hrest ih =>
    simp only [parsePoints, hrest] at h
    cases h
    rw [List.length_cons, ih hrest]
  | case3 n m3 m2 m1 m0 s1 s0 rest hrest ih => simp [parsePoints, hrest] at h
  | case4 n rest hshape => simp [parsePoints] at h

theorem parsePoints_bytes {n : Nat} {bytes tail : Bytes} {ps : List (Nat × Nat)}
    (h : parsePoints n bytes = some (ps, tail)) :
    ps.flatMap (fun p => enc4 p.1 ++ enc2 p.2) ++ tail = bytes := by
  induction n, bytes using parsePoints.induct generalizing ps tail with
  | case1 rest => cases h; rfl
  | case2 n m3 m2 m1 m0 s1 s0 rest ps' tail' hrest ih =>
    simp only [parsePoints, hrest] at h
    cases h
    simp only [List.flatMap_cons, enc4_dec4, enc2_dec2, List.append_assoc, ih hrest]
    rfl
  | case3 n m3 m2 m1 m0 s1 s0 rest hrest ih => simp [parsePoints, hrest] at h
  | case4 n rest hshape => simp [parsePoints] at h

/-! ### Table entries -/

theorem encBedEntry_of_parse {bytes : Bytes} {e : BedEntry} (h : parseBedEntry bytes = some e) :
    encBedEntry e = bytes := by
  unfold parseBedEntry at h
  split at h
  case h_1 s1 s0 e1 e0 panel heater channel r1 r0 cool enabled =>
    split at h
    case h_1 ch area en hch harea hen =>
      split at h
      · cases h
        simp [encBedEntry, encStation, enc2_dec2, idx?_eq_some hch, enc1_toNat, encOpt1_of_optIdx? harea,
          encFlags_of_bool? hen]
      · cases h
    · cases h
  · cases h

theorem encMix_of_parse {bytes : Bytes} {x : Mix} (h : parseMix bytes = some x) (hpresent : x.present = true) :
    encMix x = bytes := by
  unfold parseMix at h
  split at h
  case h_1 present d1 d0 n more =>
    split at h
    case h_1 ps r1 r0 p1 p0 t1 t0 hpoints =>
      dsimp only at h
      split at h
      · cases h; cases hpresent
      · split at h
        case isTrue hform =>
          cases h
          simp only [encMix, if_true, encS2_decS2, enc2_dec2, parsePoints_length hpoints, enc1_toNat, hform.1,
            ← parsePoints_bytes hpoints, List.append_assoc]
          rfl
        · cases h
    · cases h
  · cases h

theorem encSchedule_of_parse {bytes : Bytes} {r : Recipe} (h : parseSchedule bytes = some (some r)) :
    encSchedule (some r) = bytes := by
  unfold parseSchedule at h
  split at h
  case h_1 =>
    dsimp only at h
    split at h
    · cases h
    · split at h
      case isTrue hform =>
        cases h
        simp only [encSchedule, encRecipe, encS2_decS2, enc2_dec2, enc1_toNat, hform.1]
        rfl
      · cases h
  · cases h

theorem encCraneEntry_of_parse {bytes : Bytes} {e : CraneEntry} (h : parseCraneEntry bytes = some e) :
    encCraneEntry e = bytes := by
  unfold parseCraneEntry at h
  split at h
  · dsimp only at h
    split at h
    · cases h
      simp only [encCraneEntry, encStation_optStation, enc2_dec2]
      rfl
    · cases h
  · cases h

theorem encRegion_of_parse {bytes : Bytes} {e : Region} (h : parseRegion bytes = some e) :
    encRegion e = bytes := by
  unfold parseRegion at h
  split at h
  · split at h
    case h_1 k en hk hen =>
      split at h
      · cases h
        simp only [encRegion, enc2_dec2, enc1_regionKind hk, encFlags_of_bool? hen]
        rfl
      · cases h
    · cases h
  · cases h

theorem encOpt2_of_parseBay {bytes : Bytes} {e : Option Nat} (h : parseBay bytes = some e) :
    encOpt2 e = bytes := by
  unfold parseBay at h
  split at h
  case h_1 p1 p0 =>
    split at h
    case isTrue habsent => cases h; rw [encOpt2, ← habsent, enc2_dec2]
    case isFalse =>
      split at h
      · cases h; exact enc2_dec2 p1 p0
      · cases h
  · cases h

theorem enc1_of_parseService {bytes : Bytes} {x : Bool} (h : parseService bytes = some x) :
    enc1 (serviceCode x) = bytes := by
  unfold parseService at h
  split at h
  case h_1 b =>
    obtain ⟨out, hout, rfl⟩ := Option.map_eq_some_iff.mp h
    rw [← encFlags_of_bool? hout]
    cases out <;> rfl
  · cases h

/-- Settles O5: the byte form of each entry is the run of bytes it was read from. -/
theorem tableEntriesReadBack : Obligations.TableEntriesReadBack := by
  unfold Obligations.TableEntriesReadBack
  exact fun _ => ⟨fun _ => encBedEntry_of_parse, fun _ => encMix_of_parse, fun _ => encSchedule_of_parse,
    fun _ => encCraneEntry_of_parse, fun _ => encRegion_of_parse, fun _ => encOpt2_of_parseBay,
    fun _ => enc1_of_parseService⟩

/-! ### Frames -/

theorem crcBytes_length (l : Bytes) : (crcBytes l).length = 2 := rfl

theorem wf_iff (f : Frame) : f.wf = true ↔ f.payload.length ≤ Config.maxPayload ∧ f.dst.toNat ≤ 250 :=
  decide_eq_true_iff

/-- The run of bytes of a frame, its header byte by byte. -/
theorem wireOf_eq (f : Frame) :
    wireOf f = f.dst :: f.src :: f.kind :: f.seq :: f.flags :: byteOf f.payload.length
      :: (f.payload ++ crcBytes (headerOf f ++ f.payload)) := rfl

theorem judge_wireOf {f : Frame} (h : f.wf = true) : judge (wireOf f) = .ok f := by
  obtain ⟨hlen, hdst⟩ := (wf_iff f).mp h
  have hcount : (byteOf f.payload.length).toNat = f.payload.length :=
    byteOf_toNat_of_lt (hlen.trans_lt (by decide))
  have hrest : (f.payload ++ crcBytes (headerOf f ++ f.payload)).length = f.payload.length + 2 :=
    List.length_append
  have hbody : (wireOf f).take (6 + f.payload.length) = headerOf f ++ f.payload :=
    List.take_left' (by simp [headerOf]; omega)
  rw [wireOf_eq] at hbody ⊢
  simp only [judge, hcount, hrest, hbody, List.drop_left, List.take_left]
  rw [if_neg (lt_irrefl _), if_neg (by omega), if_neg (by simp), if_neg (by omega)]

theorem wireOf_of_judge {run : Bytes} {f : Frame} (h : judge run = .ok f) : f.wf = true ∧ run = wireOf f := by
  unfold judge at h
  split at h
  case h_1 dst src kind seq flags len rest =>
    dsimp only at h
    split at h
    · cases h
    split at h
    · cases h
    split at h
    · cases h
    split at h
    · cases h
    next hgap hlength hcrc hdst =>
      obtain ⟨hmax, hlong⟩ := not_or.mp hlength
      cases h
      have htake : (rest.take len.toNat).length = len.toNat := List.length_take_of_le (by omega)
      refine ⟨(wf_iff _).mpr ⟨by rw [htake]; omega, Nat.le_of_not_lt hdst⟩, ?_⟩
      have hlen : byteOf (rest.take len.toNat).length = len := by rw [htake, byteOf_toNat_self]
      have hbody : (dst :: src :: kind :: seq :: flags :: len :: rest).take (6 + len.toNat)
          = dst :: src :: kind :: seq :: flags :: len :: rest.take len.toNat := by
        rw [Nat.add_comm]; rfl
      have hsum := not_not.mp hcrc
      rw [hbody] at hsum
      rw [wireOf_eq]
      simp only [headerOf, hlen, List.cons_append, List.nil_append, hsum, List.take_append_drop]
  · cases h

/-- Settles O4: a frame's run of bytes passes each check, and a run that passes them is the frame's header, its
payload and the check sequence of both. -/
theorem wireFramesRoundTrip : Obligations.WireFramesRoundTrip := by
  unfold Obligations.WireFramesRoundTrip
  exact ⟨fun _ => judge_wireOf, fun _ _ => wireOf_of_judge⟩

end Sys2Proof.LayoutProofs
end

section
/-!
TABLE_WRITE (R153): what a write answers is its table's check, then the entry replaced. From the one rule
`exec_tableWrite` come the tables of O17 and the bed table and probe map of O18.
-/
namespace Sys2Proof.TableWriteProofs

open Sys2Proof Sys2Proof.Machine Sys2Proof.RequestProofs Sys2Proof.SettleProofs

/-! ### One write -/

section
variable {s : State} {f : Frame} {α : Type} {n : Nat} {table : Byte} {parse : Bytes → Option α}
  {check : State → Fin n → α → Option Status} {write act : Fin n → α → State → State}

/-- A write in form: the failing status, or the entry written. -/
theorem exec_tableWrite {i : Fin n} {e : α} (hrun : s.running = true) (hroom : s.replyRoom)
    (hwrite : reply f qTableWrite .ok [] (write i e (takeIntake f s)) = answered f qTableWrite .ok [] (act i e s))
    (hform : writeOperands table n parse f.payload = some (i, e)) :
    whenRunning (fun t => tableWrite f table parse (check t) write (takeIntake f t)) s = .next
      ((check s i e).elim (answered f qTableWrite .ok [] (act i e s))
        fun st => answered f qTableWrite st [] s) := by
  rw [whenRunning_running _ _ hrun]
  simp only [tableWrite, hform]
  cases check s i e with
  | none => simp only [Option.elim, hwrite]
  | some st => simp only [Option.elim, reply_unchanged hroom]

/-- A write out of form (R152). -/
theorem exec_tableWrite_badForm (hrun : s.running = true) (hroom : s.replyRoom)
    (hform : writeOperands table n parse f.payload = none) :
    whenRunning (fun t => tableWrite f table parse (check t) write (takeIntake f t)) s =
      .next (answered f qTableWrite .badArg [] s) := by
  rw [whenRunning_running _ _ hrun]
  simp only [tableWrite, hform, reply_unchanged hroom]

end

/-! ### The layouts of MIX and SCHEDULE (R170) -/

theorem writeOperands_of_form {α : Type} {n : Nat} {table x i : Byte} {entry : Bytes} {parse : Bytes → Option α}
    {k : Fin n} {e : α} (hn : n ≤ 256) (hi : i = byteOf k.val) (he : parse entry = some e) :
    writeOperands table n parse (x :: table :: i :: entry) = some (k, e) := by
  simp [writeOperands, writeArgs, hi, idx?_byteOf k hn, he]

theorem writeOperands_of_badEntry {α : Type} {n : Nat} {table x i : Byte} {entry : Bytes}
    {parse : Bytes → Option α} (he : parse entry = none) :
    writeOperands table n parse (x :: table :: i :: entry) = none := by
  simp [writeOperands, writeArgs, he]

/-- Points are read where six bytes stand for each, and what follows them is left. -/
theorem parsePoints_append {n : Nat} {bytes tail : Bytes} (h : bytes.length = 6 * n) :
    ∃ ps, parsePoints n (bytes ++ tail) = some (ps, tail) := by
  induction n generalizing bytes with
  | zero =>
    rw [List.eq_nil_of_length_eq_zero h]
    exact ⟨[], rfl⟩
  | succ n ih =>
    match bytes, h with
    | _ :: _ :: _ :: _ :: _ :: _ :: rest, h =>
      obtain ⟨ps, hps⟩ := ih (bytes := rest) (by simp only [List.length_cons] at h; omega)
      simp only [List.cons_append, parsePoints, hps]
      exact ⟨_, rfl⟩

theorem parsePoints_fields {n : Nat} {fields tail : Bytes} {ps : List (Nat × Nat)}
    (h : parsePoints n fields = some (ps, tail)) : fields.length = 6 * n + tail.length := by
  induction n, fields using parsePoints.induct generalizing ps tail with
  | case1 rest => cases h; simp
  | case2 n m3 m2 m1 m0 s1 s0 rest ps' tail' hrest ih =>
    simp only [parsePoints, hrest] at h
    cases h
    simp only [List.length_cons, ih hrest]
    omega
  | case3 n m3 m2 m1 m0 s1 s0 rest hrest ih => simp [parsePoints, hrest] at h
  | case4 n rest hshape => simp [parsePoints] at h

theorem parseMix_of_length {present d1 d0 n : Byte} {fields : Bytes} (h : fields.length ≠ 6 * n.toNat + 6) :
    parseMix (present :: d1 :: d0 :: n :: fields) = none := by
  unfold parseMix
  split
  case h_1 heq =>
    cases heq
    split
    · next hpoints => exact absurd (parsePoints_fields hpoints) h
    · rfl
  case h_2 hshape => exact absurd rfl (hshape present d1 d0 n fields)

theorem parseMix_absent {d1 d0 n : Byte} {fields : Bytes} (h : fields.length = 6 * n.toNat + 6) :
    parseMix (0#8 :: d1 :: d0 :: n :: fields) = some {} := by
  have htake : (fields.take (6 * n.toNat)).length = 6 * n.toNat := List.length_take_of_le (by omega)
  have hdrop : (fields.drop (6 * n.toNat)).length = 6 := by rw [List.length_drop]; omega
  obtain ⟨ps, hps⟩ := parsePoints_append (tail := fields.drop (6 * n.toNat)) htake
  rw [List.take_append_drop] at hps
  match htail : fields.drop (6 * n.toNat), hdrop with
  | [_, _, _, _, _, _], _ =>
    rw [htail] at hps
    simp [parseMix, hps]

theorem parseMix_short {entry : Bytes} (h : entry.length < 4) : parseMix entry = none := by
  unfold parseMix
  split
  · simp only [List.length_cons] at h; omega
  · rfl

theorem parseSchedule_of_length {present : Byte} {fields : Bytes} (h : fields.length ≠ 22) :
    parseSchedule (present :: fields) = none := by
  unfold parseSchedule
  split
  · next heq => cases heq; simp at h
  · rfl

theorem parseSchedule_absent {fields : Bytes} (h : fields.length = 22) :
    parseSchedule (0#8 :: fields) = some none := by
  match fields, h with
  | [_, _, _, _, _, _, _, _, _, _, _, _, _, _, _, _, _, _, _, _, _, _], _ => rfl

/-! ### The checks -/

section
variable (s : State)

theorem yardQuiet_iff :
    s.yardQuiet = true ↔ s.runway.waiting = [] ∧ ∀ c, (s.crane c).reservation = none := by
  simp only [State.yardQuiet, Bool.and_eq_true, List.isEmpty_iff, List.all_eq_true, mem_indexes, true_imp_iff,
    Option.isNone_iff_eq_none]

theorem mixWriteCheck_eq (i : Fin 16) (x : Mix) : s.mixWriteCheck i x =
    if x.present = true ∧ (curveRises x.points = false ∨ lastStrength x.points < x.release
        ∨ lastStrength x.points < x.dispatch) then some .badArg
    else if ∃ p ∈ s.piece.recs, p.mix = i then some .inUse else none := by
  have hcurve : (!(curveRises x.points
      && decide (x.release ≤ lastStrength x.points ∧ x.dispatch ≤ lastStrength x.points))) = true ↔
      curveRises x.points = false ∨ lastStrength x.points < x.release ∨ lastStrength x.points < x.dispatch := by
    rw [Bool.not_eq_true', Bool.and_eq_false_iff, decide_eq_false_iff_not, not_and_or, not_le, not_le]
  simp only [State.mixWriteCheck, Bool.and_eq_true, hcurve, List.any_eq_true, decide_eq_true_eq]

theorem craneWriteCheck_eq (c : Fin 4) (e : CraneEntry) : s.craneWriteCheck c e =
    if e.station = some s.sup.station ∨ e.hookReader = some s.sup.station ∨ s.craneClash c e = true then
      some .badArg
    else if (s.crane c).hook.isSome = true then some .inUse
    else if s.yardQuiet = false then some .busy
    else none := by
  simp only [State.craneWriteCheck, State.station, Bool.not_eq_true']

theorem areaWriteCheck_eq (a : Fin 16) (x : AreaFields) : s.areaWriteCheck a x =
    if ∃ k, k ≠ a ∧ 0 < x.count ∧ 0 < (s.area k).count
        ∧ x.firstSlot < (s.area k).firstSlot + (s.area k).count
        ∧ (s.area k).firstSlot < x.firstSlot + x.count then some .badArg
    else if ∃ y ∈ s.slotsOf a, x.heightLimit < y.load then some .badArg
    else if (x.firstSlot ≠ (s.area a).firstSlot ∨ x.count ≠ (s.area a).count
        ∨ x.base ≠ (s.area a).base ∨ x.pitch ≠ (s.area a).pitch) ∧ ∃ y ∈ s.slotsOf a, 0 < y.load then some .inUse
    else if (x.firstSlot ≠ (s.area a).firstSlot ∨ x.count ≠ (s.area a).count
        ∨ x.base ≠ (s.area a).base ∨ x.pitch ≠ (s.area a).pitch) ∧ s.yardQuiet = false then some .busy
    else none := by
  simp only [State.areaWriteCheck, State.areaClash, runsMeet, movesArea, List.any_eq_true, mem_indexes, true_and,
    Bool.and_eq_true, decide_eq_true_eq, Bool.not_eq_true']

end

/-! ### The tables of O17 -/

section
variable {s : State} {f : Frame}

theorem exec_tableWriteMix {i : Fin 16} {x : Mix} (hrun : s.running = true) (hroom : s.replyRoom)
    (hform : writeOperands tMix 16 parseMix f.payload = some (i, x)) :
    exec (.tableWriteMix f) s = .next
      (if x.present = true ∧ (curveRises x.points = false ∨ lastStrength x.points < x.release
          ∨ lastStrength x.points < x.dispatch) then answered f qTableWrite .badArg [] s
       else if ∃ p ∈ s.piece.recs, p.mix = i then answered f qTableWrite .inUse [] s
       else answered f qTableWrite .ok [] (setMix i x s)) := by
  refine (exec_tableWrite (check := State.mixWriteCheck) (act := setMix) hrun hroom
    (reply_changed (act := setMix i x) (fun _ _ => rfl) hroom) hform).trans ?_
  rw [mixWriteCheck_eq]
  repeat' split
  all_goals rfl

theorem exec_tableWriteSchedule {i : Fin 16} {x : Schedule} (hrun : s.running = true) (hroom : s.replyRoom)
    (hform : writeOperands tSchedule 16 parseSchedule f.payload = some (i, x)) :
    exec (.tableWriteSchedule f) s = .next (answered f qTableWrite .ok [] (setSchedule i x s)) :=
  exec_tableWrite (check := fun _ _ _ => none) (act := setSchedule) hrun hroom
    (reply_changed (act := setSchedule i x) (fun _ _ => rfl) hroom) hform

theorem exec_tableWriteCrane {c : Fin 4} {e : CraneEntry} (hrun : s.running = true) (hroom : s.replyRoom)
    (hform : writeOperands tCrane 4 parseCraneEntry f.payload = some (c, e)) :
    exec (.tableWriteCrane f) s = .next
      (if e.station = some s.sup.station ∨ e.hookReader = some s.sup.station ∨ s.craneClash c e = true then
        answered f qTableWrite .badArg [] s
       else if (s.crane c).hook.isSome = true then answered f qTableWrite .inUse [] s
       else if s.yardQuiet = false then answered f qTableWrite .busy [] s
       else answered f qTableWrite .ok [] (writeCrane c e s)) := by
  refine (exec_tableWrite (check := State.craneWriteCheck) (act := writeCrane) hrun hroom
    (reply_changed (act := writeCrane c e) (fun _ _ => rfl) hroom) hform).trans ?_
  rw [craneWriteCheck_eq]
  repeat' split
  all_goals rfl

theorem settle_writeArea (h : s.noneWaiting) (a : Fin 16) (x : AreaFields) : writeArea a x s =
    modArea a (fun old =>
      { old with firstSlot := x.firstSlot, count := x.count, base := x.base, pitch := x.pitch
                 heightLimit := x.heightLimit, classes := x.classes, dispatchOnly := x.dispatchOnly }) s :=
  settle_noteOpportunity (s := modArea a _ s) h

theorem settle_writeService (h : s.noneWaiting) (g : Fin 128) (b : Bool) :
    writeService g b s = setService g b s := by
  unfold writeService
  split
  · rfl
  · exact settle_noteOpportunity (s := setService g b s) h

theorem exec_tableWriteArea {a : Fin 16} {x : AreaFields} (hrun : s.running = true) (hroom : s.replyRoom)
    (hnone : s.noneWaiting) (hform : writeOperands tArea 16 parseArea f.payload = some (a, x)) :
    exec (.tableWriteArea f) s = .next ((s.areaWriteCheck a x).elim
      (answered f qTableWrite .ok [] (modArea a (fun old =>
        { old with firstSlot := x.firstSlot, count := x.count, base := x.base, pitch := x.pitch
                   heightLimit := x.heightLimit, classes := x.classes, dispatchOnly := x.dispatchOnly }) s))
      fun st => answered f qTableWrite st [] s) := by
  refine exec_tableWrite (check := State.areaWriteCheck) (act := fun a x => modArea a fun old =>
    { old with firstSlot := x.firstSlot, count := x.count, base := x.base, pitch := x.pitch
               heightLimit := x.heightLimit, classes := x.classes, dispatchOnly := x.dispatchOnly })
    hrun hroom ?_ hform
  rw [settle_writeArea (takeIntake_noneWaiting hnone)]
  exact reply_changed (act := modArea a _) (fun _ _ => rfl) hroom

theorem exec_tableWriteService {g : Fin 128} {b : Bool} (hrun : s.running = true) (hroom : s.replyRoom)
    (hnone : s.noneWaiting) (hform : writeOperands tService 128 parseService f.payload = some (g, b)) :
    exec (.tableWriteService f) s = .next (answered f qTableWrite .ok [] (setService g b s)) := by
  refine exec_tableWrite (check := fun _ _ _ => none) (act := setService) hrun hroom ?_ hform
  rw [settle_writeService (takeIntake_noneWaiting hnone)]
  exact reply_changed (act := setService g b) (fun _ _ => rfl) hroom

end

/-- Settles O17: each table's check in the order of its rule, then its entry replaced. -/
theorem tablesWritten : Obligations.TablesWritten := by
  unfold Obligations.TablesWritten
  intro s f hrun hroom ans
  refine ⟨?mix, ?schedule, ?mixLayout, ?mixShort, ?scheduleLayout, ?region, ?bay, ?crane, yardQuiet_iff s,
    fun hnone => ⟨?area, fun g b hform => exec_tableWriteService hrun hroom hnone hform⟩⟩
  case mix =>
    intro i x hform
    rw [exec_tableWriteMix hrun hroom hform, apply_ite Host.Outcome.next, apply_ite Host.Outcome.next]
  case schedule => exact fun i x hform => exec_tableWriteSchedule hrun hroom hform
  case mixLayout =>
    intro i present d1 d0 n fields hpayload
    refine ⟨fun hlength => exec_tableWrite_badForm (check := State.mixWriteCheck) hrun hroom ?_,
      fun hlength habsent k hi => ?_⟩
    · rw [hpayload]
      exact writeOperands_of_badEntry (parseMix_of_length hlength)
    · have hform : writeOperands tMix 16 parseMix f.payload = some (k, {}) := by
        rw [hpayload, habsent]
        exact writeOperands_of_form (by decide) hi (parseMix_absent hlength)
      rw [exec_tableWriteMix hrun hroom hform, if_neg (by simp), apply_ite Host.Outcome.next]
  case mixShort =>
    intro i entry hpayload hlength
    refine exec_tableWrite_badForm (check := State.mixWriteCheck) hrun hroom ?_
    rw [hpayload]
    exact writeOperands_of_badEntry (parseMix_short hlength)
  case scheduleLayout =>
    intro i present fields hpayload
    refine ⟨fun hlength => exec_tableWrite_badForm (n := 16) (check := fun _ _ _ => none) hrun hroom ?_,
      fun hlength habsent k hi => exec_tableWriteSchedule hrun hroom ?_⟩
    · rw [hpayload]
      exact writeOperands_of_badEntry (parseSchedule_of_length hlength)
    · rw [hpayload, habsent]
      exact writeOperands_of_form (by decide) hi (parseSchedule_absent hlength)
  case region =>
    intro i x hform
    refine (exec_tableWrite (check := fun u _ _ => u.quietCheck) (act := setRegion) hrun hroom
      (reply_changed (act := setRegion i x) (fun _ _ => rfl) hroom) hform).trans ?_
    unfold State.quietCheck
    split <;> rfl
  case bay =>
    intro i x hform
    refine (exec_tableWrite (check := fun u _ _ => u.quietCheck) (act := setBay) hrun hroom
      (reply_changed (act := setBay i x) (fun _ _ => rfl) hroom) hform).trans ?_
    unfold State.quietCheck
    split <;> rfl
  case crane =>
    intro c e hform
    rw [exec_tableWriteCrane hrun hroom hform]
    repeat' rw [apply_ite Host.Outcome.next]
    rfl
  case area =>
    intro a x hform moves
    rw [exec_tableWriteArea hrun hroom hnone hform, areaWriteCheck_eq]
    simp only [moves]
    repeat' split
    all_goals rfl

end Sys2Proof.TableWriteProofs
end

section
/-! The bed table and the probe map (O18), on the rule of one table write. -/
namespace Sys2Proof.BedProbeWriteProofs

open Sys2Proof Sys2Proof.Machine Sys2Proof.RequestProofs Sys2Proof.FlagProofs Sys2Proof.LayoutProofs
  Sys2Proof.TableWriteProofs

section
variable {s : State} {f : Frame}

/-! ### BED (R1) -/

theorem bedWriteCheck_eq (s : State) (b : Fin 24) (e : BedEntry) : s.bedWriteCheck b e =
    if e.panel = some s.sup.station ∨ e.heater = some s.sup.station ∨ e.spanEnd ≤ e.spanStart
        ∨ (e.enabled = true ∧ ∃ k, k ≠ b ∧ (s.bedEntry k).enabled = true
            ∧ e.spanStart ≤ (s.bedEntry k).spanEnd ∧ (s.bedEntry k).spanStart ≤ e.spanEnd) then some .badArg
    else if (s.bedRec b).state ≠ .vacant ∨ (s.bedRec b).order ≠ none then some .inUse
    else if (e.spanStart ≠ (s.bedEntry b).spanStart ∨ e.spanEnd ≠ (s.bedEntry b).spanEnd
        ∨ e.enabled ≠ (s.bedEntry b).enabled) ∧ s.yardQuiet = false then some .busy
    else none := by
  have overlaps_span : ∀ x y : BedEntry, x.span.overlaps y.span = true ↔
      x.spanStart ≤ y.spanEnd ∧ y.spanStart ≤ x.spanEnd := fun x y => decide_eq_true_iff
  simp only [State.bedWriteCheck, State.station, State.spanClash, overlaps_span,
    Bool.and_eq_true, List.any_eq_true, mem_indexes, true_and, and_assoc, decide_eq_true_eq, Bool.not_eq_true',
    Option.isSome_iff_ne_none]

theorem writeBed_eq (b : Fin 24) (e : BedEntry) (s : State) : writeBed b e s = setBedEntry b e
    (if (s.heatRec b).state = .stopping then
      modHeat b (fun h => { h with state := .idle, wait := none, misses := 0, refresh := 0 }) s
     else s) := by
  have hheat : (setBedEntry b e s).heatRec b = s.heatRec b := rfl
  rw [writeBed, idleHeat, hheat]
  split <;> rfl

theorem writeBed_line (b : Fin 24) (e : BedEntry) (u : State) (l : LineUnit) :
    writeBed b e { u with line := l } = { writeBed b e u with line := l } := by
  have hheat : ({ u with line := l } : State).heatRec b = u.heatRec b := rfl
  rw [writeBed_eq, writeBed_eq, hheat]
  by_cases hstopping : (u.heatRec b).state = .stopping
  · simp only [hstopping, if_true]; rfl
  · simp only [hstopping, if_false]; rfl

theorem exec_tableWriteBed {b : Fin 24} {e : BedEntry} (hrun : s.running = true) (hroom : s.replyRoom)
    (hform : writeOperands tBed 24 parseBedEntry f.payload = some (b, e)) :
    exec (.tableWriteBed f) s = .next ((s.bedWriteCheck b e).elim
      (answered f qTableWrite .ok [] (writeBed b e s)) fun st => answered f qTableWrite st [] s) :=
  exec_tableWrite (check := State.bedWriteCheck) (act := writeBed) hrun hroom
    (reply_changed (act := writeBed b e) (writeBed_line b e) hroom) hform

/-! ### PROBE_MAP (R22, R23, R31) -/

theorem probeWriteCheck_eq (s : State) (i : Fin 128) (e : ProbeEntry) : s.probeWriteCheck i e =
    if e.station = s.sup.station ∨ (e.enabled = true ∧ ∃ k, k ≠ i ∧ (s.probeEntry k).enabled = true
        ∧ (((s.probeEntry k).station = e.station ∧ (s.probeEntry k).channel = e.channel)
            ∨ sameRole e (s.probeEntry k) = true)) then some .badArg
    else none := by
  have hclash : (e.enabled && (s.channelClash i e || s.roleClash i e)) = true ↔
      e.enabled = true ∧ ∃ k, k ≠ i ∧ (s.probeEntry k).enabled = true
        ∧ (((s.probeEntry k).station = e.station ∧ (s.probeEntry k).channel = e.channel)
            ∨ sameRole e (s.probeEntry k) = true) := by
    simp only [State.channelClash, State.roleClash, Bool.and_eq_true, Bool.or_eq_true, List.any_eq_true,
      mem_indexes, true_and, decide_eq_true_eq, ← exists_or, ← and_or_left, and_assoc]
  simp only [State.probeWriteCheck, State.station, hclash, ite_or]

theorem blind_of_probe {s t : State} (h : t.probe = s.probe) (b : Fin 24) : t.blind b = s.blind b := by
  cases t
  cases h
  rfl

/-- The probe part of the state after a write of the probe map: the entry, its record cleared, the survey
(R23, R28). -/
def mapWritten (i : Fin 128) (e : ProbeEntry) (s : State) : State :=
  setSurvey true (modProbe i (fun _ => {}) (setProbeEntry i e s))

theorem writeProbe_cases (i : Fin 128) (e : ProbeEntry) (s : State) :
    (writeProbe i e s = mapWritten i e s
      ∧ ∀ b : Fin 24, (s.probeEntry i).role = .bed → (s.probeEntry i).bed ≠ b.val)
    ∨ ∃ b : Fin 24, (s.probeEntry i).role = .bed ∧ (s.probeEntry i).bed = b.val
      ∧ writeProbe i e s = raiseIfBlinded s b (mapWritten i e s) := by
  unfold writeProbe
  dsimp only
  split
  case h_1 b hrole hbed => exact .inr ⟨b, hrole, (idx?_eq_some hbed).symm, rfl⟩
  case h_2 hno =>
    refine .inl ⟨rfl, fun b hrole hbed => hno b hrole ?_⟩
    rw [hbed, CuringRequestProofs.idx?_val]

theorem raiseIfBlinded_only (before : State) (b : Fin 24) (u : State) : raiseIfBlinded before b u =
    { u with line := (raiseIfBlinded before b u).line, notice := (raiseIfBlinded before b u).notice } := by
  unfold raiseIfBlinded
  split
  · apply state_eq <;> simp
  · rfl

/-- A write of the probe map changes the entry, its record and the survey, and what a raised cause changes. -/
theorem writeProbe_only (i : Fin 128) (e : ProbeEntry) (s : State) : writeProbe i e s =
    { s with line := (writeProbe i e s).line, probe := (mapWritten i e s).probe
             notice := (writeProbe i e s).notice } := by
  rcases writeProbe_cases i e s with ⟨h, -⟩ | ⟨b, -, -, h⟩
  · rw [h]; rfl
  · rw [h, raiseIfBlinded_only]; rfl

/-- BED_BLIND is raised for the watched bed of the former entry that the write blinds (R31). -/
theorem writeProbe_blinds {i : Fin 128} {e : ProbeEntry} {s : State} {b : Fin 24}
    (hrole : (s.probeEntry i).role = .bed) (hbed : (s.probeEntry i).bed = b.val) (hwatched : s.watched b = true)
    (hsaw : s.blind b = false) (hblind : (mapWritten i e s).blind b = true) :
    flagSet .bedBlind (writeProbe i e s) := by
  rcases writeProbe_cases i e s with ⟨-, h⟩ | ⟨k, -, hk, h⟩
  · exact absurd hbed (h b hrole)
  · have hsame : k = b := Fin.ext (hk.symm.trans hbed)
    have hwatched' : (mapWritten i e s).watched b = true := hwatched
    rw [h, hsame, raiseIfBlinded, hsaw, hblind, hwatched']
    exact raise_flagSet ..

theorem exec_tableWriteProbeMap {i : Fin 128} {e : ProbeEntry} (hrun : s.running = true)
    (hcheck : s.probeWriteCheck i e = none)
    (hform : writeOperands tProbeMap 128 parseProbeEntry f.payload = some (i, e)) :
    exec (.tableWriteProbeMap f) s =
      .next (reply f qTableWrite .ok [] (writeProbe i e (takeIntake f s))) := by
  change execTableWriteProbeMap f s = _
  rw [execTableWriteProbeMap, whenRunning_running _ _ hrun]
  simp only [tableWrite, hform, hcheck]

theorem exec_tableWriteProbeMap_refused {i : Fin 128} {e : ProbeEntry} (hrun : s.running = true)
    (hroom : s.replyRoom) (hcheck : s.probeWriteCheck i e = some .badArg)
    (hform : writeOperands tProbeMap 128 parseProbeEntry f.payload = some (i, e)) :
    exec (.tableWriteProbeMap f) s = .next (answered f qTableWrite .badArg [] s) := by
  change execTableWriteProbeMap f s = _
  rw [execTableWriteProbeMap, whenRunning_running _ _ hrun]
  simp only [tableWrite, hform, hcheck, reply_unchanged hroom]

end

/-- Settles O18: the bed table by its check; the probe map by the state `mapWritten` and the cause it raises. -/
theorem bedAndProbeWritten : Obligations.BedAndProbeWritten := by
  unfold Obligations.BedAndProbeWritten
  intro s f hrun
  refine ⟨?bed, ?probe⟩
  case bed =>
    intro b e hform hroom
    rw [exec_tableWriteBed hrun hroom hform, bedWriteCheck_eq, ← writeBed_eq]
    repeat' split
    all_goals rfl
  case probe =>
    intro i e hform clash
    refine ⟨fun hbad hroom => exec_tableWriteProbeMap_refused hrun hroom ?_ hform, fun hown hfree => ?_⟩
    · rw [probeWriteCheck_eq, if_pos hbad]
    · have hcheck : s.probeWriteCheck i e = none := by
        rw [probeWriteCheck_eq, if_neg (not_or.mpr ⟨hown, hfree⟩)]
      have hintake := takeIntake_line f s
      have honly := writeProbe_only i e (takeIntake f s)
      refine ⟨_, exec_tableWriteProbeMap hrun hcheck hform, ?map, ?blind, ?only⟩
      case map =>
        rw [(reply_keeps ..).1, honly, hintake]
        rfl
      case blind =>
        intro b hrole hbed hwatched hsaw hblind
        have hprobe : (mapWritten i e (takeIntake f s)).probe =
            (reply f qTableWrite .ok [] (writeProbe i e (takeIntake f s))).probe := by
          rw [(reply_keeps ..).1, honly]
        rw [← blind_of_probe hprobe] at hblind
        rw [hintake] at hblind ⊢
        refine (flagSet_onLine .bedBlind).lineKept.reply _ _ _ _
          (writeProbe_blinds hrole hbed hwatched hsaw hblind)
      case only =>
        rw [honly, hintake]
        apply state_eq <;> simp

end Sys2Proof.BedProbeWriteProofs
end

section
/-! The exchange with a heater (O28). -/
namespace Sys2Proof.HeaterProofs

open Sys2Proof Sys2Proof.Machine Sys2Proof.RequestProofs

section
variable {s : State} {f : Frame} {b : Fin 24}

/-! ### Acknowledgements (R83) -/

theorem takeHeatAck_fits {bed ch hi lo seq : Byte} (hpayload : f.payload = [bed, ch, hi, lo, seq])
    (hbed : bed = byteOf b.val) (henabled : (s.bedEntry b).enabled = true)
    (hheater : (s.bedEntry b).heater = some f.src) (hchannel : (s.bedEntry b).channel.val = ch.toNat) :
    takeHeatAck f s = ackBed b (dec2 hi lo) seq s := by
  simp [takeHeatAck, hpayload, hbed, idx?_byteOf b (by decide), henabled, hheater, hchannel]

theorem takeHeatAck_large {bed ch hi lo seq : Byte} (hpayload : f.payload = [bed, ch, hi, lo, seq])
    (hbed : 24 ≤ bed.toNat) : takeHeatAck f s = s := by
  simp [takeHeatAck, hpayload, CuringRequestProofs.idx?_of_le hbed]

theorem takeHeatAck_other {bed ch hi lo seq : Byte} (hpayload : f.payload = [bed, ch, hi, lo, seq])
    (hbed : bed = byteOf b.val) (hother : (s.bedEntry b).enabled = false
      ∨ (s.bedEntry b).heater ≠ some f.src ∨ (s.bedEntry b).channel.val ≠ ch.toNat) : takeHeatAck f s = s := by
  have hfails : ((s.bedEntry b).enabled && (s.bedEntry b).heater = some f.src
      && (s.bedEntry b).channel.val = ch.toNat) = false := by
    rw [Bool.and_eq_false_iff, Bool.and_eq_false_iff, decide_eq_false_iff_not, decide_eq_false_iff_not, or_assoc]
    exact hother
  simp only [takeHeatAck, hpayload, hbed, idx?_byteOf b (by decide), hfails]
  rfl

theorem ackBed_echo {w : AckWait} {duty : Nat} (seq : Byte) (hwait : (s.heatRec b).wait = some w) (hduty : w.duty = duty) :
    ackBed b duty seq s = modHeat b (fun h =>
      if h.state = .stopping ∧ w.duty = 0 then
        { h with wait := none, misses := 0, lastAck := some seq, state := .idle, refresh := 0 }
      else { h with wait := none, misses := 0, lastAck := some seq }) s := by
  simp only [ackBed, hwait, hduty, if_true]

theorem ackBed_stray {duty : Nat} (seq : Byte)
    (h : (s.heatRec b).wait = none ∨ ∃ w, (s.heatRec b).wait = some w ∧ w.duty ≠ duty) :
    ackBed b duty seq s = countStrayAck s := by
  rcases h with hnone | ⟨w, hwait, hduty⟩
  · simp only [ackBed, hnone]
  · simp only [ackBed, hwait, hduty, if_false]

/-! ### HEAT frames (R80, R81) -/

theorem offerHeat_room (duty : Nat) (hroom : s.ringRoom) : offerHeat b duty s = withRingFrame
    { dst := (s.bedEntry b).heater.getD 0#8, src := s.sup.station, kind := 0x02#8, seq := s.heat.seq + 1#8
      flags := 1#8, payload := enc1 b.val ++ enc1 (s.bedEntry b).channel.val ++ enc2 duty }
    (modHeat b (fun h => { h with
      refresh := 60, wait := some { duty := duty, left := 20, seq := s.heat.seq + 1#8 } })
      { s with heat := { s.heat with seq := s.heat.seq + 1#8 } }) := by
  have hlane : (nextHeatSeq s).laneRoom .fPort = true := decide_eq_true hroom
  rw [offerHeat, hlane, offerNormal_room _ _ _ (by exact hlane)]
  rfl

theorem refreshBed_held (h : (s.heatRec b).state = .idle ∨ 0 < (s.heatRec b).refresh) : refreshBed b s = s := by
  unfold refreshBed
  split
  · next hzero =>
    rw [h.resolve_right (by omega)]
  · rfl

theorem refreshBed_due (hactive : (s.heatRec b).state ≠ .idle) (hdue : (s.heatRec b).refresh = 0) :
    refreshBed b s =
      offerHeat b (if (s.heatRec b).state = .driven then (s.heatRec b).duty else 0) s := by
  rw [refreshBed, if_pos hdue]
  cases hstate : (s.heatRec b).state with
  | idle => exact absurd hstate hactive
  | driven => rfl
  | stopping => rfl

/-! ### The acknowledgement wait (R84) -/

theorem missAck_held (h : ∀ w, (s.heatRec b).wait = some w → 0 < w.left) : missAck b s = s := by
  unfold missAck
  split
  · next w hwait => rw [if_neg (h w hwait).ne']
  · rfl

theorem missAck_due {w : AckWait} (hwait : (s.heatRec b).wait = some w) (hleft : w.left = 0) :
    missAck b s =
      if (s.heatRec b).misses = 2 then raise .heaterSilent (.bed b) w.duty
        (modHeat b (fun h => { h with wait := none, misses := min 3 (h.misses + 1) }) s)
      else modHeat b (fun h => { h with wait := none, misses := min 3 (h.misses + 1) }) s := by
  simp only [missAck, hwait, hleft, if_true]
  rfl

end

/-- Settles O28. -/
theorem heaterExchange : Obligations.HeaterExchange := by
  unfold Obligations.HeaterExchange
  refine ⟨?ack, ?refresh, ?wait⟩
  case ack =>
    intro s f bed ch hi lo seq hrun hpayload
    have hexec : exec (.heatAck f) s = .next (takeHeatAck f (takeHanded f s)) :=
      whenRunning_running s (fun t => takeHeatAck f (takeHanded f t)) hrun
    rw [hexec]
    refine ⟨?fits, ?other⟩
    case fits =>
      intro b hbed henabled hheater hchannel u
      rw [takeHeatAck_fits (s := takeHanded f s) hpayload hbed henabled hheater hchannel]
      refine ⟨fun w hwait hduty => ?_, fun hstray => ?_⟩
      · rw [ackBed_echo (s := takeHanded f s) (duty := dec2 hi lo) seq hwait hduty]
      · rw [ackBed_stray (s := takeHanded f s) (duty := dec2 hi lo) seq hstray]
        rfl
    case other =>
      rintro (hlarge | ⟨b, hbed, hother⟩)
      · rw [takeHeatAck_large hpayload hlarge]
      · rw [takeHeatAck_other (s := takeHanded f s) hpayload hbed hother]
  case refresh =>
    intro s b hrun
    have hexec : exec (.refreshExpiry b) s = .next (refreshBed b s) := whenRunning_running _ _ hrun
    rw [hexec]
    refine ⟨fun hheld => by rw [refreshBed_held hheld], fun hactive hdue hroom => ?_⟩
    rw [refreshBed_due hactive hdue, offerHeat_room _ hroom]
  case wait =>
    intro s b hrun
    have hexec : exec (.ackWaitExpiry b) s = .next (missAck b s) := whenRunning_running _ _ hrun
    rw [hexec]
    refine ⟨fun hheld => by rw [missAck_held hheld], fun w hwait hleft => ?_⟩
    rw [missAck_due hwait hleft]

end Sys2Proof.HeaterProofs
end

section
/-!
SUPPORT. What a recomputation does (R77 to R81): the grant each bed has after those served before it, the shortages
raised, and the HEAT frames offered. O26 states it in full.
-/
namespace Sys2Proof.AllocationProofs

open Sys2Proof Sys2Proof.Machine Sys2Proof.RequestProofs Sys2Proof.TableProofs Sys2Proof.HeatLawProofs
  Sys2Proof.FlagProofs Sys2Proof.LineProofs

/-! ### Served in turn (R77) -/

/-- Bed `k` is served before bed `b`: a higher class, or the same class and a lower number. -/
def servedBefore (s : State) (k b : Fin 24) : Prop :=
  s.heatClass b < s.heatClass k ∨ (s.heatClass k = s.heatClass b ∧ k < b)

theorem servedBefore_asymm {s : State} {k b : Fin 24} (h : servedBefore s k b) : ¬servedBefore s b k := by
  unfold servedBefore at *
  omega

theorem serveOrder_pairwise (s : State) : s.serveOrder.Pairwise (servedBefore s) := by
  have hclasses : ([3, 2, 1, 0] : List (Fin 4)).Pairwise (fun c d => d < c) := by decide
  rw [State.serveOrder, List.pairwise_flatMap]
  refine ⟨fun c _ => ?_, hclasses.imp fun hlt x hx y hy => ?_⟩
  · rw [indexes_eq_finRange]
    refine List.Pairwise.imp_of_mem ?_ ((List.pairwise_lt_finRange 24).filter _)
    intro x y hx hy hlt
    simp only [List.mem_filter, Bool.and_eq_true, decide_eq_true_eq] at hx hy
    exact .inr ⟨hx.2.2.trans hy.2.2.symm, hlt⟩
  · simp only [List.mem_filter, Bool.and_eq_true, decide_eq_true_eq] at hx hy
    exact .inl (by rw [hx.2.2, hy.2.2]; exact hlt)

theorem serveOrder_nodup (s : State) : s.serveOrder.Nodup :=
  (serveOrder_pairwise s).imp fun h => by rintro rfl; exact servedBefore_asymm h h

theorem firstOf_serve_head (s : State) (left : Nat) (b : Fin 24) (rest : List (Fin 24)) :
    firstOf (serve s left (b :: rest)) b = min (s.heatRec b).request left := by
  simp [firstOf, serve]

theorem firstOf_serve_tail (s : State) (left : Nat) {a b : Fin 24} (rest : List (Fin 24)) (h : a ≠ b) :
    firstOf (serve s left (a :: rest)) b =
      firstOf (serve s (left - min (s.heatRec a).request left) rest) b := by
  simp [firstOf, serve, h]

/-- A bed served after others takes the lesser of its request and what they leave. -/
theorem firstOf_serve_after (s : State) (pre post : List (Fin 24)) (b : Fin 24) (left : Nat)
    (hnodup : (pre ++ b :: post).Nodup) :
    firstOf (serve s left (pre ++ b :: post)) b = min (s.heatRec b).request
      (left - (pre.map (firstOf (serve s left (pre ++ b :: post)))).sum) := by
  induction pre generalizing left with
  | nil => simp only [List.nil_append, firstOf_serve_head, List.map_nil, List.sum_nil, Nat.sub_zero]
  | cons a rest ih =>
    obtain ⟨ha, hrest⟩ := List.nodup_cons.mp hnodup
    have hab : a ≠ b := by rintro rfl; simp at ha
    have hothers : rest.map (firstOf (serve s left (a :: (rest ++ b :: post)))) =
        rest.map (firstOf (serve s (left - min (s.heatRec a).request left) (rest ++ b :: post))) := by
      refine List.map_congr_left fun k hk => firstOf_serve_tail s left _ ?_
      rintro rfl
      exact ha (List.mem_append_left _ hk)
    simp only [List.cons_append, List.map_cons, List.sum_cons, hothers, firstOf_serve_head,
      firstOf_serve_tail s left _ hab, ih _ hrest, Nat.sub_sub]

/-- The grant of a CURING bed, by the beds served before it (R77). -/
theorem grantOf_curing (s : State) (b : Fin 24) (h : s.curingBed b = true) (p : Fin 24 → Bool)
    (hp : ∀ k, p k = true ↔ s.curingBed k = true ∧ servedBefore s k b) :
    s.grantOf b = min (s.heatRec b).request
      (s.effectiveBudget - (((List.finRange 24).filter p).map s.grantOf).sum) := by
  obtain ⟨pre, post, hsplit⟩ := List.append_of_mem ((mem_serveOrder s b).mpr h)
  have hnodup := hsplit ▸ serveOrder_nodup s
  have hpair := List.pairwise_append.mp (hsplit ▸ serveOrder_pairwise s)
  obtain ⟨-, hpost, hcross⟩ := hpair
  have hpre : List.Perm pre ((List.finRange 24).filter p) := by
    refine (List.perm_ext_iff_of_nodup (List.nodup_append.mp hnodup).1
      ((List.nodup_finRange 24).filter _)).mpr fun k => ?_
    simp only [List.mem_filter, List.mem_finRange, true_and, hp]
    constructor
    · intro hk
      refine ⟨(mem_serveOrder s k).mp (hsplit ▸ List.mem_append_left _ hk), hcross k hk b List.mem_cons_self⟩
    · rintro ⟨hcuring, hbefore⟩
      have hmem := hsplit ▸ (mem_serveOrder s k).mpr hcuring
      rcases List.mem_append.mp hmem with hk | hk
      · exact hk
      · rcases List.mem_cons.mp hk with rfl | hk
        · exact absurd hbefore (servedBefore_asymm hbefore)
        · exact absurd hbefore (servedBefore_asymm ((List.pairwise_cons.mp hpost).1 k hk))
  have hgrants : s.grantOf = firstOf (serve s s.effectiveBudget (pre ++ b :: post)) := by
    rw [← hsplit]; rfl
  rw [← (hpre.map s.grantOf).sum_eq, hgrants]
  exact firstOf_serve_after s pre post b _ hnodup

/-! ### The shortages raised (R79) -/

/-- A bed that the recomputation of `s` leaves newly short. -/
def newlyShort (s : State) (b : Fin 24) : Bool :=
  decide (s.grantOf b < (s.heatRec b).request) && !(s.heatRec b).short

/-- The shortfall of a bed in the recomputation of `s`. -/
def shortfall (s : State) (b : Fin 24) : Int := ((s.heatRec b).request : Int) - s.grantOf b

/-- The record of a bed's shortage. -/
def shortNotice (s : State) (b : Fin 24) : Notice :=
  { cause := .budgetShort, cls := (s.cause .budgetShort).cls, subject := .bed b, value := shortfall s b
    second := 0, minute := s.sup.worksMinute }

/-- A bed's grant and short indication by the recomputation of `s`. -/
def granted (s : State) (b : Fin 24) : State → State :=
  modHeat b fun x => { x with grant := s.grantOf b, short := decide (s.grantOf b < (s.heatRec b).request) }

/-- The grants of the recomputation of `s` taken by the beds of a list. -/
def takeGrants (s : State) (l : List (Fin 24)) (t : State) : State := l.foldl (fun u b => takeGrant s b u) t

theorem takeGrants_cons (s : State) (b : Fin 24) (rest : List (Fin 24)) (t : State) :
    takeGrants s (b :: rest) t = takeGrants s rest (takeGrant s b t) := rfl

theorem regrant_eq (s : State) : regrant s = takeGrants s (List.finRange 24) s := by
  rw [← indexes_eq_finRange]; rfl

theorem takeGrant_eq {s t : State} {b : Fin 24} (h : t.heatRec b = s.heatRec b) : takeGrant s b t =
    if newlyShort s b then raise .budgetShort (.bed b) (shortfall s b) (granted s b t) else granted s b t := by
  rw [takeGrant, h]
  rfl

/-- A recomputation's grants change the heat records, and what a raised cause changes. -/
theorem takeGrant_only (s t : State) (b : Fin 24) : takeGrant s b t =
    { t with line := { t.line with portP := (takeGrant s b t).line.portP, seq := (takeGrant s b t).line.seq }
             heat := { t.heat with recs := (takeGrant s b t).heat.recs }
             notice := (takeGrant s b t).notice } := by
  unfold takeGrant
  dsimp only
  split
  · rw [StepProofs.raise_eq]; rfl
  · rfl

/-- `t` is `s` but for heat records and what a raised cause changes. -/
def onlyGranted (s t : State) : Prop :=
  t = { s with line := { s.line with portP := t.line.portP, seq := t.line.seq }
               heat := { s.heat with recs := t.heat.recs }, notice := t.notice }

theorem regrant_only (s : State) : onlyGranted s (regrant s) := by
  refine forEach_induction s (onlyGranted s) (takeGrant s) (fun b t ht => ?_) rfl
  have hnext := takeGrant_only s t b
  rw [onlyGranted] at ht ⊢
  rw [ht] at hnext ⊢
  exact hnext

theorem takeGrant_unserved {s t : State} {b : Fin 24} {rest : List (Fin 24)} (hb : b ∉ rest)
    (hrec : ∀ k ∈ b :: rest, t.heatRec k = s.heatRec k) : ∀ k ∈ rest, (takeGrant s b t).heatRec k = s.heatRec k := by
  intro k hk
  rw [takeGrant_heatRec, if_neg (by rintro rfl; exact hb hk)]
  exact hrec k (List.mem_cons_of_mem _ hk)

theorem takeGrants_quiet {s t : State} {l : List (Fin 24)} (hl : l.Nodup)
    (hrec : ∀ b ∈ l, t.heatRec b = s.heatRec b) (hnone : ∀ b ∈ l, newlyShort s b = false) :
    (takeGrants s l t).notice = t.notice := by
  induction l generalizing t with
  | nil => rfl
  | cons b rest ih =>
    obtain ⟨hb, hrest⟩ := List.nodup_cons.mp hl
    have hnext : takeGrant s b t = granted s b t := by
      rw [takeGrant_eq (hrec b List.mem_cons_self), hnone b List.mem_cons_self]
      rfl
    rw [takeGrants_cons, ih hrest (takeGrant_unserved hb hrec) fun k hk => hnone k (List.mem_cons_of_mem _ hk),
      hnext]
    rfl

theorem takeGrants_flag {s t : State} {l : List (Fin 24)} (hl : l.Nodup)
    (hrec : ∀ b ∈ l, t.heatRec b = s.heatRec b)
    (hset : flagSet .budgetShort t ∨ ∃ b ∈ l, newlyShort s b = true) :
    flagSet .budgetShort (takeGrants s l t) := by
  induction l generalizing t with
  | nil => exact hset.resolve_right fun ⟨_, hb, _⟩ => List.not_mem_nil hb
  | cons b rest ih =>
    obtain ⟨hb, hrest⟩ := List.nodup_cons.mp hl
    refine ih hrest (takeGrant_unserved hb hrec) ?_
    show flagSet _ (takeGrant s b t) ∨ _
    rw [takeGrant_eq (hrec b List.mem_cons_self)]
    by_cases hshort : newlyShort s b = true
    · rw [if_pos hshort]
      exact .inl (raise_flagSet ..)
    · rw [if_neg hshort]
      refine hset.imp id fun ⟨k, hk, hnew⟩ => ⟨k, (List.mem_cons.mp hk).resolve_left ?_, hnew⟩
      rintro rfl
      exact hshort hnew

/-- The state reads, for the records of the shortages of `s`, as `s` does, and no NOTICE frame can be offered. -/
structure ShortQueued (s t : State) : Prop where
  unmasked : (t.cause .budgetShort).masked = false
  cls : (t.cause .budgetShort).cls = (s.cause .budgetShort).cls
  station : t.mgmt.noticeStation = none
  minute : t.sup.worksMinute = s.sup.worksMinute

/-- A shortage raised where its record is queued. -/
theorem raise_short_queued {s t : State} (h : ShortQueued s t) (hroom : t.notice.queue.length < 32) (b : Fin 24) :
    (raise .budgetShort (.bed b) (shortfall s b) t).notice.queue = t.notice.queue ++ [shortNotice s b]
      ∧ ShortQueued s (raise .budgetShort (.bed b) (shortfall s b) t) := by
  have hraise : raise .budgetShort (.bed b) (shortfall s b) t =
      updateAttn (setNoticeQueue (t.notice.queue ++ [shortNotice s b])
        (modCause .budgetShort (fun k => { k with flag := true }) t)) := by
    have hnotice : NoticeQueueProofs.noticeOf .budgetShort (.bed b) (shortfall s b) 0 t = shortNotice s b := by
      simp only [NoticeQueueProofs.noticeOf, shortNotice, h.cls, h.minute]
    rw [raise, raise2, recordCause_queued h.unmasked (by decide) hroom, hnotice]
    exact offerNotice_none (.inl h.station)
  rw [hraise]
  refine ⟨rfl, ?_, ?_, h.station, h.minute⟩
  · simpa using h.unmasked
  · simpa using h.cls

theorem takeGrants_queue {s t : State} {l : List (Fin 24)} (hl : l.Nodup)
    (hrec : ∀ b ∈ l, t.heatRec b = s.heatRec b) (hqueued : ShortQueued s t)
    (hroom : t.notice.queue.length + (l.filter (newlyShort s)).length ≤ 32) :
    (takeGrants s l t).notice.queue = t.notice.queue ++ (l.filter (newlyShort s)).map (shortNotice s) := by
  induction l generalizing t with
  | nil => exact (List.append_nil _).symm
  | cons b rest ih =>
    obtain ⟨hb, hrest⟩ := List.nodup_cons.mp hl
    have hnext := takeGrant_unserved hb hrec
    rw [takeGrants_cons]
    rw [takeGrant_eq (hrec b List.mem_cons_self)] at hnext ⊢
    have hgranted : ShortQueued s (granted s b t) := ⟨hqueued.1, hqueued.2, hqueued.3, hqueued.4⟩
    by_cases hshort : newlyShort s b = true
    · simp only [List.filter_cons, hshort, if_true, List.length_cons] at hroom hnext ⊢
      have hlt : (granted s b t).notice.queue.length < 32 := by
        have hsame : (granted s b t).notice = t.notice := rfl
        rw [hsame]; omega
      obtain ⟨hqueue, hafter⟩ := raise_short_queued hgranted hlt b
      have hsame : (granted s b t).notice.queue = t.notice.queue := rfl
      rw [ih hrest hnext hafter (by rw [hqueue, hsame, List.length_append, List.length_singleton]; omega), hqueue]
      simp [hsame]
    · simp only [List.filter_cons, hshort, if_false, Bool.false_eq_true] at hroom hnext ⊢
      exact ih hrest hnext hgranted hroom

end Sys2Proof.AllocationProofs
end

section
/-! SUPPORT. The HEAT frames of a recomputation (R80, R81), and the allocation in full (O26). -/
namespace Sys2Proof.AllocationProofs

open Sys2Proof Sys2Proof.Machine Sys2Proof.RequestProofs Sys2Proof.TableProofs Sys2Proof.HeatLawProofs
  Sys2Proof.FlagProofs Sys2Proof.LineProofs Sys2Proof.HeaterProofs

/-! ### A run of HEAT frames -/

/-- The room of the port F normal lane (R147). -/
def ringSpace (s : State) : Nat := 16 - s.line.portF.normal.length

/-- The sequence of the frame of the `i`th bed of a run (R80, log entry 7). -/
def runSeq (s : State) (i : Nat) : Byte := s.heat.seq + byteOf (i + 1)

/-- The HEAT frame of the `i`th bed of a run. -/
def runFrame (d : Fin 24 → Nat) (s : State) (i : Nat) (b : Fin 24) : Frame :=
  { dst := (s.bedEntry b).heater.getD 0#8, src := s.sup.station, kind := 0x02#8, seq := runSeq s i, flags := 1#8
    payload := enc1 b.val ++ enc1 (s.bedEntry b).channel.val ++ enc2 (d b) }

/-- A bed's heat record after the run. -/
def runRec (d : Fin 24 → Nat) (s : State) (order : List (Fin 24)) (b : Fin 24) : HeatRec :=
  { s.heatRec b with
    duty := if b ∈ order then d b else (s.heatRec b).duty
    refresh := if b ∈ order then 60 else (s.heatRec b).refresh
    wait := if order.idxOf b < min (ringSpace s) order.length then
        some { duty := d b, left := 20, seq := runSeq s (order.idxOf b) }
      else (s.heatRec b).wait }

/-- The duties `d` taken by the beds of a list and offered in HEAT frames. -/
def sendDuties (d : Fin 24 → Nat) (order : List (Fin 24)) (s : State) : State :=
  order.foldl (fun u b => sendDuty (b, d b) u) s

/-- What a run of HEAT frames does. -/
structure DutiesSent (d : Fin 24 → Nat) (order : List (Fin 24)) (s t : State) : Prop where
  portF : t.line.portF = { s.line.portF with
    normal := s.line.portF.normal ++ (order.mapIdx (runFrame d s)).take (ringSpace s) }
  heat : t.heat = { s.heat with recs := t.heat.recs, seq := s.heat.seq + byteOf order.length }
  recs : ∀ b, t.heatRec b = runRec d s order b
  only : t = { s with line := t.line, heat := t.heat, notice := t.notice }
  kept : order.length ≤ ringSpace s → t.notice = s.notice
  overflow : (ringSpace s < order.length → flagSet .insertOverflow t)
  flags : ∀ c, flagSet c s → flagSet c t

/-- The state of one bed's duty sent, but for the lane and the notice unit. -/
def dutyTaken (b : Fin 24) (duty : Nat) (wait : Option AckWait) (s : State) : State :=
  modHeat b (fun h => { h with duty := duty, refresh := 60, wait := wait })
    { s with heat := { s.heat with seq := s.heat.seq + 1#8 } }

theorem modHeat_twice (b : Fin 24) (f g : HeatRec → HeatRec) (s : State) :
    modHeat b f (modHeat b g s) = modHeat b (fun h => f (g h)) s := by
  simp [modHeat, tset, State.heatRec, tget]

theorem sendDuty_eq (b : Fin 24) (duty : Nat) (s : State) : sendDuty (b, duty) s =
    offerNormal .fPort (runFrame (fun _ => duty) s 0 b) (dutyTaken b duty
      (if s.laneRoom .fPort then some { duty := duty, left := 20, seq := runSeq s 0 } else (s.heatRec b).wait) s) := by
  have hstate : ∀ g : HeatRec → HeatRec, modHeat b g (nextHeatSeq (modHeat b (fun h => { h with duty := duty }) s)) =
      modHeat b (fun h => g { h with duty := duty }) (nextHeatSeq s) :=
    fun g => modHeat_twice b g (fun h => { h with duty := duty }) (nextHeatSeq s)
  rw [sendDuty, offerHeat, hstate]
  rfl

theorem sendDuty_room {s : State} (hroom : s.ringRoom) (b : Fin 24) (duty : Nat) : sendDuty (b, duty) s =
    withRingFrame (runFrame (fun _ => duty) s 0 b)
      (dutyTaken b duty (some { duty := duty, left := 20, seq := runSeq s 0 }) s) := by
  have hlane : s.laneRoom .fPort = true := decide_eq_true hroom
  rw [sendDuty_eq, hlane, offerNormal_room _ _ _ (by exact hlane)]
  rfl

theorem sendDuty_full {s : State} (hfull : ¬s.ringRoom) (b : Fin 24) (duty : Nat) : sendDuty (b, duty) s =
    raise .insertOverflow (.port .fPort) (kHeat.toNat : Int) (dutyTaken b duty (s.heatRec b).wait s) := by
  have hlane : s.laneRoom .fPort = false := decide_eq_false hfull
  have htaken : ∀ w, (dutyTaken b duty w s).laneRoom .fPort = false := fun _ => hlane
  rw [sendDuty_eq, hlane, offerNormal, htaken]
  rfl

theorem dutyTaken_heatRec (b j : Fin 24) (duty : Nat) (w : Option AckWait) (s : State) :
    (dutyTaken b duty w s).heatRec j =
      if j = b then { s.heatRec b with duty := duty, refresh := 60, wait := w } else s.heatRec j :=
  modHeat_heatRec ..

/-! ### A run by its first bed -/

theorem runSeq_succ {s t : State} (h : t.heat.seq = s.heat.seq + 1#8) (i : Nat) : runSeq t i = runSeq s (i + 1) := by
  have hbyte : byteOf (i + 1 + 1) = byteOf (i + 1) + 1#8 := BitVec.ofNat_add ..
  rw [runSeq, runSeq, h, hbyte, BitVec.add_assoc, BitVec.add_comm (1#8)]

/-- The rest of a run after its first bed. -/
theorem DutiesSent.cons {d : Fin 24 → Nat} {b : Fin 24} {rest : List (Fin 24)} {s u t : State}
    (hb : b ∉ rest) (first : DutiesSent d [b] s u) (next : DutiesSent d rest u t) :
    DutiesSent d (b :: rest) s t := by
  have hseq : u.heat.seq = s.heat.seq + 1#8 := by rw [first.heat]; rfl
  have hspace : ringSpace u = ringSpace s - 1 := by
    have hlength := congrArg (List.length ∘ PortUnit.normal) first.portF
    simp only [Function.comp, List.mapIdx_cons, List.mapIdx_nil, List.length_append, List.length_take,
      List.length_singleton] at hlength
    unfold ringSpace at *
    omega
  have hframe : runFrame d u = fun i => runFrame d s (i + 1) := by
    funext i c
    rw [runFrame, runSeq_succ hseq, first.only]
    rfl
  refine ⟨?_, ?_, fun c => ?_, ?_, fun hfits => ?_, fun hover => ?_, fun c h => next.flags c (first.flags c h)⟩
  · rw [next.portF, first.portF, hframe, hspace]
    cases ringSpace s with
    | zero => simp
    | succ n => simp [List.mapIdx_cons]
  · have hlast : u.heat.seq + byteOf rest.length = s.heat.seq + byteOf (b :: rest).length := by
      have hbyte : byteOf (rest.length + 1) = byteOf rest.length + 1#8 := BitVec.ofNat_add ..
      rw [hseq, List.length_cons, hbyte, BitVec.add_comm (byteOf _), BitVec.add_assoc]
    rw [next.heat, hlast, first.heat]
  · rw [next.recs c]
    unfold runRec
    rw [first.recs c, hspace, runSeq_succ hseq]
    by_cases hc : c = b
    · subst hc
      simp [runRec, hb]
    · have hne : b ≠ c := fun h => hc h.symm
      simp [runRec, hc, hne, Nat.lt_sub_iff_add_lt]
  · rw [next.only, first.only]
  · rw [List.length_cons] at hfits
    rw [next.kept (by omega), first.kept (by rw [List.length_singleton]; omega)]
  · rw [List.length_cons] at hover
    by_cases hfull : ringSpace s = 0
    · exact next.flags _ (first.overflow (by rw [hfull]; exact Nat.one_pos))
    · exact next.overflow (by omega)

theorem DutiesSent.nil (d : Fin 24 → Nat) (s : State) : DutiesSent d [] s s where
  portF := by simp
  heat := by
    have hzero : s.heat.seq + byteOf 0 = s.heat.seq := BitVec.add_zero _
    rw [List.length_nil, hzero]
  recs _ := by simp [runRec]
  only := rfl
  kept _ := rfl
  overflow h := absurd h (Nat.not_lt_zero _)
  flags _ := id

theorem DutiesSent.one (d : Fin 24 → Nat) (b : Fin 24) (s : State) :
    DutiesSent d [b] s (sendDuty (b, d b) s) := by
  have hframe : runFrame (fun _ => d b) s 0 b = runFrame d s 0 b := rfl
  by_cases hroom : s.ringRoom
  · have hspace : 0 < ringSpace s := Nat.sub_pos_of_lt hroom
    obtain ⟨n, hn⟩ := Nat.exists_eq_add_of_lt hspace
    rw [sendDuty_room hroom]
    refine ⟨?_, rfl, fun c => ?_, rfl, fun _ => rfl, fun h => absurd h (Nat.not_lt.mpr hspace), fun c h => h⟩
    · simp [hn, hframe, withRingFrame, dutyTaken, modHeat]
    · refine (dutyTaken_heatRec ..).trans ?_
      by_cases hc : c = b
      · simp [hc, runRec, hspace]
      · simp [hc, runRec]
  · have hspace : ringSpace s = 0 := Nat.sub_eq_zero_of_le (not_lt.mp hroom)
    rw [sendDuty_full hroom]
    refine ⟨?_, ?_, fun c => ?_, ?_, fun h => ?_, fun _ => raise_flagSet .., fun c h => ?_⟩
    · rw [StepProofs.raise_eq]
      simp [hspace, dutyTaken, modHeat]
    · rw [StepProofs.raise_eq]
      rfl
    · have hrec : (raise .insertOverflow (.port .fPort) (kHeat.toNat : Int)
          (dutyTaken b (d b) (s.heatRec b).wait s)).heatRec c =
          (dutyTaken b (d b) (s.heatRec b).wait s).heatRec c := by simp [State.heatRec]
      rw [hrec, dutyTaken_heatRec]
      by_cases hc : c = b
      · simp [hc, runRec, hspace]
      · simp [hc, runRec, hspace]
    · rw [StepProofs.raise_eq]
      rfl
    · rw [hspace] at h
      cases h
    · exact (flagSet_kept c).raise _ _ _ (by exact h)

/-- The run of HEAT frames of a recomputation, no bed twice. -/
theorem sendDuties_sent (d : Fin 24 → Nat) {order : List (Fin 24)} (hnodup : order.Nodup) (s : State) :
    DutiesSent d order s (sendDuties d order s) := by
  induction order generalizing s with
  | nil => exact .nil d s
  | cons b rest ih =>
    obtain ⟨hb, hrest⟩ := List.nodup_cons.mp hnodup
    exact .cons hb (.one d b s) (ih hrest _)

/-! ### The recomputation -/

/-- The duty a bed's grant calls for in the recomputation of `s` (5.2). -/
def newDuty (s : State) (b : Fin 24) : Nat := s.grantOf b * 1000 / (s.bedEntry b).ratedPower

/-- A DRIVEN bed whose duty falls. -/
def dutyFalls (s : State) (b : Fin 24) : Bool :=
  (s.heatRec b).state == .driven && decide (newDuty s b < (s.heatRec b).duty)

/-- A DRIVEN bed whose duty rises. -/
def dutyRises (s : State) (b : Fin 24) : Bool :=
  (s.heatRec b).state == .driven && decide ((s.heatRec b).duty < newDuty s b)

/-- The beds whose duty changes: the falling ones, then the rising ones (R80). -/
def dutyOrder (s : State) : List (Fin 24) :=
  (List.finRange 24).filter (dutyFalls s) ++ (List.finRange 24).filter (dutyRises s)

theorem dutyRises_of_falls {s : State} {b : Fin 24} (h : dutyFalls s b = true) : dutyRises s b = false := by
  simp only [dutyFalls, dutyRises, Bool.and_eq_true, decide_eq_true_eq, Bool.and_eq_false_iff,
    decide_eq_false_iff_not] at *
  omega

theorem mem_dutyOrder (s : State) (b : Fin 24) :
    b ∈ dutyOrder s ↔ (dutyFalls s b || dutyRises s b) = true := by
  simp [dutyOrder]

theorem dutyOrder_nodup (s : State) : (dutyOrder s).Nodup := by
  refine List.nodup_append.mpr ⟨(List.nodup_finRange 24).filter _, (List.nodup_finRange 24).filter _, ?_⟩
  intro b hb c hc hsame
  simp only [List.mem_filter, dutyFalls, dutyRises, Bool.and_eq_true, decide_eq_true_eq] at hb hc
  subst hsame
  omega

theorem dutyChange_regrant (s : State) (b : Fin 24) : dutyChange (regrant s) b =
    if dutyFalls s b then some (false, newDuty s b) else if dutyRises s b then some (true, newDuty s b) else none := by
  have hduty : (regrant s).dutyOf b (s.grantOf b) = newDuty s b := by
    simp [State.dutyOf, newDuty, State.bedEntry]
  simp only [dutyChange, regrant_heatRec, hduty, dutyFalls, dutyRises]
  by_cases hdriven : (s.heatRec b).state = .driven
  · rcases lt_trichotomy (newDuty s b) (s.heatRec b).duty with hlt | heq | hgt
    · simp [hdriven, hlt, hlt.ne, hlt.le]
    · simp [hdriven, heq]
    · simp [hdriven, hgt, hgt.ne', hgt.le]
  · simp [hdriven]

theorem filterMap_guard {α β : Type} (p : α → Bool) (g : α → β) (l : List α) :
    l.filterMap (fun a => if p a then some (g a) else none) = (l.filter p).map g := by
  induction l with
  | nil => rfl
  | cons a rest ih =>
    cases hp : p a
    · simp [hp, ih]
    · simp [hp, ih]

theorem heatFrames_regrant (s : State) :
    heatFrames (regrant s) = (dutyOrder s).map fun b => (b, newDuty s b) := by
  have hchanges : ∀ rising, dutyChanges (regrant s) rising =
      ((List.finRange 24).filter (if rising then dutyRises s else dutyFalls s)).map fun b => (b, newDuty s b) := by
    intro rising
    rw [← filterMap_guard, dutyChanges, indexes_eq_finRange]
    refine List.filterMap_congr fun b _ => ?_
    rw [dutyChange_regrant]
    by_cases hfalls : dutyFalls s b = true
    · cases rising <;> simp [hfalls, dutyRises_of_falls hfalls]
    · by_cases hrises : dutyRises s b = true
      · cases rising <;> simp [hfalls, hrises]
      · cases rising <;> simp [hfalls, hrises]
  rw [heatFrames, hchanges, hchanges, dutyOrder, List.map_append]
  rfl

theorem recompute_eq (s : State) : recompute s = sendDuties (newDuty s) (dutyOrder s) (regrant s) := by
  rw [recompute, heatFrames_regrant, List.foldl_map]
  rfl

theorem runFrame_regrant (d : Fin 24 → Nat) (s : State) : runFrame d (regrant s) = fun i b =>
    { dst := (s.bedEntry b).heater.getD 0#8, src := s.sup.station, kind := 0x02#8, seq := runSeq (regrant s) i
      flags := 1#8, payload := enc1 b.val ++ enc1 (s.bedEntry b).channel.val ++ enc2 (d b) } := by
  funext i b
  simp [runFrame, State.bedEntry]

/-- The HEAT frames that follow the grants. -/
theorem recompute_sent (s : State) : DutiesSent (newDuty s) (dutyOrder s) (regrant s) (recompute s) := by
  rw [recompute_eq]
  exact sendDuties_sent _ (dutyOrder_nodup s) _

theorem recompute_grant (s : State) (b : Fin 24) :
    ((recompute s).heatRec b).grant = s.grantOf b ∧ ((recompute s).heatRec b).request = (s.heatRec b).request
      ∧ ((recompute s).heatRec b).short = decide (s.grantOf b < (s.heatRec b).request) := by
  rw [(recompute_sent s).recs b, runRec, regrant_heatRec]
  exact ⟨rfl, rfl, rfl⟩

theorem foldl_add_eq_sum {α : Type} (g : α → Nat) (l : List α) :
    l.foldl (fun n k => n + g k) 0 = (l.map g).sum := by
  rw [← List.foldl_map, List.sum_eq_foldl]

/-- Settles O26: the grants as the beds are served in turn, the shortages bed by bed, and the run of HEAT frames. -/
theorem allocationByClass : Obligations.AllocationByClass := by
  unfold Obligations.AllocationByClass
  intro s t before
  have hsent : DutiesSent (newDuty s) (dutyOrder s) (regrant s) t := recompute_sent s
  have hgrant : ∀ b, (t.heatRec b).grant = s.grantOf b := fun b => (recompute_grant s b).1
  have hrequest : ∀ b, (t.heatRec b).request = (s.heatRec b).request := fun b => (recompute_grant s b).2.1
  have hshort : ∀ b, (t.heatRec b).short = decide (s.grantOf b < (s.heatRec b).request) :=
    fun b => (recompute_grant s b).2.2
  refine ⟨fun b hb => ?_, fun b hb => ?_, hrequest, ?_, fun b => ?_, ?_⟩
  · simp only [hgrant, foldl_add_eq_sum, before]
    exact grantOf_curing s b hb _ fun k => decide_eq_true_iff
  · rw [hgrant, grantOf_idle hb]
  · simp only [State.grantSum, hgrant]
    exact grantOf_sum_le s
  · rw [hshort, hgrant, hrequest]
  · intro duty falls rises order seq frames room newly
    have honly := regrant_only s
    have hregrant : (regrant s).line.portF = s.line.portF ∧ (regrant s).heat.seq = s.heat.seq := by
      rw [honly]; exact ⟨rfl, rfl⟩
    have hduty : duty = newDuty s := by
      funext b; simp only [duty, hgrant]; rfl
    have hfalls : falls = dutyFalls s := by simp only [falls, hduty]; rfl
    have hrises : rises = dutyRises s := by simp only [rises, hduty]; rfl
    have horder : order = dutyOrder s := by simp only [order, hfalls, hrises]; rfl
    have hroom : room = ringSpace (regrant s) := by rw [ringSpace, hregrant.1]
    have hseq : seq = runSeq (regrant s) := by funext i; rw [runSeq, hregrant.2]
    have hframes : frames = (dutyOrder s).mapIdx (runFrame (newDuty s) (regrant s)) := by
      simp only [frames, horder, hduty, hseq, runFrame_regrant]
    have hnewly : newly = (List.finRange 24).filter (newlyShort s) := by
      refine List.filter_congr fun b _ => ?_
      rw [hshort, newlyShort, Bool.and_comm]
    have hstart : ∀ b ∈ List.finRange 24, s.heatRec b = s.heatRec b := fun _ _ => rfl
    have hmem : ∀ b, (b ∈ dutyOrder s) = ((falls b || rises b) = true) := by
      intro b; rw [hfalls, hrises, mem_dutyOrder]
    refine ⟨?portF, fun b => ?recs, ?heat, fun hnew => ?short, fun hover => ?overflow, fun hnone hfits => ?quiet,
      fun hmask hstation hqueue hfits => ?queue, ?only⟩
    case portF => rw [hsent.portF, hregrant.1, hframes, hroom]
    case recs =>
      rw [hsent.recs b, runRec, regrant_heatRec, horder, hroom, hduty, hseq]
      simp only [hmem]
    case heat =>
      rw [hsent.heat, hregrant.2, horder, honly]
    case short =>
      refine hsent.flags _ ?_
      rw [regrant_eq]
      refine takeGrants_flag (List.nodup_finRange 24) hstart (.inr ?_)
      obtain ⟨b, hb⟩ := List.exists_mem_of_ne_nil _ (hnewly ▸ hnew)
      exact ⟨b, List.mem_finRange b, (List.mem_filter.mp hb).2⟩
    case overflow =>
      rw [horder, hroom] at hover
      exact hsent.overflow hover
    case quiet =>
      rw [horder, hroom] at hfits
      rw [hsent.kept hfits, regrant_eq]
      refine takeGrants_quiet (List.nodup_finRange 24) hstart fun b hb => ?_
      have hnot := List.filter_eq_nil_iff.mp (hnewly ▸ hnone) b hb
      exact Bool.eq_false_iff.mpr hnot
    case queue =>
      rw [horder, hroom] at hfits
      rw [hnewly] at hqueue ⊢
      rw [hsent.kept hfits, regrant_eq,
        takeGrants_queue (List.nodup_finRange 24) hstart ⟨hmask, rfl, hstation, rfl⟩ hqueue]
      simp only [hgrant]
      rfl
    case only => rw [hsent.only, honly]

end Sys2Proof.AllocationProofs
end

section
/-!
SUPPORT. The frames that wait for a block are no concern of what the block does: an operation taken with other intake and
handed-over queues does the same and leaves those queues. With it SET_BUDGET and SHED (O27).
-/
namespace Sys2Proof.BudgetProofs

open Sys2Proof Sys2Proof.Machine Sys2Proof.RequestProofs Sys2Proof.HeatLawProofs Sys2Proof.AllocationProofs
  Sys2Proof.SettleProofs

/-! ### Operations beside the waiting frames -/

/-- The state with other frames waiting in the intake queue and among those handed over. -/
def withQueues (intake handed : List Frame) (s : State) : State :=
  { s with line := { s.line with intake := intake, handed := handed } }

/-- An operation that neither reads nor changes the waiting frames. -/
def BesideQueues (act : State → State) : Prop :=
  ∀ intake handed s, act (withQueues intake handed s) = withQueues intake handed (act s)

theorem BesideQueues.comp {act next : State → State} (h : BesideQueues act) (g : BesideQueues next) :
    BesideQueues fun s => next (act s) := fun i l s => by
  show next (act (withQueues i l s)) = withQueues i l (next (act s))
  rw [h, g]

theorem BesideQueues.queues {act : State → State} (h : BesideQueues act) (s : State) :
    (act s).line.intake = s.line.intake ∧ (act s).line.handed = s.line.handed := by
  have hsame : act s = withQueues s.line.intake s.line.handed (act s) := h s.line.intake s.line.handed s
  exact ⟨congrArg (fun t => t.line.intake) hsame, congrArg (fun t => t.line.handed) hsame⟩

theorem BesideQueues.takeIntake {act : State → State} (h : BesideQueues act) (f : Frame) (s : State) :
    act (takeIntake f s) = Machine.takeIntake f (act s) := by
  obtain ⟨hintake, hhanded⟩ := h.queues s
  have hnext := h (intakeWithout f s.line.intake) s.line.handed s
  rw [takeIntake_line, takeIntake_line, hintake]
  refine hnext.trans ?_
  rw [withQueues, ← hhanded]

theorem raise_besideQueues (c : Cause) (u : Subject) (v : Int) : BesideQueues (raise c u v) := by
  intro i h s
  rw [StepProofs.raise_congr (s := s) (t := withQueues i h s) c u v rfl rfl rfl rfl rfl, StepProofs.raise_eq c u v s]
  rfl

theorem offerNormal_besideQueues (q : Port) (f : Frame) : BesideQueues (offerNormal q f) := by
  intro i h s
  have hlane : (withQueues i h s).laneRoom q = s.laneRoom q := by cases q <;> rfl
  rw [offerNormal, offerNormal, hlane]
  split
  · cases q <;> rfl
  · exact raise_besideQueues _ _ _ i h s

theorem sendDuty_besideQueues (x : Fin 24 × Nat) : BesideQueues (sendDuty x) := by
  intro i h s
  rw [sendDuty_eq, sendDuty_eq]
  exact offerNormal_besideQueues _ _ i h (dutyTaken x.1 x.2 _ s)

theorem takeGrant_besideQueues (s0 : State) (b : Fin 24) : BesideQueues (takeGrant s0 b) := by
  intro i h s
  have hrec : (withQueues i h s).heatRec b = s.heatRec b := rfl
  have hmod : ∀ g, modHeat b g (withQueues i h s) = withQueues i h (modHeat b g s) := fun _ => rfl
  simp only [takeGrant, hrec, hmod, raise_besideQueues _ _ _ i h]
  split
  · rfl
  · rfl

theorem foldl_besideQueues {α : Type} (act : α → State → State) (hact : ∀ x, BesideQueues (act x)) (l : List α) :
    BesideQueues fun s => l.foldl (fun u x => act x u) s := by
  induction l with
  | nil => exact fun _ _ _ => rfl
  | cons x rest ih => exact (hact x).comp ih

theorem grantOf_withQueues (i h : List Frame) (s : State) : (withQueues i h s).grantOf = s.grantOf := by
  have hserve : ∀ (l : List (Fin 24)) (left : Nat), serve (withQueues i h s) left l = serve s left l := by
    intro l
    induction l with
    | nil => exact fun _ => rfl
    | cons b rest ih =>
      intro left
      have hrec : (withQueues i h s).heatRec b = s.heatRec b := rfl
      simp only [serve, hrec, ih]
  funext b
  unfold State.grantOf
  rw [hserve]
  rfl

theorem recompute_besideQueues : BesideQueues recompute := by
  intro i h s
  have hgrant : takeGrant (withQueues i h s) = takeGrant s := by
    funext b t
    simp only [takeGrant, grantOf_withQueues]
  have hregrant : regrant (withQueues i h s) = withQueues i h (regrant s) := by
    rw [regrant, hgrant]
    exact foldl_besideQueues (takeGrant s) (takeGrant_besideQueues s) _ i h s
  have hframes : heatFrames (withQueues i h (regrant s)) = heatFrames (regrant s) := by
    have hchange : ∀ u, dutyChange (withQueues i h u) = dutyChange u := fun _ => rfl
    simp only [heatFrames, dutyChanges, hchange]
  rw [recompute, recompute, hregrant, hframes]
  exact foldl_besideQueues sendDuty sendDuty_besideQueues _ i h (regrant s)

/-! ### A recomputation that finds nothing to change -/

theorem modHeat_same {s : State} {b : Fin 24} {g : HeatRec → HeatRec} (h : g (s.heatRec b) = s.heatRec b) :
    modHeat b g s = s := by
  have hset : tset s.heat.recs b (s.heatRec b) = s.heat.recs := Vector.set_getElem_self b.isLt
  rw [modHeat, h, hset]

/-- Grants, short indications and duties are those of the allocation as it stands. -/
def allocated (s : State) : Prop :=
  ∀ b, (s.heatRec b).grant = s.grantOf b
    ∧ (s.heatRec b).short = decide ((s.heatRec b).grant < (s.heatRec b).request)
    ∧ ((s.heatRec b).state = .driven →
        (s.heatRec b).duty = (s.heatRec b).grant * 1000 / (s.bedEntry b).ratedPower)

theorem recompute_of_allocated {s : State} (h : allocated s) : recompute s = s := by
  have hnewly : ∀ b, newlyShort s b = false := by
    intro b
    obtain ⟨hgrant, hshort, -⟩ := h b
    rw [newlyShort, hshort, ← hgrant, Bool.and_not_self]
  have hregrant : regrant s = s := by
    refine forEach_induction s (fun t => t = s) (takeGrant s) (fun b t ht => ?_) rfl
    obtain ⟨hgrant, hshort, -⟩ := h b
    rw [ht, takeGrant_eq rfl, if_neg (Bool.eq_false_iff.mp (hnewly b)), granted]
    refine modHeat_same ?_
    rw [← hgrant, ← hshort]
  have horder : dutyOrder s = [] := by
    refine List.eq_nil_iff_forall_not_mem.mpr fun b hb => ?_
    obtain ⟨hgrant, -, hduty⟩ := h b
    rw [mem_dutyOrder, dutyFalls, dutyRises, newDuty, ← hgrant, ← Bool.and_or_distrib_left, Bool.and_eq_true,
      beq_iff_eq] at hb
    simp [hduty hb.1] at hb
  rw [recompute_eq, horder, hregrant]
  rfl

/-! ### The figures of the reply (R74, R75) -/

/-- The frames of a recomputation are as many as the DRIVEN beds whose duty it changes. -/
theorem length_dutyOrder (s : State) : (dutyOrder s).length = (List.finRange 24).countP fun b =>
    (s.heatRec b).state == .driven && ((recompute s).heatRec b).duty != (s.heatRec b).duty := by
  have hduty : ∀ b, ((s.heatRec b).state == .driven && ((recompute s).heatRec b).duty != (s.heatRec b).duty)
      = (dutyFalls s b || dutyRises s b) := by
    intro b
    rw [(recompute_sent s).recs b, runRec, regrant_heatRec]
    by_cases hb : b ∈ dutyOrder s
    · have hchanges := (mem_dutyOrder s b).mp hb
      rw [hchanges]
      simp only [dutyFalls, dutyRises, ← Bool.and_or_distrib_left, Bool.and_eq_true, Bool.or_eq_true,
        decide_eq_true_eq] at hchanges
      simp [hb, hchanges.1]
      omega
    · rw [Bool.eq_false_iff.mpr (mt (mem_dutyOrder s b).mpr hb)]
      simp [hb]
  simp only [hduty, List.countP_eq_length_filter]
  refine List.Perm.length_eq ((List.perm_ext_iff_of_nodup (dutyOrder_nodup s)
    ((List.nodup_finRange 24).filter _)).mpr fun b => ?_)
  rw [mem_dutyOrder, List.mem_filter]
  simp [List.mem_finRange]

/-- The figures of a reply: the ceilings, the grants of `t`, and how many of the changed duties from `s` to `t`
find no room. -/
def figuresOf (budget shed : Nat) (s t : State) : Bytes :=
  enc2 budget ++ enc2 shed ++ enc2 (min budget shed)
    ++ enc2 ((List.finRange 24).map fun b => (t.heatRec b).grant).sum
    ++ enc2 (((List.finRange 24).countP fun b =>
        (s.heatRec b).state == .driven && (t.heatRec b).duty != (s.heatRec b).duty)
      - (16 - s.line.portF.normal.length))

theorem recompute_ceilings (s : State) :
    (recompute s).heat.budget = s.heat.budget ∧ (recompute s).heat.shedLimit = s.heat.shedLimit := by
  rw [(recompute_sent s).heat, regrant_only s]
  exact ⟨rfl, rfl⟩

theorem heatFigures_recompute (s : State) : heatFigures (refusedCount s) (recompute s) =
    figuresOf s.heat.budget s.heat.shedLimit s (recompute s) := by
  have hroom : (regrant s).line.portF = s.line.portF := by rw [regrant_only s]
  have hcount : (heatFrames (regrant s)).length = _ :=
    (congrArg List.length (heatFrames_regrant s)).trans ((List.length_map _).trans (length_dutyOrder s))
  obtain ⟨hbudget, hshed⟩ := recompute_ceilings s
  rw [heatFigures, refusedCount, hcount, hroom, State.effectiveBudget, hbudget, hshed, State.grantSum,
    TableProofs.indexes_eq_finRange]
  rfl

/-- The allocation recomputed and the figures replied, the request taken from the intake queue. -/
theorem reallocate_takeIntake (f : Frame) (code : Byte) (w : State) :
    reallocate f code (takeIntake f w) = reply f code .ok
      (figuresOf w.heat.budget w.heat.shedLimit w (recompute w)) (takeIntake f (recompute w)) := by
  have hcontents : heatFigures (refusedCount (takeIntake f w)) (recompute (takeIntake f w)) =
      figuresOf w.heat.budget w.heat.shedLimit w (recompute w) := by
    rw [heatFigures_recompute, recompute_besideQueues.takeIntake]
    simp only [figuresOf, State.heatRec, takeIntake_line]
  rw [reallocate, hcontents, recompute_besideQueues.takeIntake]

/-- A ceiling written in `s`: `w` is the state with it. -/
structure CeilingWritten (s w : State) : Prop where
  only : w = { s with heat := { s.heat with budget := w.heat.budget, shedLimit := w.heat.shedLimit } }

/-- What follows the writing of a ceiling: the recomputation and the reply of its figures. -/
theorem reallocated {f : Frame} {code : Byte} {s w t : State} (hw : CeilingWritten s w)
    (ht : t = reallocate f code (takeIntake f w)) :
    t.heat.budget = w.heat.budget ∧ t.heat.shedLimit = w.heat.shedLimit
      ∧ (∀ b, (t.heatRec b).grant = w.grantOf b ∧ (t.heatRec b).request = (s.heatRec b).request)
      ∧ ((recompute w).replyRoom →
          t = answered f code .ok (figuresOf w.heat.budget w.heat.shedLimit s t) (recompute w))
      ∧ (w = s → allocated s → s.replyRoom →
          t = answered f code .ok (figuresOf w.heat.budget w.heat.shedLimit s s) s)
      ∧ t = { s with line := t.line, heat := t.heat, notice := t.notice } := by
  rw [reallocate_takeIntake] at ht
  have hheat : t.heat = (recompute w).heat := by rw [ht, takeIntake_line]; simp
  have hrec : t.heatRec = (recompute w).heatRec := by
    funext b; rw [State.heatRec, State.heatRec, hheat]
  have hbefore : w.heatRec = s.heatRec := by rw [hw.only]; rfl
  have hlane : w.line = s.line := by rw [hw.only]
  have hfigures : figuresOf w.heat.budget w.heat.shedLimit w (recompute w) =
      figuresOf w.heat.budget w.heat.shedLimit s t := by
    simp only [figuresOf, hrec, hbefore, hlane]
  refine ⟨?_, ?_, fun b => ?_, fun hroom => ?_, fun hheld hasHeld hroom => ?_, ?_⟩
  · rw [hheat, (recompute_ceilings w).1]
  · rw [hheat, (recompute_ceilings w).2]
  · obtain ⟨hgrant, hrequest, -⟩ := recompute_grant w b
    rw [hrec, hgrant, hrequest, hbefore]
    exact ⟨rfl, rfl⟩
  · rw [← hfigures, ht, reply_unchanged hroom]
  · rw [ht, hheld, recompute_of_allocated hasHeld, reply_unchanged hroom]
  · rw [ht]
    apply state_eq <;> simp <;> rw [hw.only]

theorem setBudget_of_value {f : Frame} {v : Nat} {s : State} (hv : v < 65536) (h : f.payload = qSetBudget :: enc2 v) :
    setBudget f s = if v ≤ Config.maxBudget then reallocate f qSetBudget (writeBudget v s)
      else reply f qSetBudget .badArg [] s := by
  simp only [setBudget, h, enc2, dec2_enc hv]

theorem shed_of_value {f : Frame} {v : Nat} {s : State} (hv : v < 65536) (h : f.payload = qShed :: enc2 v) :
    shed f s = if v = 0xFFFF then reallocate f qShed (writeShed Config.maxBudget s)
      else if v ≤ Config.maxBudget then reallocate f qShed (writeShed v s)
      else reply f qShed .badArg [] s := by
  simp only [shed, h, enc2, dec2_enc hv]

/-- Settles O27. -/
theorem budgetAndShed : Obligations.BudgetAndShed := by
  unfold Obligations.BudgetAndShed
  intro s f v hrun hv figures asHeld
  have hfigures : ∀ budget limit t, figures budget limit t = figuresOf budget limit s t := fun _ _ _ => rfl
  refine ⟨fun hpayload => ⟨fun hlarge hroom => ?_, fun hfits => ?_⟩,
    fun hpayload => ⟨fun hlarge hlift hroom => ?_, fun hfits => ?_⟩⟩
  · refine exec_request (act := setBudget f) hrun ?_
    rw [setBudget_of_value hv hpayload, if_neg (Nat.not_le.mpr hlarge)]
    exact reply_unchanged hroom
  · have hexec : exec (.setBudget f) s = .next (reallocate f qSetBudget (takeIntake f
        { s with heat := { s.heat with budget := v } })) := by
      refine exec_request (act := setBudget f) hrun ?_
      rw [setBudget_of_value hv hpayload, if_pos hfits, takeIntake_comm (act := writeBudget v) fun _ _ => rfl,
        writeBudget]
    obtain ⟨hbudget, hshed, hgrants, hroom, hheld, honly⟩ := reallocated (f := f) (code := qSetBudget)
      (w := { s with heat := { s.heat with budget := v } }) ⟨rfl⟩ rfl
    refine ⟨_, hexec, hbudget, hshed, hgrants, ?_, fun hsame => hheld (by rw [hsame]), honly⟩
    intro u
    simp only [u, hfigures]
    dsimp only at hroom
    exact hroom
  · refine exec_request (act := shed f) hrun ?_
    rw [shed_of_value hv hpayload, if_neg hlift, if_neg (Nat.not_le.mpr hlarge)]
    exact reply_unchanged hroom
  · intro limit
    have hexec : exec (.shed f) s = .next (reallocate f qShed (takeIntake f
        { s with heat := { s.heat with shedLimit := limit } })) := by
      show _ = Host.Outcome.next (reallocate f qShed (takeIntake f (writeShed limit s)))
      refine exec_request (act := shed f) hrun ?_
      rw [shed_of_value hv hpayload, ← takeIntake_comm (act := writeShed limit) fun _ _ => rfl]
      simp only [limit]
      by_cases hlift : v = 65535
      · rw [if_pos hlift, if_pos hlift]
      · rw [if_neg hlift, if_neg hlift, if_pos (hfits.resolve_right hlift)]
    obtain ⟨hbudget, hshed, hgrants, hroom, hheld, honly⟩ := reallocated (f := f) (code := qShed)
      (w := { s with heat := { s.heat with shedLimit := limit } }) ⟨rfl⟩ rfl
    refine ⟨_, hexec, hshed, hbudget, hgrants, ?_, fun hsame => hheld (by rw [hsame]), honly⟩
    intro u
    simp only [u, hfigures]
    dsimp only at hroom
    exact hroom

end Sys2Proof.BudgetProofs
end

section
/-!
SUPPORT. What follows a bed's change of state (R18, R31, R46, R52, R71, R76), with no order waiting: the plain entries,
the entry to CURING and the leaving of it, and the panel's answer after them.
-/
namespace Sys2Proof.EntryProofs

open Sys2Proof Sys2Proof.Machine Sys2Proof.StepProofs Sys2Proof.RequestProofs Sys2Proof.HeatLawProofs
  Sys2Proof.AllocationProofs Sys2Proof.HeaterProofs Sys2Proof.FlagProofs Sys2Proof.LineProofs Sys2Proof.SettleProofs
  Sys2Proof.BudgetProofs

/-! ### Plain entries -/

section
variable {s t u : State} {b : Fin 24} {new : BedState}

/-- A bed's record and margin at a change of state that heat has no part in. -/
def plainEntry (b : Fin 24) (new : BedState) (s : State) : State := refreshMargin b (modBedRec b (enterRec new) s)

theorem plainEntry_bedRec (k : Fin 24) :
    (plainEntry b new s).bedRec k = if k = b then enterRec new (s.bedRec b) else s.bedRec k := by
  rw [plainEntry, refreshMargin, (modThermal_reads ..).2.1, modBedRec_bedRec]

theorem plainEntry_only : plainEntry b new s =
    { s with bed := { s.bed with recs := (plainEntry b new s).bed.recs }
             curing := { s.curing with thermal := (plainEntry b new s).curing.thermal } } := rfl

theorem plainEntry_thermal (k : Fin 24) : (plainEntry b new s).thermal k =
    { s.thermal k with margin := ((plainEntry b new s).thermal k).margin } := by
  rw [plainEntry, refreshMargin, modThermal_thermal]
  split
  · next hk => rw [hk]; rfl
  · rfl

theorem plainEntry_moved : s.bedMoved (plainEntry b new s) b new := by
  refine ⟨?_, fun k hk => ⟨?_, ?_⟩, rfl, rfl⟩
  · rw [plainEntry_bedRec, if_pos rfl]; rfl
  · rw [plainEntry_bedRec, if_neg hk]
  · rw [plainEntry, refreshMargin, modThermal_thermal, if_neg hk]; rfl

/-- A bed is watched, and the state it comes from is not (R31). -/
abbrev becomesWatched (old new : BedState) : Bool := watchedState new && !watchedState old

theorem atEntry_plain (hnew : new ≠ .curing) (hold : (s.bedRec b).state ≠ .curing) :
    atEntry b new s = plainEntry b new s := by
  rw [atEntry, if_neg hnew, if_neg hold, plainEntry]

theorem enterBed_quiet (hwatch : becomesWatched (s.bedRec b).state new = false) :
    enterBed b new s = noteOpportunity (atEntry b new s) := by
  rw [becomesWatched] at hwatch
  rw [enterBed_eq, hwatch]
  rfl

theorem enterBed_plain (hnew : new ≠ .curing) (hold : (s.bedRec b).state ≠ .curing)
    (hwatch : becomesWatched (s.bedRec b).state new = false) :
    enterBed b new s = noteOpportunity (plainEntry b new s) := by
  rw [enterBed_quiet hwatch, atEntry_plain hnew hold]

/-! ### What an operation leaves of a move -/

theorem bedMoved_congr (h : s.bedMoved t b new) (hbed : u.bed = t.bed) (hcuring : u.curing = t.curing) :
    s.bedMoved u b new := by
  obtain ⟨hstate, hothers, hbeds, hthermals⟩ := h
  have hrec : u.bedRec = t.bedRec := by funext k; rw [State.bedRec, State.bedRec, hbed]
  have hthermal : u.thermal = t.thermal := by funext k; rw [State.thermal, State.thermal, hcuring]
  refine ⟨hrec ▸ hstate, fun k hk => ?_, hbed ▸ hbeds, hcuring ▸ hthermals⟩
  rw [hrec, hthermal]
  exact hothers k hk

theorem modBedRec_moved (h : s.bedMoved t b new) (g : BedRec → BedRec) (hg : (g (t.bedRec b)).state = new) :
    s.bedMoved (modBedRec b g t) b new := by
  obtain ⟨-, hothers, hbeds, hthermals⟩ := h
  refine ⟨?_, fun k hk => ?_, ?_, hthermals⟩
  · rw [modBedRec_bedRec, if_pos rfl, hg]
  · rw [modBedRec_bedRec, if_neg hk, (modBedRec_reads ..).2.1]
    exact hothers k hk
  · show ({ t.bed with recs := _ } : BedUnit) = _
    rw [hbeds]
    rfl

theorem raise_moved (h : s.bedMoved t b new) (c : Cause) (v : Subject) (n : Int) :
    s.bedMoved (raise c v n t) b new :=
  bedMoved_congr h (by simp) (by simp)

/-! ### Opportunities -/

theorem raise_noteOpportunity (c : Cause) (v : Subject) (n : Int) :
    raise c v n (noteOpportunity s) = noteOpportunity (raise c v n s) := by
  rw [raise_congr (s := s) (t := noteOpportunity s) c v n rfl rfl rfl rfl rfl, raise_eq c v n s]
  rfl

theorem noneWaiting_congr (h : s.noneWaiting) (hrunway : t.runway = s.runway) : t.noneWaiting := by
  rw [State.noneWaiting, hrunway]
  exact h

/-- An opportunity handed over with no order waiting. -/
theorem settle_noted (h : s.noneWaiting) (hrunway : t.runway = s.runway) : settle (noteOpportunity t) = t :=
  settle_noteOpportunity (noneWaiting_congr h hrunway)

end

/-! ### The panel's answer -/

section
variable {s t : State} {f : Frame} {x : Byte} {rest : Bytes}

/-- The PANEL_ANSWER frame to a report with a bed byte. -/
def answerFrame (s : State) (f : Frame) (x : Byte) (a : PanelAnswer) : Frame :=
  { dst := f.src, src := s.sup.station, kind := 0x05#8, seq := f.seq, flags := 1#8, payload := x :: a.enc }

theorem panelAnswer_offer (hpayload : f.payload = x :: rest) (a : PanelAnswer) :
    panelAnswer f a s = offerNormal .fPort (answerFrame s f x a) s := by
  rw [panelAnswer, panelFree, panelBedByte, hpayload]
  rfl

/-- The answer changes the lanes and the notice unit alone. -/
theorem panelAnswer_only (hpayload : f.payload = x :: rest) (a : PanelAnswer) : panelAnswer f a s =
    { s with line := (panelAnswer f a s).line, notice := (panelAnswer f a s).notice } := by
  rw [panelAnswer_offer hpayload]
  apply state_eq <;> simp

theorem panelAnswer_reply (hroom : t.ringRoom) (hpayload : f.payload = x :: rest) (a : PanelAnswer) :
    panelAnswer f a t = withRingFrame (answerFrame t f x a) t := by
  have hlane : t.laneRoom .fPort = true := decide_eq_true hroom
  rw [panelAnswer_offer hpayload, offerNormal_room _ _ _ hlane]
  rfl

/-- The lane of port F after the answer, where the act has left it alone. -/
theorem panelAnswer_portF (hroom : s.ringRoom) (hpayload : f.payload = x :: rest) (a : PanelAnswer)
    (hportF : t.line.portF = s.line.portF) (hsup : t.sup = s.sup) :
    (panelAnswer f a t).line.portF = (panelAnswered f x a s).line.portF := by
  rw [panelAnswer_reply (by rw [State.ringRoom, hportF]; exact hroom) hpayload, answerFrame, hsup]
  simp [withRingFrame, panelAnswered, hportF]

/-- The line unit after the answer to a report taken, where the act has left it alone. -/
theorem panelAnswer_line (hroom : s.ringRoom) (hpayload : f.payload = x :: rest) (a : PanelAnswer)
    (hline : t.line = (takeHanded f s).line) (hsup : t.sup = s.sup) :
    (panelAnswer f a t).line = (panelAnswered f x a s).line := by
  rw [panelAnswer_reply (by rw [State.ringRoom, hline]; exact hroom) hpayload, answerFrame, hsup]
  simp only [withRingFrame, panelAnswered, hline]
  rfl

theorem panelAnswer_notice (hroom : t.ringRoom) (hpayload : f.payload = x :: rest) (a : PanelAnswer) :
    (panelAnswer f a t).notice = t.notice := by
  rw [panelAnswer_reply hroom hpayload]
  rfl

theorem panelAnswer_flagSet (c : Cause) (hset : flagSet c t) (a : PanelAnswer) : flagSet c (panelAnswer f a t) :=
  (flagSet_kept c).panelAnswer f a hset

end

end Sys2Proof.EntryProofs
end

section
/-!
SUPPORT. A bed's heat at its entry to CURING and at its leaving (R71, R76): the heater DRIVEN from nothing, and the final HEAT
frame of duty 0 after those of the other beds.
-/
namespace Sys2Proof.HeatEntryProofs

open Sys2Proof Sys2Proof.Machine Sys2Proof.StepProofs Sys2Proof.RequestProofs Sys2Proof.HeatLawProofs
  Sys2Proof.AllocationProofs Sys2Proof.HeaterProofs Sys2Proof.FlagProofs Sys2Proof.LineProofs Sys2Proof.SettleProofs
  Sys2Proof.BudgetProofs Sys2Proof.EntryProofs

section
variable {s t u : State} {b : Fin 24} {new : BedState}

/-! ### A recomputation as seen by one bed -/

theorem newDuty_of_noRequest (h : (s.heatRec b).request = 0) : newDuty s b = 0 := by
  have hgrant : s.grantOf b = 0 := Nat.le_zero.mp (h ▸ grantOf_le_request s b)
  rw [newDuty, hgrant, Nat.zero_mul, Nat.zero_div]

theorem notMem_dutyOrder (hrequest : (s.heatRec b).request = 0) (hduty : (s.heatRec b).duty = 0) :
    b ∉ dutyOrder s := by
  rw [mem_dutyOrder, dutyFalls, dutyRises, newDuty_of_noRequest hrequest, hduty]
  simp

/-- A bed without a request and a duty has its record left, but for the short indication. -/
theorem recompute_idleRec (hrequest : (s.heatRec b).request = 0) (hduty : (s.heatRec b).duty = 0)
    (hgrant : (s.heatRec b).grant = 0) :
    (recompute s).heatRec b = { s.heatRec b with short := ((recompute s).heatRec b).short } := by
  have hmem := notMem_dutyOrder hrequest hduty
  have hzero : s.grantOf b = 0 := Nat.le_zero.mp (hrequest ▸ grantOf_le_request s b)
  have hlast : ¬(dutyOrder s).idxOf b < min (ringSpace (regrant s)) (dutyOrder s).length := by
    rw [List.idxOf_eq_length hmem]
    omega
  rw [(recompute_sent s).recs b, runRec, if_neg hmem, if_neg hmem, if_neg hlast, regrant_heatRec, hzero, ← hgrant]

theorem regrant_portF (s : State) : (regrant s).line.portF = s.line.portF := by rw [regrant_only s]

/-- With no other bed DRIVEN a recomputation offers no HEAT frame. -/
theorem recompute_portF_of_idle (hidle : ∀ k, k ≠ b → (s.heatRec k).state ≠ .driven)
    (hrequest : (s.heatRec b).request = 0) (hduty : (s.heatRec b).duty = 0) :
    (recompute s).line.portF = s.line.portF := by
  have hnone : dutyOrder s = [] := by
    refine List.eq_nil_iff_forall_not_mem.mpr fun k hk => ?_
    by_cases hkb : k = b
    · exact notMem_dutyOrder hrequest hduty (hkb ▸ hk)
    · rw [mem_dutyOrder, dutyFalls, dutyRises, ← Bool.and_or_distrib_left, Bool.and_eq_true, beq_iff_eq] at hk
      exact hidle k hkb hk.1
  rw [(recompute_sent s).portF, hnone, regrant_portF]
  simp

/-! ### Entry to CURING (R76) -/

/-- The heat record of a bed at its entry to CURING. -/
def drivenFromZero (b : Fin 24) : State → State :=
  modHeat b fun h => { h with request := 0, grant := 0, duty := 0, state := .driven, refresh := 60 }

theorem startHeat_eq : startHeat b s = recompute (drivenFromZero b s) := rfl

theorem drivenFromZero_heatRec (k : Fin 24) : (drivenFromZero b s).heatRec k = if k = b then
    { s.heatRec b with request := 0, grant := 0, duty := 0, state := .driven, refresh := 60 }
    else s.heatRec k :=
  modHeat_heatRec ..

theorem startHeat_heatRec : (startHeat b s).heatRec b =
    { s.heatRec b with request := 0, grant := 0, duty := 0, state := .driven, refresh := 60
                       short := ((startHeat b s).heatRec b).short } := by
  have hrec := drivenFromZero_heatRec (s := s) (b := b) b
  rw [if_pos rfl] at hrec
  have hidle := recompute_idleRec (s := drivenFromZero b s) (b := b) (by rw [hrec]) (by rw [hrec]) (by rw [hrec])
  rw [hrec] at hidle
  exact hidle

theorem startHeat_portF (hidle : ∀ k, k ≠ b → (s.heatRec k).state ≠ .driven) :
    (startHeat b s).line.portF = s.line.portF := by
  rw [startHeat_eq]
  refine (recompute_portF_of_idle (s := drivenFromZero b s) (b := b) (fun k hk => ?_) ?_ ?_).trans rfl
  · rw [drivenFromZero_heatRec, if_neg hk]; exact hidle k hk
  · rw [drivenFromZero_heatRec, if_pos rfl]
  · rw [drivenFromZero_heatRec, if_pos rfl]

/-! ### Leaving CURING (R71, R76) -/

/-- The heat record of a bed that leaves CURING, before its final HEAT frame. -/
def stoppingRec (b : Fin 24) : State → State :=
  modHeat b fun h => { h with request := 0, grant := 0, duty := 0, state := .stopping }

theorem stopHeat_eq : stopHeat b s = offerHeat b 0 (recompute (stoppingRec b s)) := rfl

theorem stoppingRec_heatRec : (stoppingRec b s).heatRec b =
    { s.heatRec b with request := 0, grant := 0, duty := 0, state := .stopping } :=
  (modHeat_heatRec ..).trans (if_pos rfl)

/-- The heat records and the lane between the frames of the other beds and the final one. -/
theorem recompute_stopping : (recompute (stoppingRec b s)).heatRec b =
    { s.heatRec b with request := 0, grant := 0, duty := 0, state := .stopping
                       short := ((recompute (stoppingRec b s)).heatRec b).short } := by
  have hrec := stoppingRec_heatRec (s := s) (b := b)
  have hidle := recompute_idleRec (s := stoppingRec b s) (b := b) (by rw [hrec]) (by rw [hrec]) (by rw [hrec])
  rw [hrec] at hidle
  exact hidle

theorem stoppingRec_order : b ∉ dutyOrder (stoppingRec b s) :=
  notMem_dutyOrder (by rw [stoppingRec_heatRec]) (by rw [stoppingRec_heatRec])

/-- The frames before the final one are HEAT frames of other beds. -/
theorem others_of_run {g : Frame} (h : g ∈ ((dutyOrder (stoppingRec b s)).mapIdx
      (runFrame (newDuty (stoppingRec b s)) (regrant (stoppingRec b s))))) :
    g.kind = 0x02#8 ∧ g.payload.head? ≠ some (byteOf b.val) := by
  obtain ⟨i, hi, rfl⟩ := List.mem_mapIdx.mp h
  refine ⟨rfl, fun hhead => stoppingRec_order (s := s) (b := b) ?_⟩
  have hsame : byteOf ((dutyOrder (stoppingRec b s))[i]).val = byteOf b.val := Option.some.inj hhead
  have hbed : (dutyOrder (stoppingRec b s))[i] = b := by
    have hval := congrArg BitVec.toNat hsame
    rw [byteOf_toNat_of_lt (by omega), byteOf_toNat_of_lt (by omega)] at hval
    exact Fin.ext hval
  have hmem := List.getElem_mem hi
  rw [hbed] at hmem
  exact hmem

theorem offerHeat_full (duty : Nat) (hfull : ¬s.ringRoom) : offerHeat b duty s =
    raise .insertOverflow (.port .fPort) (kHeat.toNat : Int)
      (modHeat b (fun h => { h with refresh := 60 })
        { s with heat := { s.heat with seq := s.heat.seq + 1#8 } }) := by
  have hlane : (nextHeatSeq s).laneRoom .fPort = false := decide_eq_false hfull
  have hnext : ∀ g, (modHeat b g (nextHeatSeq s)).laneRoom .fPort = false := fun _ => hlane
  rw [offerHeat, hlane, offerNormal, hnext]
  rfl

theorem offerHeat_room_heatRec (duty : Nat) (hroom : s.ringRoom) : (offerHeat b duty s).heatRec b =
    { s.heatRec b with refresh := 60, wait := some { duty := duty, left := 20, seq := s.heat.seq + 1#8 } } := by
  have hframe : ∀ (g : Frame) (x : State), (withRingFrame g x).heatRec b = x.heatRec b := fun _ _ => rfl
  rw [offerHeat_room duty hroom, hframe, modHeat_heatRec, if_pos rfl]
  rfl

theorem offerHeat_full_heatRec (duty : Nat) (hfull : ¬s.ringRoom) :
    (offerHeat b duty s).heatRec b = { s.heatRec b with refresh := 60 } := by
  have hraise : ∀ (c : Cause) (v : Subject) (n : Int) (x : State), (raise c v n x).heatRec b = x.heatRec b := by
    intro c v n x; simp [State.heatRec]
  rw [offerHeat_full duty hfull, hraise, modHeat_heatRec, if_pos rfl]
  rfl

theorem offerHeat_heatRec (duty : Nat) (s : State) : (offerHeat b duty s).heatRec b =
    { s.heatRec b with refresh := 60, wait := ((offerHeat b duty s).heatRec b).wait } := by
  by_cases hroom : s.ringRoom
  · rw [offerHeat_room_heatRec duty hroom]
  · rw [offerHeat_full_heatRec duty hroom]

theorem stopHeat_heatRec : (stopHeat b s).heatRec b =
    { s.heatRec b with request := 0, grant := 0, duty := 0, state := .stopping, refresh := 60
                       short := ((stopHeat b s).heatRec b).short, wait := ((stopHeat b s).heatRec b).wait } := by
  have hoffer := offerHeat_heatRec (b := b) 0 (recompute (stoppingRec b s))
  rw [recompute_stopping] at hoffer
  rw [stopHeat_eq, hoffer]

theorem stopFrame_eq (seq : Byte) : s.stopFrame b seq =
    { dst := (s.bedEntry b).heater.getD 0#8, src := s.sup.station, kind := 0x02#8, seq := seq, flags := 1#8
      payload := enc1 b.val ++ enc1 (s.bedEntry b).channel.val ++ enc2 0 } := rfl

/-- A bed's final HEAT frame offered after frames for other beds. -/
theorem offerHeat_stopped {frames : List Frame}
    (hportF : u.line.portF = { s.line.portF with
      normal := s.line.portF.normal ++ frames.take (16 - s.line.portF.normal.length) })
    (hothers : ∀ g ∈ frames, g.kind = 0x02#8 ∧ g.payload.head? ≠ some (byteOf b.val))
    (hentry : u.bedEntry b = s.bedEntry b) (hsup : u.sup = s.sup)
    (hwait : (u.heatRec b).wait = (s.heatRec b).wait) : s.stoppedThen (offerHeat b 0 u) b [] := by
  refine ⟨fun hlength => ?_, fun hfull => ?_⟩
  · have hroom : u.ringRoom := by
      by_contra hfull
      rw [offerHeat_full 0 hfull, raise_portF] at hlength
      exact hfull hlength
    rw [offerHeat_room_heatRec 0 hroom, offerHeat_room 0 hroom]
    refine ⟨rfl, frames.take (16 - s.line.portF.normal.length), ?_,
      fun g hg => hothers g (List.mem_of_mem_take hg)⟩
    show u.line.portF.normal ++ [_] = _
    rw [hportF, stopFrame_eq, hentry, hsup]
    rfl
  · rw [Nat.sub_eq_zero_of_le hfull, List.take_zero, List.append_nil] at hportF
    have hnoroom : ¬u.ringRoom := by
      rw [State.ringRoom, hportF]
      exact Nat.not_lt.mpr hfull
    rw [offerHeat_full_heatRec 0 hnoroom, offerHeat_full 0 hnoroom]
    exact ⟨hwait, (raise_portF ..).trans hportF, raise_flagSet ..⟩

/-- The lane after the leaving of CURING: the other beds' frames, then the final one (R76, R80, log entry 8). -/
theorem stopHeat_stopped : s.stoppedThen (stopHeat b s) b [] := by
  have hportF := (recompute_sent (stoppingRec b s)).portF
  have hregrant : (regrant (stoppingRec b s)).line.portF = s.line.portF := regrant_portF _
  rw [ringSpace, hregrant] at hportF
  rw [stopHeat_eq]
  refine offerHeat_stopped hportF (fun g hg => others_of_run hg) ?_ ?_ ?_
  · simp [State.bedEntry, stoppingRec]
  · simp [stoppingRec]
  · rw [recompute_stopping]

/-! ### A bed stopped, and what follows -/

theorem stoppedThen_congr {rest : List Frame} (h : s.stoppedThen t b rest) (hportF : u.line.portF = t.line.portF)
    (hheat : u.heat = t.heat) (hflag : flagSet .insertOverflow t → flagSet .insertOverflow u) :
    s.stoppedThen u b rest := by
  have hrec : u.heatRec b = t.heatRec b := by rw [State.heatRec, State.heatRec, hheat]
  obtain ⟨hsent, hlost⟩ := h
  rw [State.stoppedThen, hportF, hrec, hheat]
  exact ⟨hsent, fun hfull => (hlost hfull).imp id (And.imp id hflag)⟩

/-- A frame offered after the final one. -/
theorem stoppedThen_offer {rest : List Frame} (h : s.stoppedThen t b rest) (g : Frame) :
    s.stoppedThen (offerNormal .fPort g t) b (rest ++ [g]) := by
  have hheat : (offerNormal .fPort g t).heat = t.heat := by simp
  have hrec : (offerNormal .fPort g t).heatRec b = t.heatRec b := by rw [State.heatRec, State.heatRec, hheat]
  obtain ⟨hsent, hlost⟩ := h
  rw [State.stoppedThen, hrec, hheat]
  by_cases hroom : t.laneRoom .fPort = true
  · have hlt : t.line.portF.normal.length < 16 := of_decide_eq_true hroom
    rw [offerNormal_room _ _ _ hroom]
    refine ⟨fun _ => ?_, fun hfull => ?_⟩
    · obtain ⟨hwait, others, hnormal, hothers⟩ := hsent hlt
      refine ⟨hwait, others, ?_, hothers⟩
      show t.line.portF.normal ++ [g] = _
      rw [hnormal]
      simp
    · rw [(hlost hfull).2.1] at hlt
      omega
  · have hoffer : offerNormal .fPort g t = raise .insertOverflow (.port .fPort) g.kind.toNat t := by
      rw [offerNormal, if_neg hroom]
    rw [hoffer, raise_portF]
    refine ⟨fun hlt => absurd (decide_eq_true hlt) hroom, fun hfull => ?_⟩
    obtain ⟨hwait, hportF, -⟩ := hlost hfull
    exact ⟨hwait, hportF, raise_flagSet ..⟩

end

end Sys2Proof.HeatEntryProofs
end

section
/-! The reports CAST_DONE, DETENSION_ASK and DETENSIONED (O31, O32, O33), on the bed's entry to its next state. -/
namespace Sys2Proof.PanelReportProofs

open Sys2Proof Sys2Proof.Machine Sys2Proof.StepProofs Sys2Proof.RequestProofs Sys2Proof.HeatLawProofs
  Sys2Proof.AllocationProofs Sys2Proof.HeaterProofs Sys2Proof.FlagProofs Sys2Proof.LineProofs Sys2Proof.SettleProofs
  Sys2Proof.BudgetProofs Sys2Proof.EntryProofs Sys2Proof.HeatEntryProofs Sys2Proof.PanelProofs

/-! ### Entry to CURING, and the leaving of it -/

section
variable {s t u : State} {b : Fin 24} {new : BedState}

theorem modThermal_moved (h : s.bedMoved t b new) (g : Thermal → Thermal) :
    s.bedMoved (modThermal b g t) b new := by
  obtain ⟨hstate, hothers, hbeds, hthermals⟩ := h
  refine ⟨hstate, fun k hk => ?_, hbeds, ?_⟩
  · rw [modThermal_thermal, if_neg hk, (modThermal_reads ..).2.1]
    exact hothers k hk
  · show ({ t.curing with thermal := _ } : CuringUnit) = _
    rw [hthermals]
    rfl

theorem modBedRec_enter_moved : s.bedMoved (modBedRec b (enterRec new) s) b new := by
  refine ⟨?_, fun k hk => ⟨?_, rfl⟩, rfl, rfl⟩
  · rw [modBedRec_bedRec, if_pos rfl]; rfl
  · rw [modBedRec_bedRec, if_neg hk]

/-- The record and the thermal part of a bed that leaves CURING (R71). -/
def stopReady (b : Fin 24) (new : BedState) (s : State) : State :=
  refreshMargin b (leaveThermal b (modBedRec b (enterRec new) s))

/-- A bed that has left CURING, its heat stopped. -/
def stopEntry (b : Fin 24) (new : BedState) (s : State) : State := stopHeat b (stopReady b new s)

theorem enterBed_stop (hnew : new ≠ .curing) (hold : (s.bedRec b).state = .curing) :
    enterBed b new s = noteOpportunity (stopEntry b new s) := by
  have hwatch : becomesWatched (s.bedRec b).state new = false := by
    rw [hold, becomesWatched]; exact Bool.and_false _
  rw [enterBed_quiet hwatch, atEntry, if_neg hnew, if_pos hold, stopEntry, stopReady]

theorem stopReady_only : stopReady b new s =
    { s with bed := (stopReady b new s).bed, curing := (stopReady b new s).curing } := rfl

theorem stopReady_moved : s.bedMoved (stopReady b new s) b new :=
  modThermal_moved (modThermal_moved modBedRec_enter_moved _) _

theorem stopReady_bedRec : (stopReady b new s).bedRec b = enterRec new (s.bedRec b) :=
  (modBedRec_bedRec ..).trans (if_pos rfl)

theorem stopReady_thermal : (stopReady b new s).thermal b = { s.thermal b with
    margin := ((stopReady b new s).thermal b).margin, demand := 0, pause := .running, waiting := .none
    coolPending := false, blindCount := 0, withheld := false, overheat := false, stall := false
    prevError := none } := by
  rw [stopReady, refreshMargin, modThermal_thermal, if_pos rfl, leaveThermal, modThermal_thermal, if_pos rfl]
  rfl

theorem stopEntry_bed : (stopEntry b new s).bed = (stopReady b new s).bed := by simp [stopEntry]

theorem stopEntry_curing : (stopEntry b new s).curing = (stopReady b new s).curing := by simp [stopEntry]

/-- The state after the leaving of CURING: the bed's record and thermal part, its heat stopped. -/
theorem stopEntry_only : stopEntry b new s =
    { s with bed := (stopEntry b new s).bed, curing := (stopEntry b new s).curing
             line := (stopEntry b new s).line, heat := (stopEntry b new s).heat
             notice := (stopEntry b new s).notice } := by
  apply state_eq <;> simp [stopEntry] <;> rw [stopReady_only]

theorem stopEntry_moved : s.bedMoved (stopEntry b new s) b new :=
  bedMoved_congr stopReady_moved stopEntry_bed stopEntry_curing

theorem stopEntry_bedRec : (stopEntry b new s).bedRec b = enterRec new (s.bedRec b) :=
  (bedRec_congr stopEntry_bed b).trans stopReady_bedRec

theorem stopEntry_thermal : (stopEntry b new s).thermal b = (stopReady b new s).thermal b := by
  rw [State.thermal, stopEntry_curing]; rfl

theorem stopEntry_heatRec : (stopEntry b new s).heatRec b =
    { s.heatRec b with request := 0, grant := 0, duty := 0, state := .stopping, refresh := 60
                       short := ((stopEntry b new s).heatRec b).short
                       wait := ((stopEntry b new s).heatRec b).wait } := by
  have hstop := stopHeat_heatRec (s := stopReady b new s) (b := b)
  have hrec : (stopReady b new s).heatRec b = s.heatRec b := rfl
  rw [hrec] at hstop
  exact hstop

theorem stopEntry_stopped : s.stoppedThen (stopEntry b new s) b [] := by
  have hstop := stopHeat_stopped (s := stopReady b new s) (b := b)
  have hline : (stopReady b new s).line = s.line := rfl
  have hrec : (stopReady b new s).heatRec b = s.heatRec b := rfl
  have hframe : (stopReady b new s).stopFrame b = s.stopFrame b := rfl
  rw [State.stoppedThen, hline, hrec, hframe] at hstop
  rw [State.stoppedThen, stopEntry]
  exact hstop

/-- The record and the thermal part of a bed that enters CURING (R52). -/
def castReady (b : Fin 24) (s : State) : State := initThermal b (modBedRec b (enterRec .curing) s)

theorem castReady_only : castReady b s =
    { s with bed := (castReady b s).bed, curing := (castReady b s).curing } := rfl

theorem castReady_moved : s.bedMoved (castReady b s) b .curing :=
  modThermal_moved (modThermal_moved modBedRec_enter_moved _) _

theorem castReady_bedRec : (castReady b s).bedRec b = enterRec .curing (s.bedRec b) :=
  (modBedRec_bedRec ..).trans (if_pos rfl)

theorem castReady_thermal : (castReady b s).thermal b =
    { recipe := (s.thermal b).recipe, target := (s.thermal b).recipe.presetFloor
      margin := ((castReady b s).thermal b).margin } := by
  rw [castReady, initThermal, refreshMargin, modThermal_thermal, if_pos rfl, modThermal_thermal, if_pos rfl]
  rfl

/-- A bed that has entered CURING, its heater driven, BED_BLIND raised where it is blind (R31). -/
def castEntry (b : Fin 24) (s : State) : State :=
  if becomesWatched (s.bedRec b).state .curing && (startHeat b (castReady b s)).blind b then
    raise .bedBlind (.bed b) 0 (startHeat b (castReady b s))
  else startHeat b (castReady b s)

theorem enterBed_cast : enterBed b .curing s = noteOpportunity (castEntry b s) := by
  rw [enterBed_eq, castEntry, atEntry, if_pos rfl]
  rfl

theorem castEntry_bed : (castEntry b s).bed = (castReady b s).bed := by unfold castEntry; split <;> simp

theorem castEntry_curing : (castEntry b s).curing = (castReady b s).curing := by
  unfold castEntry; split <;> simp

theorem castEntry_heat : (castEntry b s).heat = (startHeat b (castReady b s)).heat := by
  unfold castEntry; split <;> simp

/-- The state after the entry to CURING. -/
theorem castEntry_only : castEntry b s =
    { s with bed := (castEntry b s).bed, curing := (castEntry b s).curing, line := (castEntry b s).line
             heat := (castEntry b s).heat, notice := (castEntry b s).notice } := by
  unfold castEntry
  split
  · apply state_eq <;> simp <;> rw [castReady_only]
  · apply state_eq <;> simp <;> rw [castReady_only]

theorem castEntry_moved : s.bedMoved (castEntry b s) b .curing :=
  bedMoved_congr castReady_moved castEntry_bed castEntry_curing

theorem castEntry_bedRec : (castEntry b s).bedRec b = enterRec .curing (s.bedRec b) :=
  (bedRec_congr castEntry_bed b).trans castReady_bedRec

theorem castEntry_thermal : (castEntry b s).thermal b =
    { recipe := (s.thermal b).recipe, target := (s.thermal b).recipe.presetFloor
      margin := ((castEntry b s).thermal b).margin } := by
  have hthermal : (castEntry b s).thermal b = (castReady b s).thermal b := by
    rw [State.thermal, castEntry_curing]; rfl
  rw [hthermal]
  exact castReady_thermal

theorem castEntry_heatRec : (castEntry b s).heatRec b =
    { s.heatRec b with request := 0, grant := 0, duty := 0, state := .driven, refresh := 60
                       short := ((castEntry b s).heatRec b).short } := by
  have hheat : (castEntry b s).heatRec b = (startHeat b (castReady b s)).heatRec b := by
    rw [State.heatRec, castEntry_heat]; rfl
  have hstart := startHeat_heatRec (s := castReady b s) (b := b)
  have hrec : (castReady b s).heatRec b = s.heatRec b := rfl
  rw [hrec] at hstart
  rw [hheat]
  exact hstart

theorem castEntry_portF (hidle : ∀ k, k ≠ b → (s.heatRec k).state ≠ .driven) :
    (castEntry b s).line.portF = s.line.portF := by
  have hstart := startHeat_portF (s := castReady b s) hidle
  unfold castEntry
  split
  · exact (raise_portF ..).trans hstart
  · exact hstart

end

end Sys2Proof.PanelReportProofs
end

section
/-! The reports DETENSION_ASK, DETENSIONED and CAST_DONE, and the works minute (O31, O32, O33). -/
namespace Sys2Proof.PanelActProofs

open Sys2Proof Sys2Proof.Machine Sys2Proof.StepProofs Sys2Proof.RequestProofs Sys2Proof.HeatLawProofs
  Sys2Proof.FlagProofs Sys2Proof.LineProofs Sys2Proof.SettleProofs Sys2Proof.EntryProofs Sys2Proof.HeatEntryProofs
  Sys2Proof.PanelProofs Sys2Proof.PanelReportProofs

section
variable {s t u : State} {f : Frame} {b : Fin 24} {new : BedState} {x : Byte} {rest : Bytes}

/-! ### Settled entries -/

theorem settle_plain (hnone : s.noneWaiting) (hnew : new ≠ .curing) (hold : (s.bedRec b).state ≠ .curing)
    (hwatch : becomesWatched (s.bedRec b).state new = false) : settle (enterBed b new s) = plainEntry b new s := by
  rw [enterBed_plain hnew hold hwatch]
  exact settle_noted hnone rfl

theorem settle_stop (hnone : s.noneWaiting) (hnew : new ≠ .curing) (hold : (s.bedRec b).state = .curing) :
    settle (enterBed b new s) = stopEntry b new s := by
  rw [enterBed_stop hnew hold]
  exact settle_noted hnone (by simp [stopEntry, stopReady, refreshMargin, leaveThermal])

theorem settle_cast (hnone : s.noneWaiting) : settle (enterBed b .curing s) = castEntry b s := by
  rw [enterBed_cast]
  refine settle_noted hnone ?_
  unfold castEntry
  split <;> simp [castReady, initThermal, refreshMargin]

@[simp] theorem plainEntry_keeps : (plainEntry b new s).line = s.line ∧ (plainEntry b new s).probe = s.probe
    ∧ (plainEntry b new s).heat = s.heat ∧ (plainEntry b new s).piece = s.piece
    ∧ (plainEntry b new s).stock = s.stock ∧ (plainEntry b new s).runway = s.runway
    ∧ (plainEntry b new s).mgmt = s.mgmt ∧ (plainEntry b new s).notice = s.notice
    ∧ (plainEntry b new s).sup = s.sup ∧ (plainEntry b new s).freeCount = s.freeCount
    ∧ (plainEntry b new s).pending = s.pending :=
  ⟨rfl, rfl, rfl, rfl, rfl, rfl, rfl, rfl, rfl, rfl, rfl⟩

/-! ### The answer -/

theorem panelAnswer_fields (hpayload : f.payload = x :: rest) (a : PanelAnswer) :
    (panelAnswer f a t).probe = t.probe ∧ (panelAnswer f a t).curing = t.curing
      ∧ (panelAnswer f a t).heat = t.heat ∧ (panelAnswer f a t).bed = t.bed
      ∧ (panelAnswer f a t).piece = t.piece ∧ (panelAnswer f a t).stock = t.stock
      ∧ (panelAnswer f a t).runway = t.runway ∧ (panelAnswer f a t).mgmt = t.mgmt
      ∧ (panelAnswer f a t).sup = t.sup ∧ (panelAnswer f a t).freeCount = t.freeCount
      ∧ (panelAnswer f a t).pending = t.pending := by
  rw [panelAnswer_offer hpayload]
  simp

theorem panelAnswer_moved (hpayload : f.payload = x :: rest) (a : PanelAnswer) (h : s.bedMoved t b new) :
    s.bedMoved (panelAnswer f a t) b new :=
  bedMoved_congr h (by simp [panelAnswer_fields hpayload]) (by simp [panelAnswer_fields hpayload])

theorem panelAnswer_bedRec (hpayload : f.payload = x :: rest) (a : PanelAnswer) :
    (panelAnswer f a t).bedRec = t.bedRec := by
  funext k
  exact bedRec_congr (by simp [panelAnswer_fields hpayload]) k

end

/-! ### DETENSION_ASK and the works minute (R12, R13) -/

section
variable {s : State} {f : Frame} {b : Fin 24}

theorem denyMargin_eq : s.denyMargin b = if (s.bedRec b).lines = [] then none
    else (s.thermal b).margin.map fun x => max (-1200) (min x 1200) := by
  simp only [State.denyMargin, List.isEmpty_iff]
  rfl

/-- A permit granted to a RELEASABLE bed. -/
theorem panelDetensionAsk_releasable (hnone : s.noneWaiting) (h : (s.bedRec b).state = .releasable) :
    panelDetensionAsk f b s =
      panelAnswer f (.permit s.bed.permitWindow) (grantPermit b (plainEntry b .releasing s)) := by
  have hold : (s.bedRec b).state ≠ .curing := by rw [h]; decide
  have hwatch : becomesWatched (s.bedRec b).state .releasing = false := by rw [h]; rfl
  have hgrant : grantPermit b (enterBed b .releasing s) =
      noteOpportunity (grantPermit b (plainEntry b .releasing s)) := by
    rw [enterBed_plain (by decide) hold hwatch]
    rfl
  simp only [panelDetensionAsk, h, hgrant,
    settle_noted (t := grantPermit b (plainEntry b .releasing s)) hnone rfl]

theorem askPermitted (h : s.panelTaken f 3#8 b) (hnone : s.noneWaiting) (hstate : (s.bedRec b).state = .releasable) :
    ∃ t, exec (.panelDetensionAsk f) s = .next t
      ∧ t.bedRec b = { s.bedRec b with state := .releasing, permit := s.bed.permitWindow }
      ∧ s.bedMoved t b .releasing
      ∧ t.line = (panelAnswered f (byteOf b.val) (.permit s.bed.permitWindow) s).line
      ∧ t = { s with line := t.line, curing := t.curing, bed := t.bed } := by
  have hexec := exec_panelTaken (act := panelDetensionAsk f) h
  obtain ⟨-, hroom, -, hpayload, -⟩ := h
  rw [panelDetensionAsk_releasable (s := takeHanded f s) hnone hstate] at hexec
  refine ⟨_, hexec, ?_, ?_, ?_, ?_⟩
  · rw [panelAnswer_bedRec hpayload, grantPermit, modBedRec_bedRec, if_pos rfl, plainEntry_bedRec, if_pos rfl]
    rfl
  · refine panelAnswer_moved hpayload _ (modBedRec_moved (plainEntry_moved (s := takeHanded f s)) _ ?_)
    rw [plainEntry_bedRec, if_pos rfl]
    rfl
  · exact panelAnswer_line hroom hpayload _ rfl rfl
  · apply state_eq <;> simp [panelAnswer_fields hpayload, grantPermit]
    rw [panelAnswer_notice (by exact hroom) hpayload]
    rfl

/-- The bed record after a works minute (R13). -/
def permitRun (r : BedRec) : BedRec :=
  if r.state = .releasing then
    if r.permit ≤ 1 then { r with state := .releasable, permit := 0 } else { r with permit := r.permit - 1 }
  else r

theorem permitMinute_eq (hnone : s.noneWaiting) : permitMinute b s =
    if (s.bedRec b).state = .releasing then
      if (s.bedRec b).permit ≤ 1 then raise .permitLapsed (.bed b) 0 (plainEntry b .releasable s)
      else modBedRec b (fun r => { r with permit := r.permit - 1 }) s
    else s := by
  unfold permitMinute
  split
  · next hstate =>
    have hold : (s.bedRec b).state ≠ .curing := by rw [hstate]; decide
    have hwatch : becomesWatched (s.bedRec b).state .releasable = false := by rw [hstate]; rfl
    rw [enterBed_plain (by decide) hold hwatch, raise_noteOpportunity, settle_noted hnone (by simp)]
  · rfl

theorem permitMinute_runway (hnone : s.noneWaiting) : (permitMinute b s).runway = s.runway := by
  rw [permitMinute_eq hnone]
  split
  · split <;> simp
  · rfl

theorem permitMinute_bedRec (hnone : s.noneWaiting) (k : Fin 24) :
    (permitMinute b s).bedRec k = if k = b then permitRun (s.bedRec b) else s.bedRec k := by
  have hraise : ∀ (v : Int) (t : State), (raise .permitLapsed (.bed b) v t).bedRec k = t.bedRec k := by
    intro v t; simp [State.bedRec]
  rw [permitMinute_eq hnone, permitRun]
  split
  · split
    · rw [hraise, plainEntry_bedRec]
      rfl
    · rw [modBedRec_bedRec]
  · split
    · next hk => rw [hk]
    · rfl

/-- What a works minute leaves beside the bed records: the margins and what a raised cause changes. -/
structure MinuteRun (s t : State) : Prop where
  runway : t.runway = s.runway
  thermal : ∀ k, t.thermal k = { s.thermal k with margin := (t.thermal k).margin }
  portF : t.line.portF = s.line.portF
  bed : t.bed = { s.bed with recs := t.bed.recs }
  curing : t.curing = { s.curing with thermal := t.curing.thermal }
  only : t = { s with line := t.line, curing := t.curing, bed := t.bed, notice := t.notice }

theorem MinuteRun.refl (s : State) : MinuteRun s s := ⟨rfl, fun _ => rfl, rfl, rfl, rfl, rfl⟩

theorem MinuteRun.trans {t u : State} (h : MinuteRun s t) (g : MinuteRun t u) : MinuteRun s u where
  runway := g.runway.trans h.runway
  thermal k := by rw [g.thermal k, h.thermal k]
  portF := g.portF.trans h.portF
  bed := by rw [g.bed, h.bed]
  curing := by rw [g.curing, h.curing]
  only := by rw [g.only, h.only]

theorem MinuteRun.raise {t : State} (h : MinuteRun s t) (c : Cause) (v : Subject) (n : Int) :
    MinuteRun s (raise c v n t) := by
  refine h.trans ⟨by simp, fun k => ?_, raise_portF .., by simp, by simp, ?_⟩
  · simp [State.thermal]
  · apply state_eq <;> simp

theorem permitMinute_run (hnone : s.noneWaiting) : MinuteRun s (permitMinute b s) := by
  have hplain : MinuteRun s (plainEntry b .releasable s) := ⟨rfl, plainEntry_thermal, rfl, rfl, rfl, rfl⟩
  rw [permitMinute_eq hnone]
  split
  · split
    · exact hplain.raise _ _ _
    · exact ⟨rfl, fun _ => rfl, rfl, rfl, rfl, rfl⟩
  · exact .refl s

theorem permitMinute_lapses (hnone : s.noneWaiting) (hstate : (s.bedRec b).state = .releasing)
    (hpermit : (s.bedRec b).permit ≤ 1) : flagSet .permitLapsed (permitMinute b s) := by
  rw [permitMinute_eq hnone, if_pos hstate, if_pos hpermit]
  exact raise_flagSet ..

theorem permitMinute_flag (hset : flagSet .permitLapsed s) : flagSet .permitLapsed (permitMinute b s) :=
  (flagSet_kept _).permitMinute b hset

/-- A fold over a table whose steps each change their own entry by a rule, while an invariant holds. -/
theorem foldl_entries {α : Type} {n : Nat} (Inv : State → Prop) (read : State → Fin n → α)
    (act : Fin n → State → State) (F : Fin n → α → α) (hinv : ∀ i t, Inv t → Inv (act i t))
    (hread : ∀ i t, Inv t → ∀ j, read (act i t) j = if j = i then F i (read t i) else read t j)
    {l : List (Fin n)} (hl : l.Nodup) {t : State} (ht : Inv t) (i : Fin n) :
    read (l.foldl (fun u j => act j u) t) i = if i ∈ l then F i (read t i) else read t i := by
  induction l generalizing t with
  | nil => simp
  | cons j rest ih =>
    obtain ⟨hj, hrest⟩ := List.nodup_cons.mp hl
    rw [List.foldl_cons, ih hrest (hinv j t ht), hread j t ht]
    by_cases hij : i = j
    · subst hij
      simp [hj]
    · simp [hij]

/-- What a step brings about from its own entry, and every step keeps, the fold brings about. -/
theorem foldl_reaches {α : Type} {n : Nat} (Inv Q : State → Prop) (read : State → Fin n → α)
    (act : Fin n → State → State) (hinv : ∀ i t, Inv t → Inv (act i t))
    (hother : ∀ i t, Inv t → ∀ j, j ≠ i → read (act i t) j = read t j)
    (hkeep : ∀ i t, Inv t → Q t → Q (act i t)) {l : List (Fin n)} (hl : l.Nodup) {t : State} (ht : Inv t)
    {i : Fin n} {x : α} (hi : i ∈ l) (hx : read t i = x)
    (hown : ∀ u, Inv u → read u i = x → Q (act i u)) : Q (l.foldl (fun u j => act j u) t) := by
  have hafter : ∀ (l : List (Fin n)) (u : State), Inv u → Q u → Q (l.foldl (fun v j => act j v) u) := by
    intro l
    induction l with
    | nil => exact fun _ _ h => h
    | cons j rest ih => exact fun u hu h => ih _ (hinv j u hu) (hkeep j u hu h)
  induction l generalizing t with
  | nil => cases hi
  | cons j rest ih =>
    obtain ⟨hj, hrest⟩ := List.nodup_cons.mp hl
    by_cases hij : i = j
    · subst hij
      exact hafter rest _ (hinv i t ht) (hown t ht hx)
    · refine ih hrest (hinv j t ht) ((List.mem_cons.mp hi).resolve_left hij) ?_
      rw [hother j t ht i hij, hx]

/-- The works minute (R13). -/
theorem worksMinuteRun (hrun : s.running = true) (hnone : s.noneWaiting) :
    ∃ t, exec .worksMinuteExpiry s = .next t
      ∧ t.sup = { s.sup with worksMinute := s.sup.worksMinute + 1, minuteTimer := 0 }
      ∧ (∀ b, t.bedRec b = permitRun (s.bedRec b))
      ∧ ((∃ b, (s.bedRec b).state = .releasing ∧ (s.bedRec b).permit ≤ 1) → flagSet .permitLapsed t)
      ∧ MinuteRun (advanceMinute s) t := by
  have hexec : exec .worksMinuteExpiry s = .next (forEach permitMinute (advanceMinute s)) :=
    whenRunning_running s (fun t => forEach permitMinute (advanceMinute t)) hrun
  have hstart : (advanceMinute s).noneWaiting := hnone
  have hkeep : ∀ b (t : State), t.noneWaiting → (permitMinute b t).noneWaiting :=
    fun b t ht => noneWaiting_congr ht (permitMinute_runway ht)
  have hminute : MinuteRun (advanceMinute s) (forEach permitMinute (advanceMinute s)) := by
    have hboth := forEach_induction (advanceMinute s) (fun t => t.noneWaiting ∧ MinuteRun (advanceMinute s) t)
      permitMinute (fun b t ht => ⟨hkeep b t ht.1, ht.2.trans (permitMinute_run ht.1)⟩) ⟨hstart, .refl _⟩
    exact hboth.2
  refine ⟨_, hexec, ?_, fun b => ?_, fun ⟨b, hstate, hpermit⟩ => ?_, hminute⟩
  · rw [hminute.only]; rfl
  · have hrec := foldl_entries State.noneWaiting State.bedRec permitMinute (fun _ => permitRun) hkeep
      (fun i t ht j => permitMinute_bedRec ht j) (TableProofs.indexes_nodup 24) hstart b
    rw [if_pos (mem_indexes b)] at hrec
    exact hrec
  · exact foldl_reaches State.noneWaiting (flagSet .permitLapsed) State.bedRec permitMinute hkeep
      (fun i t ht j hj => by rw [permitMinute_bedRec ht, if_neg hj]) (fun _ _ _ => permitMinute_flag)
      (TableProofs.indexes_nodup 24) hstart (mem_indexes b) rfl
      (fun u hu hrec => permitMinute_lapses hu (by rw [hrec]; exact hstate) (by rw [hrec]; exact hpermit))

end

theorem ask_releasing {s : State} {f : Frame} {b : Fin 24} (h : (s.bedRec b).state = .releasing) :
    panelDetensionAsk f b s = panelAnswer f (.permit s.bed.permitWindow) (grantPermit b s) := by
  simp only [panelDetensionAsk, h]

theorem ask_notReady {s : State} {f : Frame} {b : Fin 24}
    (h : (s.bedRec b).state = .curing ∨ (s.bedRec b).state = .stripping) :
    panelDetensionAsk f b s = panelAnswer f (.deny .notReady (s.denyMargin b)) s := by
  rcases h with h | h <;> simp only [panelDetensionAsk, h]

theorem ask_empty {s : State} {f : Frame} {b : Fin 24}
    (h : (s.bedRec b).state = .vacant ∨ (s.bedRec b).state = .stressed ∨ (s.bedRec b).state = .clearing) :
    panelDetensionAsk f b s = panelAnswer f (.deny .notReady none) s := by
  rcases h with h | h | h <;> simp only [panelDetensionAsk, h]

/-- Settles O32: the answers by the bed's state, and the works minute bed by bed. -/
theorem permitsGrantedAndRun : Obligations.PermitsGrantedAndRun := by
  unfold Obligations.PermitsGrantedAndRun
  refine ⟨fun s f b h hnone => ?_, fun s hrun hnone => ?_⟩
  · intro margin
    have hexec : exec (.panelDetensionAsk f) s = .next (panelDetensionAsk f b (takeHanded f s)) :=
      exec_panelTaken (act := panelDetensionAsk f) h
    have hask := askPermitted h hnone
    obtain ⟨-, hroom, -, hpayload, -⟩ := h
    have hmargin : (takeHanded f s).denyMargin b = margin := denyMargin_eq
    refine ⟨hask, fun hstate => ?_, fun hstate => ?_, fun hstate => ?_⟩
    · have hgrant : grantPermit b (takeHanded f s) =
          takeHanded f (modBedRec b (fun r => { r with permit := s.bed.permitWindow }) s) := rfl
      have hwindow : (takeHanded f s).bed.permitWindow = s.bed.permitWindow := rfl
      rw [hexec, ask_releasing (s := takeHanded f s) hstate, hgrant, hwindow,
        panelAnswer_takeHanded (s := modBedRec b (fun r => { r with permit := s.bed.permitWindow }) s) hroom hpayload]
    · rw [hexec, ask_notReady (s := takeHanded f s) hstate, hmargin, panelAnswer_takeHanded hroom hpayload]
    · rw [hexec, ask_empty (s := takeHanded f s) hstate, panelAnswer_takeHanded hroom hpayload]
  · obtain ⟨t, hexec, hsup, hrec, hflag, hminute⟩ := worksMinuteRun hrun hnone
    refine ⟨t, hexec, hsup, hrec, hflag, hminute.thermal, hminute.portF, hminute.bed, hminute.curing, ?_⟩
    rw [hminute.only]
    rfl

end Sys2Proof.PanelActProofs
end

section
/-! The reports DETENSIONED and CAST_DONE (O31, O33). -/
namespace Sys2Proof.ReleaseProofs

open Sys2Proof Sys2Proof.Machine Sys2Proof.StepProofs Sys2Proof.RequestProofs Sys2Proof.HeatLawProofs
  Sys2Proof.FlagProofs Sys2Proof.LineProofs Sys2Proof.SettleProofs Sys2Proof.EntryProofs Sys2Proof.HeatEntryProofs
  Sys2Proof.PanelProofs Sys2Proof.PanelReportProofs Sys2Proof.PanelActProofs

/-! ### The records of a bed's lines -/

section
variable {s t u : State} {f : Frame} {b : Fin 24} {old new : BedState}

/-- A change of every line's record, the same the second time: what it leaves of each mark. -/
theorem modLines_findPiece (g : Piece → Piece) (hmark : ∀ p, (g p).mark = p.mark) (htwice : ∀ p, g (g p) = g p)
    (lines : List OrderLine) (m : Nat) :
    (lines.foldl (fun t l => modPiece l.mark g t) s).findPiece m =
      (s.findPiece m).map fun p => if lines.any (fun l => l.mark = m) then g p else p := by
  induction lines generalizing s with
  | nil => simp
  | cons l rest ih =>
    rw [List.foldl_cons, ih, modPiece_findPiece _ l.mark g hmark]
    by_cases hm : m = l.mark
    · rw [if_pos hm, Option.map_map]
      congr 1
      funext p
      simp only [Function.comp, List.any_cons, hm, decide_true, Bool.true_or, if_true]
      split
      · exact htwice p
      · rfl
    · have hne : ¬l.mark = m := fun h => hm h.symm
      rw [if_neg hm]
      simp only [List.any_cons, hne, decide_false, Bool.false_or]

theorem modLines_only (g : Piece → Piece) (lines : List OrderLine) :
    lines.foldl (fun t l => modPiece l.mark g t) s =
      { s with piece := (lines.foldl (fun t l => modPiece l.mark g t) s).piece } := by
  induction lines generalizing s with
  | nil => rfl
  | cons l rest ih => rw [List.foldl_cons, ih]; rfl

/-! ### Moves in a row -/

theorem bedMoved_trans (h : s.bedMoved t b old) (g : t.bedMoved u b new) : s.bedMoved u b new := by
  obtain ⟨-, hothers, hbed, hcuring⟩ := h
  obtain ⟨hstate, hothers', hbed', hcuring'⟩ := g
  refine ⟨hstate, fun k hk => ?_, ?_, ?_⟩
  · rw [(hothers' k hk).1, (hothers' k hk).2]
    exact hothers k hk
  · rw [hbed', hbed]
  · rw [hcuring', hcuring]

theorem modBedRec_moves (g : BedRec → BedRec) : s.bedMoved (modBedRec b g s) b (g (s.bedRec b)).state := by
  refine ⟨?_, fun k hk => ⟨?_, rfl⟩, rfl, rfl⟩
  · rw [modBedRec_bedRec, if_pos rfl]
  · rw [modBedRec_bedRec, if_neg hk]

/-! ### Entry to a watched state (R31) -/

/-- A plain entry with BED_BLIND raised where the bed is newly watched and blind. -/
def watchedEntry (b : Fin 24) (new : BedState) (s : State) : State :=
  if becomesWatched (s.bedRec b).state new && (plainEntry b new s).blind b then
    raise .bedBlind (.bed b) 0 (plainEntry b new s)
  else plainEntry b new s

theorem enterBed_watched (hnew : new ≠ .curing) (hold : (s.bedRec b).state ≠ .curing) :
    enterBed b new s = noteOpportunity (watchedEntry b new s) := by
  rw [enterBed_eq, watchedEntry, atEntry_plain hnew hold]

theorem watchedEntry_fields : (watchedEntry b new s).bed = (plainEntry b new s).bed
    ∧ (watchedEntry b new s).curing = (plainEntry b new s).curing
    ∧ (watchedEntry b new s).line.portF = s.line.portF ∧ (watchedEntry b new s).probe = s.probe
    ∧ (watchedEntry b new s).heat = s.heat ∧ (watchedEntry b new s).piece = s.piece
    ∧ (watchedEntry b new s).stock = s.stock ∧ (watchedEntry b new s).runway = s.runway
    ∧ (watchedEntry b new s).mgmt = s.mgmt ∧ (watchedEntry b new s).sup = s.sup
    ∧ (watchedEntry b new s).freeCount = s.freeCount ∧ (watchedEntry b new s).pending = s.pending := by
  unfold watchedEntry
  split
  · simp [raise_portF]
  · simp

end

theorem watchedEntry_flagSet {s : State} {b : Fin 24} {new : BedState} {c : Cause} (h : flagSet c s) :
    flagSet c (watchedEntry b new s) := by
  unfold watchedEntry
  split
  · exact (flagSet_kept c).raise _ _ _ h
  · exact h

theorem stopEntry_keeps {s : State} {b : Fin 24} {new : BedState} :
    (stopEntry b new s).probe = s.probe ∧ (stopEntry b new s).piece = s.piece
      ∧ (stopEntry b new s).stock = s.stock ∧ (stopEntry b new s).runway = s.runway
      ∧ (stopEntry b new s).mgmt = s.mgmt ∧ (stopEntry b new s).sup = s.sup
      ∧ (stopEntry b new s).freeCount = s.freeCount ∧ (stopEntry b new s).pending = s.pending := by
  simp [stopEntry, stopReady, refreshMargin, leaveThermal]

theorem castEntry_keeps {s : State} {b : Fin 24} :
    (castEntry b s).probe = s.probe ∧ (castEntry b s).piece = s.piece
      ∧ (castEntry b s).stock = s.stock ∧ (castEntry b s).runway = s.runway
      ∧ (castEntry b s).mgmt = s.mgmt ∧ (castEntry b s).sup = s.sup
      ∧ (castEntry b s).freeCount = s.freeCount ∧ (castEntry b s).pending = s.pending := by
  unfold castEntry
  split <;> simp [castReady, initThermal, refreshMargin]

theorem findPiece_congr {s t : State} (h : t.piece = s.piece) : t.findPiece = s.findPiece := by
  funext m; rw [State.findPiece, State.findPiece, h]

theorem stopFrame_congr {s w : State} {b : Fin 24} (htable : w.bed.table = s.bed.table) (hsup : w.sup = s.sup) :
    w.stopFrame b = s.stopFrame b := by
  funext seq
  rw [State.stopFrame, State.stopFrame, State.bedEntry, State.bedEntry, htable, hsup]

/-- What a stop says of the state before reads its lane, the bed's wait and the bed's frame. -/
theorem stoppedThen_before {s w t : State} {b : Fin 24} {rest : List Frame} (h : w.stoppedThen t b rest)
    (hline : w.line.portF = s.line.portF) (hrec : w.heatRec b = s.heatRec b)
    (hframe : w.stopFrame b = s.stopFrame b) : s.stoppedThen t b rest := by
  rw [State.stoppedThen, hline, hrec, hframe] at h
  exact h

/-! ### DETENSIONED (R14 to R16) -/

section
variable {s : State} {f : Frame} {b : Fin 24}

theorem detensioned_releasing (hnone : s.noneWaiting) (h : (s.bedRec b).state = .releasing) :
    panelDetensioned f b s = panelAnswer f .accepted (plainEntry b .stripping s) := by
  have hentry : settle (enterBed b .stripping s) = plainEntry b .stripping s :=
    settle_plain hnone (by decide) (by rw [h]; decide) (by rw [h]; rfl)
  simp only [panelDetensioned, h, hentry]

theorem detensioned_releasable (hnone : s.noneWaiting) (h : (s.bedRec b).state = .releasable) :
    panelDetensioned f b s = panelAnswer f .accepted
      (raise .permitless (.bed b) 0 (flagPermitless b (plainEntry b .stripping s))) := by
  have hentry : flagPermitless b (enterBed b .stripping s) =
      noteOpportunity (flagPermitless b (plainEntry b .stripping s)) := by
    rw [enterBed_plain (by decide) (by rw [h]; decide) (by rw [h]; rfl)]
    rfl
  simp only [panelDetensioned, h, hentry, raise_noteOpportunity]
  rw [settle_noted hnone (by simp [flagPermitless])]

/-- The bed and its pieces flagged for a premature release (R15). -/
def prematureFlagged (b : Fin 24) (s : State) : State :=
  modBedRec b (fun r => { r with flags := { r.flags with premature := true } }) (flagPiecesPremature b s)

theorem prematureFlagged_only : prematureFlagged b s =
    { s with bed := (prematureFlagged b s).bed, piece := (prematureFlagged b s).piece } := by
  rw [prematureFlagged, flagPiecesPremature, modLines_only]
  rfl

theorem prematureFlagged_keeps : (prematureFlagged b s).probe = s.probe ∧ (prematureFlagged b s).stock = s.stock
    ∧ (prematureFlagged b s).runway = s.runway ∧ (prematureFlagged b s).mgmt = s.mgmt
    ∧ (prematureFlagged b s).sup = s.sup ∧ (prematureFlagged b s).freeCount = s.freeCount
    ∧ (prematureFlagged b s).pending = s.pending := by
  rw [prematureFlagged_only]
  exact ⟨rfl, rfl, rfl, rfl, rfl, rfl, rfl⟩

theorem prematureFlagged_findPiece (m : Nat) : (prematureFlagged b s).findPiece m =
    (s.findPiece m).map fun p => if (s.bedRec b).lines.any (fun l => l.mark = m) then
      { p with flags := { p.flags with premature := true } } else p :=
  modLines_findPiece (fun p : Piece => { p with flags := { p.flags with premature := true } })
    (fun _ => rfl) (fun _ => rfl) _ m

theorem prematureFlagged_bedRec :
    (prematureFlagged b s).bedRec b = { s.bedRec b with flags := { (s.bedRec b).flags with premature := true } } := by
  have hrec : (flagPiecesPremature b s).bedRec b = s.bedRec b := bedRec_congr (modLines_bed _ _) b
  rw [prematureFlagged, modBedRec_bedRec, if_pos rfl, hrec]

theorem prematureFlagged_moved : s.bedMoved (prematureFlagged b s) b (s.bedRec b).state := by
  have hpieces : s.bedMoved (flagPiecesPremature b s) b (s.bedRec b).state := by
    refine bedMoved_congr (t := s) ⟨rfl, fun _ _ => ⟨rfl, rfl⟩, rfl, rfl⟩ (modLines_bed _ _) ?_
    rw [flagPiecesPremature, modLines_only]
  exact modBedRec_moved hpieces _ hpieces.1

theorem detensioned_curing (hnone : s.noneWaiting) (h : (s.bedRec b).state = .curing) :
    ∃ v, panelDetensioned f b s = panelAnswer f .accepted
      (raise .prematureRelease (.bed b) v (stopEntry b .stripping (prematureFlagged b s))) := by
  have hstate : ((prematureFlagged b s).bedRec b).state = .curing := by rw [prematureFlagged_bedRec, h]
  have hentry : enterBed b .stripping (modBedRec b (fun r =>
      { r with flags := { r.flags with premature := true } }) (flagPiecesPremature b s)) =
      noteOpportunity (stopEntry b .stripping (prematureFlagged b s)) := enterBed_stop (by decide) hstate
  have hrunway : (stopEntry b .stripping (prematureFlagged b s)).runway = s.runway := by
    rw [stopEntry_keeps.2.2.2.1, prematureFlagged_only]
  have hthermal : ∀ t : State, (noteOpportunity t).thermal b = t.thermal b := fun _ => rfl
  refine ⟨((stopEntry b .stripping (prematureFlagged b s)).thermal b).margin.getD 0, ?_⟩
  simp only [panelDetensioned, h, prematureRelease, hentry, raise_noteOpportunity, hthermal]
  rw [settle_noted hnone (by simp [hrunway])]

theorem detensioned_uncast (hnone : s.noneWaiting) (h : (s.bedRec b).state = .stressed)
    (hcast : (s.bedRec b).castSeen = none) :
    panelDetensioned f b s = panelAnswer f .accepted (plainEntry b .vacant s) := by
  have hentry : settle (enterBed b .vacant s) = plainEntry b .vacant s :=
    settle_plain hnone (by decide) (by rw [h]; decide) (by rw [h]; rfl)
  simp only [panelDetensioned, h, hcast, hentry]
  rfl

/-- A bed whose cast is released without an order, before its entry to STRIPPING (R16). -/
def unrecorded (b : Fin 24) (s : State) : State :=
  raise .permitless (.bed b) 0 (flagPermitless b (modBedRec b (fun r => { r with castSeen := none }) s))

theorem unrecorded_bedRec : (unrecorded b s).bedRec b =
    { s.bedRec b with castSeen := none, flags := { (s.bedRec b).flags with permitless := true } } := by
  rw [unrecorded, bedRec_congr (raise_keeps ..).2.2.2.1, flagPermitless, modBedRec_bedRec, if_pos rfl,
    modBedRec_bedRec, if_pos rfl]

theorem unrecorded_keeps : (unrecorded b s).probe = s.probe ∧ (unrecorded b s).heat = s.heat
    ∧ (unrecorded b s).piece = s.piece ∧ (unrecorded b s).stock = s.stock ∧ (unrecorded b s).runway = s.runway
    ∧ (unrecorded b s).mgmt = s.mgmt ∧ (unrecorded b s).sup = s.sup ∧ (unrecorded b s).freeCount = s.freeCount
    ∧ (unrecorded b s).pending = s.pending := by
  simp [unrecorded, flagPermitless]

theorem unrecorded_moved : s.bedMoved (unrecorded b s) b (s.bedRec b).state := by
  have hseen : s.bedMoved (modBedRec b (fun r => { r with castSeen := none }) s) b (s.bedRec b).state :=
    modBedRec_moves _
  exact raise_moved (modBedRec_moved hseen _ hseen.1) _ _ _

theorem detensioned_cast (hnone : s.noneWaiting) (h : (s.bedRec b).state = .stressed)
    (hcast : (s.bedRec b).castSeen ≠ none) :
    panelDetensioned f b s = panelAnswer f .accepted (watchedEntry b .stripping (unrecorded b s)) := by
  have hseen : (s.bedRec b).castSeen.isSome = true := Option.isSome_iff_ne_none.mpr hcast
  have hold : ((unrecorded b s).bedRec b).state ≠ .curing := by rw [unrecorded_bedRec, h]; decide
  have hentry : enterBed b .stripping (raise .permitless (.bed b) 0
      (flagPermitless b (modBedRec b (fun r => { r with castSeen := none }) s))) =
      noteOpportunity (watchedEntry b .stripping (unrecorded b s)) := enterBed_watched (by decide) hold
  simp only [panelDetensioned, h, hseen, if_true, releaseUnrecorded, hentry]
  rw [settle_noted hnone]
  simp [watchedEntry_fields, unrecorded_keeps]

theorem detensioned_duplicate
    (h : (s.bedRec b).state = .vacant ∨ (s.bedRec b).state = .stripping ∨ (s.bedRec b).state = .clearing) :
    panelDetensioned f b s = panelAnswer f .ignored (countDuplicate s) := by
  rcases h with h | h | h <;> simp only [panelDetensioned, h]

end

/-- A premature release (R15). -/
theorem detensionedPremature {s : State} {f : Frame} {b : Fin 24} {rest : Bytes}
    (hexec : exec (.panelDetensioned f) s = .next (panelDetensioned f b (takeHanded f s)))
    (hpayload : f.payload = byteOf b.val :: rest) (hnone : s.noneWaiting) (hstate : (s.bedRec b).state = .curing) :
    ∃ t, exec (.panelDetensioned f) s = .next t
      ∧ t.bedRec b = { s.bedRec b with state := .stripping, permit := 0
                                       flags := { (s.bedRec b).flags with premature := true } }
      ∧ s.bedMoved t b .stripping ∧ (t.cause .prematureRelease).flag = true
      ∧ (∀ m, t.findPiece m = (s.findPiece m).map fun p =>
          if (s.bedRec b).lines.any (fun l => l.mark = m) then
            { p with flags := { p.flags with premature := true } }
          else p)
      ∧ (t.thermal b).demand = 0 ∧ (t.thermal b).waiting = .none
      ∧ (t.thermal b).coolPending = false
      ∧ (t.thermal b).maturity = (s.thermal b).maturity
      ∧ (t.thermal b).remainder = (s.thermal b).remainder
      ∧ (t.heatRec b).state = .stopping ∧ (t.heatRec b).request = 0
      ∧ (t.heatRec b).grant = 0 ∧ (t.heatRec b).duty = 0 ∧ (t.heatRec b).refresh = 60
      ∧ s.stoppedThen t b [answerFrame s f (byteOf b.val) .accepted]
      ∧ t = { s with line := t.line, curing := t.curing, heat := t.heat, bed := t.bed
                     piece := t.piece, notice := t.notice } := by
  obtain ⟨v, hact⟩ := detensioned_curing (f := f) (s := takeHanded f s) hnone hstate
  rw [hact] at hexec
  have honly := prematureFlagged_only (s := takeHanded f s) (b := b)
  obtain ⟨-, hpiece, -, -, -, hsup, -, -⟩ :=
    stopEntry_keeps (s := prematureFlagged b (takeHanded f s)) (b := b) (new := .stripping)
  have hheat := stopEntry_heatRec (s := prematureFlagged b (takeHanded f s)) (b := b) (new := .stripping)
  have hthermal : (panelAnswer f .accepted (raise .prematureRelease (.bed b) v
      (stopEntry b .stripping (prematureFlagged b (takeHanded f s))))).thermal b =
      (stopReady b .stripping (prematureFlagged b (takeHanded f s))).thermal b := by
    rw [← stopEntry_thermal]
    simp [State.thermal, panelAnswer_fields hpayload]
  have hrec : (panelAnswer f .accepted (raise .prematureRelease (.bed b) v
      (stopEntry b .stripping (prematureFlagged b (takeHanded f s))))).heatRec b =
      (stopEntry b .stripping (prematureFlagged b (takeHanded f s))).heatRec b := by
    simp [State.heatRec, panelAnswer_fields hpayload]
  rw [stopReady_thermal] at hthermal
  have hbefore : (prematureFlagged b (takeHanded f s)).thermal b = s.thermal b := by rw [honly]; rfl
  rw [hbefore] at hthermal
  refine ⟨_, hexec, ?_, ?_, ?_, fun m => ?_, ?_, ?_, ?_, ?_, ?_, ?_, ?_, ?_, ?_, ?_, ?_, ?_⟩
  · rw [panelAnswer_bedRec hpayload, bedRec_congr (raise_keeps ..).2.2.2.1, stopEntry_bedRec, prematureFlagged_bedRec]
    rfl
  · exact panelAnswer_moved hpayload _ (raise_moved (bedMoved_trans
      (prematureFlagged_moved (s := takeHanded f s)) stopEntry_moved) _ _ _)
  · exact panelAnswer_flagSet _ (raise_flagSet ..) _
  · rw [findPiece_congr (s := prematureFlagged b (takeHanded f s)) (by simp [panelAnswer_fields hpayload, hpiece])]
    exact prematureFlagged_findPiece m
  · rw [hthermal]
  · rw [hthermal]
  · rw [hthermal]
  · rw [hthermal]
  · rw [hthermal]
  · rw [hrec, hheat]
  · rw [hrec, hheat]
  · rw [hrec, hheat]
  · rw [hrec, hheat]
  · rw [hrec, hheat]
  · have hstopped : s.stoppedThen (stopEntry b .stripping (prematureFlagged b (takeHanded f s))) b [] := by
      have hstop := stopEntry_stopped (s := prematureFlagged b (takeHanded f s)) (b := b) (new := .stripping)
      have hmoved := prematureFlagged_moved (s := takeHanded f s) (b := b)
      refine stoppedThen_before hstop (by rw [honly]; rfl) (by rw [honly]; rfl) (stopFrame_congr ?_ (by rw [honly]; rfl))
      rw [hmoved.2.2.1]
      rfl
    have hanswer : answerFrame (raise .prematureRelease (.bed b) v
        (stopEntry b .stripping (prematureFlagged b (takeHanded f s)))) f (byteOf b.val) .accepted =
        answerFrame s f (byteOf b.val) .accepted := by
      rw [answerFrame, (raise_keeps ..).2.2.2.2.2.2.2.2.1, hsup, honly]
      rfl
    rw [panelAnswer_offer hpayload, hanswer]
    exact stoppedThen_offer (stoppedThen_congr hstopped (raise_portF ..) (by simp)
      ((flagSet_kept _).raise _ _ _)) _
  · apply state_eq <;> simp [panelAnswer_fields hpayload, stopEntry_keeps, prematureFlagged_keeps]

/-- Settles O33. -/
theorem detensionedTaken : Obligations.DetensionedTaken := by
  unfold Obligations.DetensionedTaken
  intro s f b h hnone r acc
  have hexec : exec (.panelDetensioned f) s = .next (panelDetensioned f b (takeHanded f s)) :=
    exec_panelTaken (act := panelDetensioned f) h
  obtain ⟨-, hroom, -, hpayload, -⟩ := h
  refine ⟨fun hstate => ?releasing, fun hstate => ?releasable, fun hstate => ?curing, fun hstate hcast => ?uncast,
    fun hstate hcast => ?cast, fun hstate => ?duplicate⟩
  case releasing =>
    rw [detensioned_releasing (s := takeHanded f s) hnone hstate] at hexec
    refine ⟨_, hexec, ?_, ?_, ?_, ?_⟩
    · rw [panelAnswer_bedRec hpayload, plainEntry_bedRec, if_pos rfl]
      rfl
    · exact panelAnswer_moved hpayload _ (plainEntry_moved (s := takeHanded f s))
    · exact panelAnswer_portF hroom hpayload _ rfl rfl
    · apply state_eq <;> simp [panelAnswer_fields hpayload]
      rw [panelAnswer_notice (by exact hroom) hpayload]
      rfl
  case releasable =>
    rw [detensioned_releasable (s := takeHanded f s) hnone hstate] at hexec
    have hentered := plainEntry_bedRec (s := takeHanded f s) (b := b) (new := .stripping) b
    rw [if_pos rfl] at hentered
    refine ⟨_, hexec, ?_, ?_, ?_, ?_, ?_⟩
    · rw [panelAnswer_bedRec hpayload, bedRec_congr (raise_keeps ..).2.2.2.1, flagPermitless, modBedRec_bedRec,
        if_pos rfl, hentered]
      rfl
    · refine panelAnswer_moved hpayload _ (raise_moved (modBedRec_moved (plainEntry_moved (s := takeHanded f s))
        _ ?_) _ _ _)
      rw [hentered]
      rfl
    · exact panelAnswer_flagSet _ (raise_flagSet ..) _
    · exact panelAnswer_portF hroom hpayload _ (raise_portF ..) (by simp [flagPermitless])
    · apply state_eq <;> simp [panelAnswer_fields hpayload, flagPermitless]
  case curing => exact detensionedPremature hexec hpayload hnone hstate
  case uncast =>
    rw [detensioned_uncast (s := takeHanded f s) hnone hstate hcast] at hexec
    refine ⟨_, hexec, ?_, ?_, ?_, ?_⟩
    · rw [panelAnswer_bedRec hpayload, plainEntry_bedRec, if_pos rfl]
      rfl
    · exact panelAnswer_moved hpayload _ (plainEntry_moved (s := takeHanded f s))
    · exact panelAnswer_portF hroom hpayload _ rfl rfl
    · apply state_eq <;> simp [panelAnswer_fields hpayload]
      rw [panelAnswer_notice (by exact hroom) hpayload]
      rfl
  case cast =>
    rw [detensioned_cast (s := takeHanded f s) hnone hstate hcast] at hexec
    obtain ⟨hbed, hcuring, hportF, hprobe, hheat, hpiece, hstock, hrunway, hmgmt, hsup, hfree, hpending⟩ :=
      watchedEntry_fields (s := unrecorded b (takeHanded f s)) (b := b) (new := .stripping)
    refine ⟨_, hexec, ?_, ?_, ?_, ?_, ?_⟩
    · rw [panelAnswer_bedRec hpayload, bedRec_congr hbed, plainEntry_bedRec, if_pos rfl, unrecorded_bedRec]
      rfl
    · exact panelAnswer_moved hpayload _ (bedMoved_congr (bedMoved_trans
        (unrecorded_moved (s := takeHanded f s)) plainEntry_moved) hbed hcuring)
    · exact panelAnswer_flagSet _ (watchedEntry_flagSet (raise_flagSet ..)) _
    · exact panelAnswer_portF hroom hpayload _ (hportF.trans (raise_portF ..))
        (hsup.trans (by simp [unrecorded_keeps]))
    · apply state_eq <;> simp [panelAnswer_fields hpayload, hprobe, hheat, hpiece, hstock, hrunway, hmgmt, hsup,
        hfree, hpending, unrecorded_keeps]
  case duplicate =>
    have hcount : countDuplicate (takeHanded f s) = takeHanded f (countDuplicate s) := rfl
    rw [hexec, detensioned_duplicate (s := takeHanded f s) hstate, hcount,
      panelAnswer_takeHanded (s := countDuplicate s) hroom hpayload]
    rfl

end Sys2Proof.ReleaseProofs
end

section
/-! The reports CAST_DONE and BED_CLEAR (O31, O34). -/
namespace Sys2Proof.CastClearProofs

open Sys2Proof Sys2Proof.Machine Sys2Proof.StepProofs Sys2Proof.RequestProofs Sys2Proof.HeatLawProofs
  Sys2Proof.FlagProofs Sys2Proof.LineProofs Sys2Proof.SettleProofs Sys2Proof.EntryProofs Sys2Proof.HeatEntryProofs
  Sys2Proof.PanelProofs Sys2Proof.PanelReportProofs Sys2Proof.PanelActProofs Sys2Proof.ReleaseProofs

/-! ### CAST_DONE (R11) -/

section
variable {s : State} {f : Frame} {b : Fin 24}

theorem putOnBed_only (stamp : Minute) : putOnBed b stamp s = { s with piece := (putOnBed b stamp s).piece } := by
  rw [putOnBed, modLines_only]

theorem putOnBed_keeps (stamp : Minute) : (putOnBed b stamp s).line = s.line ∧ (putOnBed b stamp s).probe = s.probe
    ∧ (putOnBed b stamp s).curing = s.curing ∧ (putOnBed b stamp s).heat = s.heat
    ∧ (putOnBed b stamp s).bed = s.bed ∧ (putOnBed b stamp s).stock = s.stock
    ∧ (putOnBed b stamp s).runway = s.runway ∧ (putOnBed b stamp s).mgmt = s.mgmt
    ∧ (putOnBed b stamp s).notice = s.notice ∧ (putOnBed b stamp s).sup = s.sup
    ∧ (putOnBed b stamp s).freeCount = s.freeCount ∧ (putOnBed b stamp s).pending = s.pending := by
  rw [putOnBed_only]
  exact ⟨rfl, rfl, rfl, rfl, rfl, rfl, rfl, rfl, rfl, rfl, rfl, rfl⟩

theorem putOnBed_findPiece (stamp : Minute) (m : Nat) : (putOnBed b stamp s).findPiece m =
    (s.findPiece m).map fun p => if (s.bedRec b).lines.any (fun l => l.mark = m) then
      { p with state := .onBed, location := .bed b, castStamp := some stamp } else p :=
  modLines_findPiece (fun p : Piece => { p with state := .onBed, location := .bed b, castStamp := some stamp })
    (fun _ => rfl) (fun _ => rfl) _ m

theorem castDone_ignored (h : (s.bedRec b).state ≠ .stressed) :
    panelCastDone f b s = panelAnswer f .ignored s := by
  unfold panelCastDone
  split
  · next hstate => exact absurd hstate h
  · rfl

theorem castDone_unordered (h : (s.bedRec b).state = .stressed) (horder : (s.bedRec b).order = none) :
    panelCastDone f b s = panelAnswer f .accepted (castSeen b s) := by
  simp only [panelCastDone, h, horder]
  rfl

theorem castDone_ordered (hnone : s.noneWaiting) (h : (s.bedRec b).state = .stressed)
    (horder : (s.bedRec b).order ≠ none) :
    panelCastDone f b s = panelAnswer f .accepted (castEntry b (putOnBed b s.sup.worksMinute s)) := by
  have hsome : (s.bedRec b).order.isSome = true := Option.isSome_iff_ne_none.mpr horder
  have hcast : castBed b s = castEntry b (putOnBed b s.sup.worksMinute s) :=
    settle_cast (noneWaiting_congr hnone (by simp [putOnBed_keeps]))
  simp only [panelCastDone, h, hsome, if_true, hcast]

theorem castSeen_bedRec : (castSeen b s).bedRec b = { s.bedRec b with
    castSeen := some ((s.bedRec b).castSeen.getD s.sup.worksMinute)
    flags := { (s.bedRec b).flags with castWithoutOrder := true } } := by
  rw [castSeen, bedRec_congr (raise_keeps ..).2.2.2.1, modBedRec_bedRec, if_pos rfl]

theorem castSeen_moved : s.bedMoved (castSeen b s) b (s.bedRec b).state := raise_moved (modBedRec_moves _) _ _ _

end

/-- Settles O31. -/
theorem castDoneTaken : Obligations.CastDoneTaken := by
  unfold Obligations.CastDoneTaken
  intro s f b h hnone
  have hexec : exec (.panelCastDone f) s = .next (panelCastDone f b (takeHanded f s)) :=
    exec_panelTaken (act := panelCastDone f) h
  obtain ⟨-, hroom, -, hpayload, -⟩ := h
  refine ⟨fun hstate => ?ignored, fun hstate horder => ?seen, fun hstate horder => ?cast⟩
  case ignored =>
    rw [hexec, castDone_ignored (s := takeHanded f s) hstate, panelAnswer_takeHanded hroom hpayload]
  case seen =>
    rw [castDone_unordered (s := takeHanded f s) hstate horder] at hexec
    have hmoved := castSeen_moved (s := takeHanded f s) (b := b)
    refine ⟨_, hexec, ?_, ?_, ?_, ?_, ?_⟩
    · rw [panelAnswer_bedRec hpayload, castSeen_bedRec]
      rfl
    · refine panelAnswer_moved hpayload _ ?_
      rw [← hstate]
      exact hmoved
    · exact panelAnswer_flagSet _ (raise_flagSet ..) _
    · exact panelAnswer_portF hroom hpayload _ (raise_portF ..) (by simp [castSeen])
    · apply state_eq <;> simp [panelAnswer_fields hpayload, castSeen]
  case cast =>
    rw [castDone_ordered (s := takeHanded f s) hnone hstate horder] at hexec
    generalize hw : putOnBed b (takeHanded f s).sup.worksMinute (takeHanded f s) = w at hexec
    have hkeeps := putOnBed_keeps (s := takeHanded f s) (b := b) (takeHanded f s).sup.worksMinute
    rw [hw] at hkeeps
    obtain ⟨hline, hprobe, hcuring, hheat, hbed, hstock, hrunway, hmgmt, hnotice, hsup, hfree, hpending⟩ := hkeeps
    have hthermal : w.thermal b = s.thermal b := by rw [State.thermal, hcuring]; rfl
    have hheatRec : ∀ k, w.heatRec k = s.heatRec k := by intro k; rw [State.heatRec, hheat]; rfl
    have hmoved : s.bedMoved w b (s.bedRec b).state :=
      bedMoved_congr (t := s) ⟨rfl, fun _ _ => ⟨rfl, rfl⟩, rfl, rfl⟩ hbed hcuring
    have hafter : (panelAnswer f .accepted (castEntry b w)).heatRec b = (castEntry b w).heatRec b := by
      simp [State.heatRec, panelAnswer_fields hpayload]
    have hafterThermal : (panelAnswer f .accepted (castEntry b w)).thermal b = (castEntry b w).thermal b := by
      simp [State.thermal, panelAnswer_fields hpayload]
    refine ⟨_, hexec, ?_, ?_, fun m => ?_, ?_, ?_, ?_, ?_, ?_, ?_, fun hidle => ?_, ?_⟩
    · rw [panelAnswer_bedRec hpayload, castEntry_bedRec, bedRec_congr hbed]
      rfl
    · exact panelAnswer_moved hpayload _ (bedMoved_trans hmoved castEntry_moved)
    · rw [findPiece_congr (s := w) (by simp [panelAnswer_fields hpayload, castEntry_keeps]), ← hw]
      exact putOnBed_findPiece _ m
    · rw [hafterThermal, castEntry_thermal, hthermal]
    · rw [hafter, castEntry_heatRec]
    · rw [hafter, castEntry_heatRec]
    · rw [hafter, castEntry_heatRec]
    · rw [hafter, castEntry_heatRec]
    · rw [hafter, castEntry_heatRec]
    · refine panelAnswer_portF hroom hpayload _ ?_ (by simp [castEntry_keeps, hsup])
      rw [castEntry_portF fun k _ => by rw [hheatRec]; exact hidle k, hline]
      rfl
    · apply state_eq <;> simp [panelAnswer_fields hpayload, castEntry_keeps, hprobe, hstock, hrunway, hmgmt, hsup,
        hfree, hpending]

end Sys2Proof.CastClearProofs
end

section
/-! The report BED_CLEAR (O34). -/
namespace Sys2Proof.BedClearProofs

open Sys2Proof Sys2Proof.Machine Sys2Proof.StepProofs Sys2Proof.RequestProofs Sys2Proof.FlagProofs
  Sys2Proof.LineProofs Sys2Proof.SettleProofs Sys2Proof.EntryProofs Sys2Proof.PanelProofs
  Sys2Proof.PanelActProofs Sys2Proof.ReleaseProofs

section
variable {s t : State} {f : Frame} {b : Fin 24}

/-! ### The lines left (R17, R92) -/

/-- A record made AT_LARGE, with its bed's account where it holds none. -/
def stranded (s : State) (b : Fin 24) (p : Piece) : Piece :=
  { p with state := .atLarge, location := .none, ready := false
           account := match p.account with
             | some a => some a
             | none => some (s.accountAt p.mix (s.thermal b).maturity (s.thermal b).remainder) }

theorem stranded_twice (p : Piece) : stranded s b (stranded s b p) = stranded s b p := by
  unfold stranded
  cases p.account <;> rfl

theorem strandLine_only (m : Nat) : strandLine b m s = { s with piece := (strandLine b m s).piece } := by
  unfold strandLine
  split
  · split <;> rfl
  · rfl

theorem strandLine_findPiece (m k : Nat) : (strandLine b m s).findPiece k =
    if k = m then (s.findPiece k).map (stranded s b) else s.findPiece k := by
  unfold strandLine
  cases hfind : s.findPiece m with
  | none =>
    dsimp only
    split
    · next hk => rw [hk, hfind]; rfl
    · rfl
  | some p =>
    dsimp only
    rw [strandPiece, modPiece_findPiece]
    · cases haccount : p.account with
      | none =>
        simp only [Option.isNone_none, if_true, takeBedAccount]
        have hinner := modPiece_findPiece s m
          (fun p => { p with account := some (s.accountAt p.mix (s.thermal b).maturity (s.thermal b).remainder) })
          (fun _ => rfl) k
        rw [hinner]
        split
        · next hk =>
          rw [hk, hfind]
          simp [stranded, haccount]
        · rfl
      | some a =>
        simp only [Option.isNone_some, Bool.false_eq_true, if_false]
        split
        · next hk =>
          rw [hk, hfind]
          simp [stranded, haccount]
        · rfl
    · exact fun _ => rfl

/-- The lines of a list stranded. -/
def strandMarks (b : Fin 24) (lines : List OrderLine) (s : State) : State :=
  lines.foldl (fun u l => strandLine b l.mark u) s

theorem strandMarks_only (lines : List OrderLine) :
    strandMarks b lines s = { s with piece := (strandMarks b lines s).piece } := by
  induction lines generalizing s with
  | nil => rfl
  | cons l rest ih =>
    have hnext : strandMarks b (l :: rest) s = strandMarks b rest (strandLine b l.mark s) := rfl
    rw [hnext, ih, strandLine_only]

theorem strandMarks_findPiece (lines : List OrderLine) (m : Nat) : (strandMarks b lines s).findPiece m =
    (s.findPiece m).map fun p => if lines.any (fun l => l.mark = m) then stranded s b p else p := by
  induction lines generalizing s with
  | nil => simp [strandMarks]
  | cons l rest ih =>
    have hnext : strandMarks b (l :: rest) s = strandMarks b rest (strandLine b l.mark s) := rfl
    have hsame : stranded (strandLine b l.mark s) b = stranded s b := by rw [strandLine_only]; rfl
    rw [hnext, ih, hsame, strandLine_findPiece]
    by_cases hm : m = l.mark
    · rw [if_pos hm, Option.map_map]
      congr 1
      funext p
      simp only [Function.comp, List.any_cons, hm, decide_true, Bool.true_or, if_true]
      split
      · exact stranded_twice p
      · rfl
    · have hne : ¬l.mark = m := fun h => hm h.symm
      rw [if_neg hm]
      simp only [List.any_cons, hne, decide_false, Bool.false_or]

theorem strandLines_eq : strandLines b s = if (s.bedRec b).lines = [] then s
    else raise .pieceAtLarge (.bed b) (s.bedRec b).lines.length (strandMarks b (s.bedRec b).lines s) := by
  rw [strandLines]
  cases hlines : (s.bedRec b).lines with
  | nil => rfl
  | cons l rest => rfl

/-! ### The bed cleared -/

/-- The lines stranded and the bed's record emptied. -/
def bedEmptied (b : Fin 24) (s : State) : State :=
  modBedRec b (fun r => { r with order := none, lines := [], castSeen := none, flags := {} }) (strandLines b s)

theorem strandLines_keeps : (strandLines b s).probe = s.probe ∧ (strandLines b s).curing = s.curing
    ∧ (strandLines b s).heat = s.heat ∧ (strandLines b s).bed = s.bed ∧ (strandLines b s).stock = s.stock
    ∧ (strandLines b s).runway = s.runway ∧ (strandLines b s).mgmt = s.mgmt ∧ (strandLines b s).sup = s.sup
    ∧ (strandLines b s).freeCount = s.freeCount ∧ (strandLines b s).pending = s.pending
    ∧ (strandLines b s).line.portF = s.line.portF := by
  rw [strandLines_eq]
  split
  · exact ⟨rfl, rfl, rfl, rfl, rfl, rfl, rfl, rfl, rfl, rfl, rfl⟩
  · rw [raise_portF, strandMarks_only]
    simp

theorem strandLines_findPiece (m : Nat) : (strandLines b s).findPiece m =
    (s.findPiece m).map fun p => if (s.bedRec b).lines.any (fun l => l.mark = m) then stranded s b p else p := by
  rw [strandLines_eq]
  split
  · next hlines => simp [hlines]
  · rw [findPiece_congr (s := strandMarks b (s.bedRec b).lines s) (by simp)]
    exact strandMarks_findPiece _ m

theorem clearBed_eq (hnone : s.noneWaiting) (hstate : (s.bedRec b).state ≠ .curing) :
    clearBed b s = plainEntry b .vacant (bedEmptied b s) := by
  have hstrand := strandLines_keeps (s := s) (b := b)
  have hold : ((bedEmptied b s).bedRec b).state ≠ .curing := by
    rw [bedEmptied, modBedRec_bedRec, if_pos rfl, bedRec_congr hstrand.2.2.2.1]
    exact hstate
  refine settle_plain (s := bedEmptied b s) (noneWaiting_congr hnone ?_) (by decide) hold rfl
  simp [bedEmptied, hstrand]

theorem bedClear_other (hstripping : (s.bedRec b).state ≠ .stripping) (hclearing : (s.bedRec b).state ≠ .clearing) :
    panelBedClear f b s = panelAnswer f .ignored s := by
  unfold panelBedClear
  split
  · next h => exact absurd h hstripping
  · next h => exact absurd h hclearing
  · rfl

theorem bedClear_live (h : (s.bedRec b).state = .stripping) (hlive : s.liveFromBed b = true) :
    panelBedClear f b s = panelAnswer f (.deny .orderLive none) s := by
  simp only [panelBedClear, h, hlive, if_true]

theorem bedClear_cleared
    (h : ((s.bedRec b).state = .stripping ∧ s.liveFromBed b = false) ∨ (s.bedRec b).state = .clearing) :
    panelBedClear f b s = panelAnswer f .accepted (clearBed b s) := by
  rcases h with ⟨h, hlive⟩ | h
  · simp only [panelBedClear, h, hlive, Bool.false_eq_true, if_false]
  · simp only [panelBedClear, h]

end

/-- Settles O34. -/
theorem bedClearTaken : Obligations.BedClearTaken := by
  unfold Obligations.BedClearTaken
  intro s f b h hnone r
  have hexec : exec (.panelBedClear f) s = .next (panelBedClear f b (takeHanded f s)) :=
    exec_panelTaken (act := panelBedClear f) h
  obtain ⟨-, hroom, -, hpayload, -⟩ := h
  refine ⟨fun hstate hlive => ?live, fun hstate => ?cleared, fun hstripping hclearing => ?other⟩
  case live =>
    rw [hexec, bedClear_live (s := takeHanded f s) hstate hlive, panelAnswer_takeHanded hroom hpayload]
  case other =>
    rw [hexec, bedClear_other (s := takeHanded f s) hstripping hclearing, panelAnswer_takeHanded hroom hpayload]
  case cleared =>
    have hcuring : ((takeHanded f s).bedRec b).state ≠ .curing := by
      have hr : ((takeHanded f s).bedRec b).state = r.state := rfl
      rw [hr]
      rcases hstate with ⟨hstate, -⟩ | hstate <;> rw [hstate] <;> decide
    rw [bedClear_cleared (s := takeHanded f s) hstate, clearBed_eq (s := takeHanded f s) hnone hcuring] at hexec
    have hstrand := strandLines_keeps (s := takeHanded f s) (b := b)
    refine ⟨_, hexec, ?_, ?_, fun m => ?_, fun hlines => ?_, fun hlines => ?_, ?_, ?_⟩
    · rw [panelAnswer_bedRec hpayload, plainEntry_bedRec, if_pos rfl, bedEmptied, modBedRec_bedRec, if_pos rfl]
      rfl
    · refine panelAnswer_moved hpayload _ (bedMoved_trans (bedMoved_trans (bedMoved_congr (t := s)
        ⟨rfl, fun _ _ => ⟨rfl, rfl⟩, rfl, rfl⟩ hstrand.2.2.2.1 hstrand.2.1) (modBedRec_moves _)) plainEntry_moved)
    · rw [findPiece_congr (s := strandLines b (takeHanded f s)) (by simp [panelAnswer_fields hpayload, bedEmptied])]
      exact strandLines_findPiece m
    · refine panelAnswer_flagSet _ ?_ _
      show flagSet _ (strandLines b (takeHanded f s))
      rw [strandLines_eq, if_neg (show ((takeHanded f s).bedRec b).lines ≠ [] from hlines)]
      exact raise_flagSet ..
    · have hstay : strandLines b (takeHanded f s) = takeHanded f s := by
        rw [strandLines_eq, if_pos (show ((takeHanded f s).bedRec b).lines = [] from hlines)]
      rw [panelAnswer_notice _ hpayload]
      · show (strandLines b (takeHanded f s)).notice = _
        rw [hstay]
        rfl
      · show State.ringRoom (strandLines b (takeHanded f s))
        rw [hstay]
        exact hroom
    · refine panelAnswer_portF hroom hpayload _ ?_ ?_
      · exact hstrand.2.2.2.2.2.2.2.2.2.2
      · simp [bedEmptied, hstrand]
    · apply state_eq <;> simp [panelAnswer_fields hpayload, bedEmptied, hstrand]

end Sys2Proof.BedClearProofs
end

section
/-! The report STRESSED (O30). -/
namespace Sys2Proof.StressProofs

open Sys2Proof Sys2Proof.Machine Sys2Proof.StepProofs Sys2Proof.RequestProofs Sys2Proof.FlagProofs Sys2Proof.TableProofs
  Sys2Proof.LineProofs Sys2Proof.SettleProofs Sys2Proof.EntryProofs Sys2Proof.PanelProofs
  Sys2Proof.PanelActProofs Sys2Proof.ReleaseProofs

section
variable {s t : State} {f : Frame} {b : Fin 24}

/-! ### The orders over a bed (R135) -/

theorem markLoadOver_findPiece (m : Option Nat) (k : Nat) : (markLoadOver m s).findPiece k =
    (s.findPiece k).map fun p => if m = some k then { p with flags := { p.flags with loadOver := true } } else p := by
  cases m with
  | none => simp [markLoadOver]
  | some m =>
    rw [markLoadOver, modPiece_findPiece _ m (fun p => { p with flags := { p.flags with loadOver := true } })
      (fun _ => rfl)]
    by_cases hk : k = m
    · simp [hk]
    · have hne : ¬m = k := fun h => hk h.symm
      simp [hk, hne]

theorem markLoadOver_only (m : Option Nat) : markLoadOver m s = { s with piece := (markLoadOver m s).piece } := by
  cases m <;> rfl

theorem loadOverCrane_keeps (c : Fin 4) : (loadOverCrane b c s).probe = s.probe
    ∧ (loadOverCrane b c s).curing = s.curing ∧ (loadOverCrane b c s).heat = s.heat
    ∧ (loadOverCrane b c s).bed = s.bed ∧ (loadOverCrane b c s).stock = s.stock
    ∧ (loadOverCrane b c s).mgmt = s.mgmt ∧ (loadOverCrane b c s).sup = s.sup
    ∧ (loadOverCrane b c s).freeCount = s.freeCount ∧ (loadOverCrane b c s).pending = s.pending
    ∧ (loadOverCrane b c s).line.portF = s.line.portF
    ∧ (loadOverCrane b c s).runway.waiting = s.runway.waiting
    ∧ (loadOverCrane b c s).runway.opportunities = s.runway.opportunities := by
  unfold loadOverCrane
  split
  · rw [raise_portF, markLoadOver_only, markLoadOver_only]
    simp [modCurrent, modCrane]
  · exact ⟨rfl, rfl, rfl, rfl, rfl, rfl, rfl, rfl, rfl, rfl, rfl, rfl⟩

/-- The orders over a bed marked, with their pieces. -/
def overMarked (b : Fin 24) (s : State) : State := forEach (loadOverCrane b) s

theorem overMarked_keeps : (overMarked b s).probe = s.probe
    ∧ (overMarked b s).curing = s.curing ∧ (overMarked b s).heat = s.heat
    ∧ (overMarked b s).bed = s.bed ∧ (overMarked b s).stock = s.stock
    ∧ (overMarked b s).mgmt = s.mgmt ∧ (overMarked b s).sup = s.sup
    ∧ (overMarked b s).freeCount = s.freeCount ∧ (overMarked b s).pending = s.pending
    ∧ (overMarked b s).line.portF = s.line.portF
    ∧ (overMarked b s).runway.waiting = s.runway.waiting
    ∧ (overMarked b s).runway.opportunities = s.runway.opportunities := by
  refine forEach_induction s (fun t => t.probe = s.probe ∧ t.curing = s.curing ∧ t.heat = s.heat ∧ t.bed = s.bed
    ∧ t.stock = s.stock ∧ t.mgmt = s.mgmt ∧ t.sup = s.sup ∧ t.freeCount = s.freeCount ∧ t.pending = s.pending
    ∧ t.line.portF = s.line.portF ∧ t.runway.waiting = s.runway.waiting
    ∧ t.runway.opportunities = s.runway.opportunities) _ (fun c t ht => ?_)
    ⟨rfl, rfl, rfl, rfl, rfl, rfl, rfl, rfl, rfl, rfl, rfl, rfl⟩
  simp only [loadOverCrane_keeps, ht, and_self]

/-- A crane's record with its order over the span marked. -/
def craneOver (span : Interval) (r : Crane) : Crane :=
  { r with current := r.current.map (fun o => if overlapsOpt o.loadedSpan span then { o with loadOver := true } else o) }

theorem craneOver_carryOver (c : Fin 4) : craneOver (s.bedSpan b) (s.crane c) = match s.carryOver b c with
    | some o => { s.crane c with current := some { o with loadOver := true } }
    | none => s.crane c := by
  rw [State.carryOver, craneOver]
  cases s.crane c with
  | mk presence silence position envelope control lastHalt reservation current hook =>
    cases current with
    | none => rfl
    | some o =>
      by_cases hover : overlapsOpt o.loadedSpan (s.bedSpan b) = true
      · simp only [hover, if_true, Option.map_some]
      · simp only [hover, Bool.false_eq_true, if_false, Option.map_some]

theorem bedSpan_congr (h : t.bed = s.bed) : t.bedSpan b = s.bedSpan b := by
  rw [State.bedSpan, State.bedSpan, State.bedEntry, State.bedEntry, h]

theorem loadOverCrane_own (c j : Fin 4) : (loadOverCrane b c s).crane j =
    if j = c then craneOver (s.bedSpan b) (s.crane c) else s.crane j := by
  rw [loadOverCrane_crane, craneOver_carryOver]
  cases hover : s.carryOver b c with
  | none =>
    simp only [Option.isSome_none, Bool.false_eq_true, if_false]
    split
    · next hj => rw [hj]
    · rfl
  | some o =>
    have hcurrent := ((carryOver_eq_some b c s).1 hover).1
    simp only [Option.isSome_some, if_true, modCurrent_crane, hcurrent, Option.map_some]

theorem overMarked_crane (c : Fin 4) : (overMarked b s).crane c = match s.carryOver b c with
    | some o => { s.crane c with current := some { o with loadOver := true } }
    | none => s.crane c := by
  have hfold := foldl_entries (fun t => t.bed = s.bed) State.crane (loadOverCrane b)
    (fun _ r => craneOver (s.bedSpan b) r) (fun c t ht => (loadOverCrane_bed b c t).trans ht)
    (fun c t ht j => by rw [loadOverCrane_own, bedSpan_congr ht]) (indexes_nodup 4) rfl c
  rw [if_pos (mem_indexes c), craneOver_carryOver] at hfold
  exact hfold

/-- A piece, while it has a record, carries LOAD_OVER. -/
def pieceOver (m : Nat) (s : State) : Prop := ∀ p, s.findPiece m = some p → p.flags.loadOver = true

theorem pieceOver_congr (m : Nat) (h : pieceOver m s) (hpiece : t.piece = s.piece) : pieceOver m t := by
  rw [pieceOver, findPiece_congr hpiece]
  exact h

theorem markLoadOver_over {k : Nat} (m : Option Nat) (h : m = some k ∨ pieceOver k s) :
    pieceOver k (markLoadOver m s) := by
  intro p hp
  rw [markLoadOver_findPiece, Option.map_eq_some_iff] at hp
  obtain ⟨q, hq, rfl⟩ := hp
  split
  · rfl
  · next hne => exact h.resolve_left hne q hq

theorem loadOverCrane_over {k : Nat} (c : Fin 4) (h : (∃ o, s.carryOver b c = some o
    ∧ (o.mark = some k ∨ (s.crane c).hook = some k)) ∨ pieceOver k s) : pieceOver k (loadOverCrane b c s) := by
  unfold loadOverCrane
  split
  · next o hover =>
    refine pieceOver_congr k ?_ (raise_keeps ..).2.2.2.2.1
    refine markLoadOver_over _ ?_
    by_cases hhook : (s.crane c).hook = some k
    · exact .inl hhook
    · refine .inr (markLoadOver_over _ ?_)
      rcases h with ⟨o', hover', hmark⟩ | h
      · obtain rfl : o = o' := Option.some.inj (hover.symm.trans hover')
        exact .inl (hmark.resolve_right hhook)
      · exact .inr h
  · next hover =>
    rcases h with ⟨o, hover', -⟩ | h
    · rw [hover] at hover'
      exact absurd hover' (by simp)
    · exact h

theorem loadOverCrane_raises (c : Fin 4) (h : s.carryOver b c ≠ none ∨ flagSet .loadOverStressed s) :
    flagSet .loadOverStressed (loadOverCrane b c s) := by
  unfold loadOverCrane
  split
  · exact raise_flagSet ..
  · next hnone => exact h.resolve_left (fun hne => hne hnone)

/-- What the mark of one crane brings about, by that crane's record, the marks of all bring about. -/
theorem overMarked_reaches (Q : State → Prop) (hkeep : ∀ c t, Q t → Q (loadOverCrane b c t)) (c : Fin 4)
    (hown : ∀ t, t.carryOver b c = s.carryOver b c → t.crane c = s.crane c → Q (loadOverCrane b c t)) :
    Q (overMarked b s) := by
  show Q ((indexes 4).foldl (fun u j => loadOverCrane b j u) s)
  refine foldl_reaches (fun t => t.bed = s.bed) Q State.crane (loadOverCrane b)
    (fun c t ht => (loadOverCrane_bed b c t).trans ht) (fun c t _ j hj => ?_) (fun c t _ => hkeep c t)
    (indexes_nodup 4) rfl (mem_indexes c) rfl fun t ht hcrane => hown t ?_ hcrane
  · rw [loadOverCrane_own, if_neg hj]
  · rw [State.carryOver, State.carryOver, hcrane, bedSpan_congr ht]

theorem overMarked_none (h : ∀ c, s.carryOver b c = none) : overMarked b s = s := by
  refine forEach_induction s (fun t => t = s) _ (fun c t ht => ?_) rfl
  rw [ht, loadOverCrane, h c]

/-! ### The bed stressed (R10) -/

/-- The flag of the bed with an order over it. -/
def flagOver (found : Bool) (b : Fin 24) (s : State) : State :=
  if found then modBedRec b (fun r => { r with flags := { r.flags with loadOver := true } }) s else s

/-- An order stands over the bed. -/
def anyOver (b : Fin 24) (s : State) : Bool := (indexes 4).any fun c => (s.carryOver b c).isSome

theorem anyOver_iff : anyOver b s = true ↔ ∃ c, s.carryOver b c ≠ none := by
  simp [anyOver, mem_indexes, Option.isSome_iff_ne_none]

theorem flagOver_keeps (found : Bool) : flagOver found b s = { s with bed := (flagOver found b s).bed } := by
  unfold flagOver
  split <;> rfl

theorem flagOver_bedRec (found : Bool) : (flagOver found b s).bedRec b =
    { s.bedRec b with flags := { (s.bedRec b).flags with loadOver := found || (s.bedRec b).flags.loadOver } } := by
  unfold flagOver
  cases found
  · simp
  · simp [modBedRec_bedRec]

theorem flagOver_moved {u : State} {new : BedState} (h : s.bedMoved u b new) (found : Bool) :
    s.bedMoved (flagOver found b u) b new := by
  unfold flagOver
  split
  · exact modBedRec_moved h _ h.1
  · exact h

theorem overMarked_noneWaiting (h : s.noneWaiting) : (overMarked b s).noneWaiting := by
  obtain ⟨-, -, -, -, -, -, -, -, -, -, hwaiting, hopportunities⟩ := overMarked_keeps (s := s) (b := b)
  exact ⟨hwaiting.trans h.1, hopportunities.trans h.2⟩

/-- The bed stressed, with the orders over it marked. -/
def stressedEntry (found : Bool) (b : Fin 24) (s : State) : State :=
  flagOver found b (plainEntry b .stressed (overMarked b s))

theorem stressedEntry_keeps (found : Bool) : (stressedEntry found b s).probe = s.probe
    ∧ (stressedEntry found b s).heat = s.heat ∧ (stressedEntry found b s).stock = s.stock
    ∧ (stressedEntry found b s).mgmt = s.mgmt ∧ (stressedEntry found b s).sup = s.sup
    ∧ (stressedEntry found b s).freeCount = s.freeCount ∧ (stressedEntry found b s).pending = s.pending
    ∧ (stressedEntry found b s).line.portF = s.line.portF := by
  rw [stressedEntry, flagOver_keeps, plainEntry_only]
  simp [overMarked_keeps]

theorem stressedEntry_marks (found : Bool) : (stressedEntry found b s).line = (overMarked b s).line
    ∧ (stressedEntry found b s).piece = (overMarked b s).piece
    ∧ (stressedEntry found b s).runway = (overMarked b s).runway
    ∧ (stressedEntry found b s).notice = (overMarked b s).notice := by
  rw [stressedEntry, flagOver_keeps, plainEntry_only]
  exact ⟨rfl, rfl, rfl, rfl⟩

theorem stressedEntry_bedRec (found : Bool) : (stressedEntry found b s).bedRec b =
    { enterRec .stressed (s.bedRec b) with
      flags := { (s.bedRec b).flags with loadOver := found || (s.bedRec b).flags.loadOver } } := by
  rw [stressedEntry, flagOver_bedRec, plainEntry_bedRec, if_pos rfl, bedRec_congr overMarked_keeps.2.2.2.1]
  rfl

theorem stressedEntry_moved (found : Bool) : s.bedMoved (stressedEntry found b s) b .stressed := by
  have hstay : s.bedMoved (overMarked b s) b (s.bedRec b).state :=
    bedMoved_congr ⟨rfl, fun _ _ => ⟨rfl, rfl⟩, rfl, rfl⟩ overMarked_keeps.2.2.2.1 overMarked_keeps.2.1
  exact flagOver_moved (bedMoved_trans hstay plainEntry_moved) found

theorem stressBed_eq (hnone : s.noneWaiting) (hstate : (s.bedRec b).state = .vacant) :
    stressBed b s = stressedEntry (anyOver b s) b s := by
  have hnoted : ∀ found t, flagOver found b (noteOpportunity t) = noteOpportunity (flagOver found b t) := by
    intro found t
    cases found <;> rfl
  have hstressed : ∀ t, stressRec b t = noteOpportunity (plainEntry b .stressed t) := fun _ => rfl
  have hbed : stressBed b s = settle (flagOver (anyOver b (enterBed b .stressed s)) b
    (overMarked b (enterBed b .stressed s))) := rfl
  have hover : anyOver b (stressRec b s) = anyOver b s := rfl
  rw [hbed, enterBed_stressed b s hstate, hover, overMarked, forEach_loadOverCrane_stressRec, hstressed, hnoted]
  exact settle_noted (overMarked_noneWaiting hnone) (by rw [flagOver_keeps, plainEntry_only]; rfl)

end

/-- Settles O30. -/
theorem stressedTaken : Obligations.StressedTaken := by
  unfold Obligations.StressedTaken
  intro s f b h hnone
  have hexec : exec (.panelStressed f) s = .next (panelStressed f b (takeHanded f s)) :=
    exec_panelTaken (act := panelStressed f) h
  obtain ⟨-, hroom, -, hpayload, -⟩ := h
  refine ⟨fun hstate => ?_, fun hstate => ?_⟩
  · have hact : panelStressed f b (takeHanded f s) = panelAnswer f .ignored (takeHanded f s) := by
      unfold panelStressed
      split
      · next hvacant => exact absurd hvacant hstate
      · rfl
    rw [hexec, hact, panelAnswer_takeHanded hroom hpayload]
  have hact : panelStressed f b (takeHanded f s) = panelAnswer f .accepted (stressBed b (takeHanded f s)) := by
    have hstate' : ((takeHanded f s).bedRec b).state = .vacant := hstate
    simp only [panelStressed, hstate']
  rw [hact, stressBed_eq (s := takeHanded f s) hnone hstate] at hexec
  generalize hfound : anyOver b (takeHanded f s) = found at hexec
  have hiff : found = true ↔ ∃ c, s.carryOver b c ≠ none := by
    rw [← hfound]
    exact anyOver_iff (s := takeHanded f s)
  have hcarry : ∀ c, (takeHanded f s).carryOver b c = s.carryOver b c := fun _ => rfl
  obtain ⟨hline, hpiece, hrunway, hnotice⟩ := stressedEntry_marks (s := takeHanded f s) (b := b) found
  have hkeeps := stressedEntry_keeps (s := takeHanded f s) (b := b) found
  have hrec := stressedEntry_bedRec (s := takeHanded f s) (b := b) found
  have hmoved := stressedEntry_moved (s := takeHanded f s) (b := b) found
  generalize stressedEntry found b (takeHanded f s) = w at *
  refine ⟨_, hexec, ?_, ?_, ?_, ?_, fun c => ?_, fun c o hco => ⟨?_, fun m p hm => ?_⟩, fun hno => ?_, ?_, ?_⟩
  · exact panelAnswer_moved hpayload _ hmoved
  · rw [panelAnswer_bedRec hpayload, hrec]
    rfl
  · rw [panelAnswer_bedRec hpayload, hrec]
    rfl
  · rw [panelAnswer_bedRec hpayload, hrec, ← hiff, or_comm]
    exact Bool.or_eq_true_iff
  · have hcrane := overMarked_crane (s := takeHanded f s) (b := b) c
    rw [hcarry c, State.crane, ← hrunway] at hcrane
    rw [State.crane, (panelAnswer_fields hpayload _).2.2.2.2.2.2.1]
    exact hcrane
  · have hraised : flagSet .loadOverStressed (overMarked b (takeHanded f s)) :=
      overMarked_reaches (flagSet .loadOverStressed) (fun _ _ ht => loadOverCrane_raises _ (.inr ht)) c
        fun t ht _ => loadOverCrane_raises c (.inl (by rw [ht, hcarry, hco]; simp))
    rw [flagSet, State.cause, ← hnotice] at hraised
    exact panelAnswer_flagSet _ hraised _
  · have hmarked : pieceOver m (overMarked b (takeHanded f s)) :=
      overMarked_reaches (pieceOver m) (fun _ _ ht => loadOverCrane_over _ (.inr ht)) c
        fun t ht hcrane => loadOverCrane_over c (.inl ⟨o, ht.trans ((hcarry c).trans hco), by rw [hcrane]; exact hm⟩)
    exact pieceOver_congr m hmarked ((panelAnswer_fields hpayload _).2.2.2.2.1.trans hpiece) p
  · have hstay : overMarked b (takeHanded f s) = takeHanded f s := overMarked_none hno
    rw [hstay] at hpiece hnotice
    refine ⟨by simp [panelAnswer_fields hpayload, hpiece], ?_⟩
    rw [panelAnswer_notice (by rw [State.ringRoom, hkeeps.2.2.2.2.2.2.2]; exact hroom) hpayload, hnotice]
    rfl
  · exact panelAnswer_portF hroom hpayload _ hkeeps.2.2.2.2.2.2.2 hkeeps.2.2.2.2.1
  · apply state_eq <;> simp [panelAnswer_fields hpayload, hkeeps]

end Sys2Proof.StressProofs
end

section
/-! The requests BED_CANCEL and BED_ABANDON (O36). -/
namespace Sys2Proof.OrderDropProofs

open Sys2Proof Sys2Proof.Machine Sys2Proof.StepProofs Sys2Proof.RequestProofs Sys2Proof.SettleProofs
  Sys2Proof.EntryProofs Sys2Proof.HeatEntryProofs Sys2Proof.PanelReportProofs Sys2Proof.PanelActProofs
  Sys2Proof.ReleaseProofs Sys2Proof.CuringRequestProofs

/-! ### A reply after an act -/

section
variable {s t : State} {f : Frame} {code : Byte} {st : Status} {contents : Bytes} {b : Fin 24} {new : BedState}

/-- The line unit after the reply to a request taken, where the act has left it alone. -/
theorem reply_line (hroom : s.replyRoom) (hline : t.line = (takeIntake f s).line) (hsup : t.sup = s.sup) :
    (reply f code st contents t).line = (answered f code st contents s).line := by
  have htaken : (takeIntake f s).replyRoom := by rw [takeIntake_line]; exact hroom
  have hroom' : t.replyRoom := by rw [State.replyRoom, hline]; exact htaken
  rw [← reply_unchanged hroom, reply_room hroom', reply_room htaken]
  simp only [withPlantFrame, plantFrame, State.station, hline, hsup]
  rw [takeIntake_line]

theorem reply_notice (hroom : t.replyRoom) : (reply f code st contents t).notice = t.notice := by
  rw [reply_room hroom]
  rfl

/-- A reply is offered to port P alone. -/
theorem reply_portF : (reply f code st contents t).line.portF = t.line.portF := by
  rw [reply, offerNormal]
  split
  · rfl
  · exact LineProofs.raise_portF ..

theorem reply_moved (h : s.bedMoved t b new) : s.bedMoved (reply f code st contents t) b new :=
  bedMoved_congr h (by simp) (by simp)

end

/-! ### The records freed (R7, R8, R93) -/

section
variable {s : State} {f : Frame} {b : Fin 24} {code : Byte}

/-- The records of a list of lines erased. -/
def eraseLines (lines : List OrderLine) (s : State) : State := lines.foldl (fun t l => erasePiece l.mark t) s

theorem eraseLines_only (lines : List OrderLine) :
    eraseLines lines s = { s with piece := (eraseLines lines s).piece } := by
  induction lines generalizing s with
  | nil => rfl
  | cons l rest ih =>
    have hnext : eraseLines (l :: rest) s = eraseLines rest (erasePiece l.mark s) := rfl
    rw [hnext, ih]
    rfl

theorem eraseLines_findPiece (lines : List OrderLine) (m : Nat) : (eraseLines lines s).findPiece m =
    if lines.any (fun l => l.mark = m) then none else s.findPiece m := by
  induction lines generalizing s with
  | nil => rfl
  | cons l rest ih =>
    have hnext : eraseLines (l :: rest) s = eraseLines rest (erasePiece l.mark s) := rfl
    rw [hnext, ih, erasePiece_findPiece]
    by_cases hm : m = l.mark
    · simp [hm]
    · have hne : ¬l.mark = m := fun h => hm h.symm
      simp only [List.any_cons, hne, decide_false, Bool.false_or, if_neg hm]

/-- The order of a bed removed with the records of its lines. -/
def withoutOrder (b : Fin 24) (s : State) : State := removeOrder b (freeLines b s)

theorem withoutOrder_only : withoutOrder b s =
    { s with bed := { s.bed with recs := (withoutOrder b s).bed.recs }, piece := (withoutOrder b s).piece } := by
  have hfree : freeLines b s = eraseLines (s.bedRec b).lines s := rfl
  rw [withoutOrder, hfree, eraseLines_only]
  rfl

theorem withoutOrder_keeps : (withoutOrder b s).line = s.line ∧ (withoutOrder b s).probe = s.probe
    ∧ (withoutOrder b s).curing = s.curing ∧ (withoutOrder b s).heat = s.heat
    ∧ (withoutOrder b s).stock = s.stock ∧ (withoutOrder b s).runway = s.runway
    ∧ (withoutOrder b s).mgmt = s.mgmt ∧ (withoutOrder b s).notice = s.notice ∧ (withoutOrder b s).sup = s.sup
    ∧ (withoutOrder b s).freeCount = s.freeCount ∧ (withoutOrder b s).pending = s.pending
    ∧ (withoutOrder b s).bed.table = s.bed.table := by
  rw [withoutOrder_only]
  exact ⟨rfl, rfl, rfl, rfl, rfl, rfl, rfl, rfl, rfl, rfl, rfl, rfl⟩

theorem freeLines_bed : (freeLines b s).bed = s.bed ∧ (freeLines b s).curing = s.curing := by
  have hfree : freeLines b s = eraseLines (s.bedRec b).lines s := rfl
  rw [hfree, eraseLines_only]
  exact ⟨rfl, rfl⟩

theorem withoutOrder_bedRec : (withoutOrder b s).bedRec b =
    { s.bedRec b with order := none, lines := [], flags := { (s.bedRec b).flags with clamped := false } } := by
  rw [withoutOrder, removeOrder, modBedRec_bedRec, if_pos rfl, bedRec_congr freeLines_bed.1]

theorem withoutOrder_moved : s.bedMoved (withoutOrder b s) b (s.bedRec b).state := by
  have hstay : s.bedMoved (freeLines b s) b (s.bedRec b).state :=
    bedMoved_congr ⟨rfl, fun _ _ => ⟨rfl, rfl⟩, rfl, rfl⟩ freeLines_bed.1 freeLines_bed.2
  exact modBedRec_moved hstay _ hstay.1

theorem withoutOrder_findPiece (m : Nat) : (withoutOrder b s).findPiece m =
    if (s.bedRec b).lines.any (fun l => l.mark = m) then none else s.findPiece m :=
  eraseLines_findPiece (s.bedRec b).lines m

end

/-! ### BED_CANCEL (R7) -/

section
variable {s : State} {f : Frame} {b : Fin 24}

theorem cancelBed_dropped (hstate : (s.bedRec b).state = .vacant ∨ (s.bedRec b).state = .stressed)
    (horder : (s.bedRec b).order ≠ none) : cancelBed f b s = reply f qBedCancel .ok [] (withoutOrder b s) :=
  if_pos ⟨hstate, Option.isSome_iff_ne_none.mpr horder⟩

theorem cancelBed_refused
    (h : ((s.bedRec b).state ≠ .vacant ∧ (s.bedRec b).state ≠ .stressed) ∨ (s.bedRec b).order = none) :
    cancelBed f b s = reply f qBedCancel .state [] s := by
  refine if_neg fun hcancel => ?_
  obtain ⟨hstate, horder⟩ := hcancel
  rcases h with ⟨hvacant, hstressed⟩ | hnone
  · exact hstate.elim hvacant hstressed
  · rw [hnone] at horder
    cases horder

theorem cancelTaken (h : s.bedRequest f 0x11#8 b)
    (hstate : (s.bedRec b).state = .vacant ∨ (s.bedRec b).state = .stressed) (horder : (s.bedRec b).order ≠ none) :
    ∃ t, exec (.bedCancel f) s = .next t
      ∧ t.bedRec b = { s.bedRec b with order := none, lines := []
                                       flags := { (s.bedRec b).flags with clamped := false } }
      ∧ s.bedMoved t b (s.bedRec b).state
      ∧ (∀ m, t.findPiece m = if (s.bedRec b).lines.any (fun l => l.mark = m) then none else s.findPiece m)
      ∧ t.line = (answered f 0x11#8 .ok [] s).line
      ∧ t = { s with line := t.line, bed := t.bed, piece := t.piece } := by
  have hexec : exec (.bedCancel f) s = .next (cancelBed f b (takeIntake f s)) := forBed_of_bedRequest h
  rw [cancelBed_dropped (by simpa using hstate) (by simpa using horder)] at hexec
  have hrec : ∀ k, (takeIntake f s).bedRec k = s.bedRec k := fun k => by simp
  have hroom : (withoutOrder b (takeIntake f s)).replyRoom := by
    rw [State.replyRoom, withoutOrder_keeps.1, takeIntake_line]
    exact h.2.1
  have hstay : s.bedMoved (takeIntake f s) b (s.bedRec b).state := by
    rw [takeIntake_line]
    exact ⟨rfl, fun _ _ => ⟨rfl, rfl⟩, rfl, rfl⟩
  refine ⟨_, hexec, ?_, ?_, fun m => ?_, ?_, ?_⟩
  · rw [bedRec_congr (by simp) (t := reply f qBedCancel .ok [] (withoutOrder b (takeIntake f s)))
      (s := withoutOrder b (takeIntake f s)), withoutOrder_bedRec, hrec]
  · have hmoved := withoutOrder_moved (s := takeIntake f s) (b := b)
    rw [hrec] at hmoved
    exact reply_moved (bedMoved_trans hstay hmoved)
  · rw [findPiece_congr (s := withoutOrder b (takeIntake f s)) (by simp), withoutOrder_findPiece, hrec,
      findPiece_congr (s := s) (by simp)]
  · exact reply_line h.2.1 withoutOrder_keeps.1 (by simp [withoutOrder_keeps])
  · apply state_eq <;> simp [withoutOrder_keeps, reply_notice hroom]

/-! ### BED_ABANDON (R8) -/

theorem abandonBed_refused (hcuring : (s.bedRec b).state ≠ .curing) (hreleasable : (s.bedRec b).state ≠ .releasable) :
    abandonBed f b s = reply f qBedAbandon .state [] s :=
  if_neg fun h => h.elim hcuring hreleasable

/-- The bed abandoned: its order dropped and the bed in CLEARING. -/
def abandonedEntry (b : Fin 24) (s : State) : State :=
  if (s.bedRec b).state = .curing then stopEntry b .clearing (withoutOrder b s)
  else plainEntry b .clearing (withoutOrder b s)

theorem abandonBed_dropped (hnone : s.noneWaiting)
    (hstate : (s.bedRec b).state = .curing ∨ (s.bedRec b).state = .releasable) :
    abandonBed f b s = reply f qBedAbandon .ok [] (abandonedEntry b s) := by
  have hact : abandonBed f b s = reply f qBedAbandon .ok [] (settle (enterBed b .clearing (withoutOrder b s))) :=
    if_pos hstate
  have hnone' : (withoutOrder b s).noneWaiting := noneWaiting_congr hnone (by simp [withoutOrder_keeps])
  have hrec : ((withoutOrder b s).bedRec b).state = (s.bedRec b).state := by rw [withoutOrder_bedRec]
  rw [hact, abandonedEntry]
  split
  · next hcuring => rw [settle_stop hnone' (by decide) (hrec.trans hcuring)]
  · next hcuring =>
    have hreleasable := hrec.trans (hstate.resolve_left hcuring)
    rw [settle_plain hnone' (by decide) (by rw [hreleasable]; decide) (by rw [hreleasable]; rfl)]

theorem abandonedEntry_keeps : (abandonedEntry b s).probe = s.probe
    ∧ (abandonedEntry b s).piece = (withoutOrder b s).piece
    ∧ (abandonedEntry b s).stock = s.stock ∧ (abandonedEntry b s).runway = s.runway
    ∧ (abandonedEntry b s).mgmt = s.mgmt ∧ (abandonedEntry b s).sup = s.sup
    ∧ (abandonedEntry b s).freeCount = s.freeCount ∧ (abandonedEntry b s).pending = s.pending := by
  unfold abandonedEntry
  split <;> simp [stopEntry_keeps, withoutOrder_keeps]

theorem abandonedEntry_bedRec : (abandonedEntry b s).bedRec b =
    { s.bedRec b with state := .clearing, permit := 0, order := none, lines := []
                      flags := { (s.bedRec b).flags with clamped := false } } := by
  unfold abandonedEntry
  split
  · rw [stopEntry_bedRec, withoutOrder_bedRec]
    rfl
  · rw [plainEntry_bedRec, if_pos rfl, withoutOrder_bedRec]
    rfl

theorem abandonedEntry_moved : s.bedMoved (abandonedEntry b s) b .clearing := by
  unfold abandonedEntry
  split
  · exact bedMoved_trans withoutOrder_moved stopEntry_moved
  · exact bedMoved_trans withoutOrder_moved plainEntry_moved

theorem abandonedEntry_curing (hcuring : (s.bedRec b).state = .curing) :
    let u := abandonedEntry b s
    (u.thermal b).demand = 0 ∧ (u.thermal b).waiting = .none ∧ (u.thermal b).coolPending = false
      ∧ (u.heatRec b).state = .stopping ∧ (u.heatRec b).request = 0 ∧ (u.heatRec b).grant = 0
      ∧ (u.heatRec b).duty = 0 ∧ (u.heatRec b).refresh = 60 ∧ s.stoppedThen u b [] := by
  intro u
  have hu : u = stopEntry b .clearing (withoutOrder b s) := if_pos hcuring
  have hheat := stopEntry_heatRec (s := withoutOrder b s) (b := b) (new := .clearing)
  have hthermal := stopEntry_thermal (s := withoutOrder b s) (b := b) (new := .clearing)
  rw [stopReady_thermal] at hthermal
  rw [hu, hheat, hthermal]
  refine ⟨rfl, rfl, rfl, rfl, rfl, rfl, rfl, rfl, ?_⟩
  obtain ⟨hline, -, -, hkept, -, -, -, -, hsup, -, -, htable⟩ := withoutOrder_keeps (s := s) (b := b)
  exact stoppedThen_before stopEntry_stopped (by rw [hline]) (by rw [State.heatRec, hkept]; rfl)
    (stopFrame_congr htable hsup)

theorem abandonTaken (h : s.bedRequest f 0x12#8 b) (hnone : s.noneWaiting)
    (hstate : (s.bedRec b).state = .curing ∨ (s.bedRec b).state = .releasable) :
    ∃ t, exec (.bedAbandon f) s = .next t
      ∧ t.bedRec b = { s.bedRec b with state := .clearing, permit := 0, order := none, lines := []
                                       flags := { (s.bedRec b).flags with clamped := false } }
      ∧ s.bedMoved t b .clearing
      ∧ (∀ m, t.findPiece m = if (s.bedRec b).lines.any (fun l => l.mark = m) then none else s.findPiece m)
      ∧ ((s.bedRec b).state = .curing → (t.thermal b).demand = 0 ∧ (t.thermal b).waiting = .none
          ∧ (t.thermal b).coolPending = false ∧ (t.heatRec b).state = .stopping
          ∧ (t.heatRec b).request = 0 ∧ (t.heatRec b).grant = 0 ∧ (t.heatRec b).duty = 0
          ∧ (t.heatRec b).refresh = 60 ∧ s.stoppedThen t b [])
      ∧ ((s.bedRec b).state = .releasable → t.heat = s.heat ∧ t.notice = s.notice
          ∧ t.line = (answered f 0x12#8 .ok [] s).line)
      ∧ t = { s with line := t.line, curing := t.curing, heat := t.heat, bed := t.bed
                     piece := t.piece, notice := t.notice } := by
  have hexec : exec (.bedAbandon f) s = .next (abandonBed f b (takeIntake f s)) := forBed_of_bedRequest h
  have htaken := takeIntake_line f s
  generalize takeIntake f s = v at *
  have hrec : ∀ k, v.bedRec k = s.bedRec k := fun k => by rw [htaken]; rfl
  have hstay : s.bedMoved v b (s.bedRec b).state := by
    rw [htaken]
    exact ⟨rfl, fun _ _ => ⟨rfl, rfl⟩, rfl, rfl⟩
  rw [abandonBed_dropped (by rw [htaken]; exact hnone) (by rw [hrec]; exact hstate)] at hexec
  refine ⟨_, hexec, ?_, ?_, fun m => ?_, fun hcuring => ?_, fun hreleasable => ?_, ?_⟩
  · rw [bedRec_congr (by simp) (t := reply f qBedAbandon .ok [] (abandonedEntry b v)) (s := abandonedEntry b v),
      abandonedEntry_bedRec, hrec]
  · exact reply_moved (bedMoved_trans hstay abandonedEntry_moved)
  · rw [findPiece_congr (s := withoutOrder b v) (by simp [abandonedEntry_keeps]), withoutOrder_findPiece, hrec,
      findPiece_congr (s := s) (by rw [htaken])]
  · obtain ⟨hdemand, hwaiting, hcool, hstopping, hrequest, hgrant, hduty, hrefresh, hstopped⟩ :=
      abandonedEntry_curing (s := v) (b := b) (by rw [hrec]; exact hcuring)
    have hthermal : (reply f qBedAbandon .ok [] (abandonedEntry b v)).thermal b = (abandonedEntry b v).thermal b := by
      simp [State.thermal]
    have hheat : (reply f qBedAbandon .ok [] (abandonedEntry b v)).heatRec b = (abandonedEntry b v).heatRec b := by
      simp [State.heatRec]
    rw [hthermal, hheat]
    refine ⟨hdemand, hwaiting, hcool, hstopping, hrequest, hgrant, hduty, hrefresh, ?_⟩
    exact stoppedThen_congr (stoppedThen_before hstopped (by rw [htaken]) (by rw [htaken]; rfl)
      (stopFrame_congr (by rw [htaken]) (by rw [htaken]))) reply_portF (by simp)
      ((FlagProofs.flagSet_kept _).reply _ _ _ _)
  · have hplain : abandonedEntry b v = plainEntry b .clearing (withoutOrder b v) :=
      if_neg (by rw [hrec, hreleasable]; decide)
    rw [hplain]
    have hline : (plainEntry b .clearing (withoutOrder b v)).line = v.line := by
      rw [plainEntry_keeps.1, withoutOrder_keeps.1]
    have hroom : (plainEntry b .clearing (withoutOrder b v)).replyRoom := by
      rw [State.replyRoom, hline, htaken]
      exact h.2.1
    refine ⟨?_, ?_, reply_line h.2.1 (hline.trans (by rw [htaken, takeIntake_line])) ?_⟩
    · simp [withoutOrder_keeps, htaken]
    · rw [reply_notice hroom]
      simp [withoutOrder_keeps, htaken]
    · simp [withoutOrder_keeps, htaken]
  · apply state_eq <;> simp [abandonedEntry_keeps] <;> rw [htaken]

end

/-- Settles O36. -/
theorem orderDropped : Obligations.OrderDropped := by
  unfold Obligations.OrderDropped
  intro s f b r freed
  refine ⟨fun h => ⟨fun hstate horder => cancelTaken h hstate horder, fun hrefused => ?_⟩,
    fun h => ⟨fun hstate hnone => abandonTaken h hnone hstate, fun hcuring hreleasable => ?_⟩,
    fun x hx hrun hroom => ⟨fun hpayload => forBed_of_large hx hrun hroom hpayload,
      fun hpayload => forBed_of_large hx hrun hroom hpayload⟩⟩
  · have hexec : exec (.bedCancel f) s = .next (cancelBed f b (takeIntake f s)) := forBed_of_bedRequest h
    rw [hexec, cancelBed_refused (by simpa using hrefused)]
    exact congrArg _ (reply_unchanged h.2.1)
  · have hexec : exec (.bedAbandon f) s = .next (abandonBed f b (takeIntake f s)) := forBed_of_bedRequest h
    rw [hexec, abandonBed_refused (by simpa using hcuring) (by simpa using hreleasable)]
    exact congrArg _ (reply_unchanged h.2.1)

end Sys2Proof.OrderDropProofs
end

section
/-! The request BED_ORDER (O35). -/
namespace Sys2Proof.BedOrderProofs

open Sys2Proof Sys2Proof.Machine Sys2Proof.StepProofs Sys2Proof.RequestProofs Sys2Proof.SettleProofs
  Sys2Proof.EntryProofs Sys2Proof.HeatEntryProofs Sys2Proof.PanelReportProofs Sys2Proof.PanelActProofs
  Sys2Proof.ReleaseProofs Sys2Proof.CastClearProofs Sys2Proof.OrderDropProofs

/-! ### The records of the lines (R87) -/

section
variable {s : State} {b : Fin 24} {o : CastOrder} {lines : List OrderLine} {recipe : Recipe}

theorem insertPiece_find (p : Piece) (l : List Piece) (hnew : ∀ q ∈ l, q.mark ≠ p.mark) (m : Nat) :
    (insertPiece p l).find? (fun q => q.mark = m) = if m = p.mark then some p else l.find? (fun q => q.mark = m) := by
  induction l with
  | nil =>
    by_cases hm : m = p.mark
    · simp [insertPiece, hm]
    · simp [insertPiece, hm, Ne.symm hm]
  | cons q rest ih =>
    have hq : q.mark ≠ p.mark := hnew q (by simp)
    have hrest := ih fun x hx => hnew x (by simp [hx])
    unfold insertPiece
    by_cases hm : m = p.mark
    · subst hm
      rw [if_pos rfl] at hrest
      split
      · simp
      · simp [hq, hrest]
    · rw [if_neg hm] at hrest
      split
      · simp [Ne.symm hm]
      · simp only [List.find?_cons, hrest]

theorem createPiece_findPiece (p : Piece) (hnew : s.findPiece p.mark = none) (m : Nat) :
    (createPiece p s).findPiece m =
      if m = p.mark then some { p with number := lowestFree 0 s.piece.recs } else s.findPiece m :=
  insertPiece_find { p with number := lowestFree 0 s.piece.recs } _ ((findPiece_eq_none_iff _).1 hnew) m

/-- The records of a list of lines created. -/
def createLines (b : Fin 24) (lines : List OrderLine) (s : State) : State :=
  lines.foldl (fun t l => createPiece (linePiece b l) t) s

theorem createLines_only : createLines b lines s = { s with piece := (createLines b lines s).piece } := by
  induction lines generalizing s with
  | nil => rfl
  | cons l rest ih =>
    have hnext : createLines b (l :: rest) s = createLines b rest (createPiece (linePiece b l) s) := rfl
    rw [hnext, ih]
    rfl

theorem createLines_length :
    (createLines b lines s).piece.recs.length = s.piece.recs.length + lines.length := by
  induction lines generalizing s with
  | nil => rfl
  | cons l rest ih =>
    have hnext : createLines b (l :: rest) s = createLines b rest (createPiece (linePiece b l) s) := rfl
    rw [hnext, ih, createPiece_length, List.length_cons]
    omega

/-- Lines whose marks name no record, and no two of which carry the same. -/
def newMarks (s : State) (lines : List OrderLine) : Prop :=
  (lines.map (·.mark)).Nodup ∧ ∀ l ∈ lines, s.findPiece l.mark = none

theorem newMarks_next {l : OrderLine} {rest : List OrderLine} (h : newMarks s (l :: rest)) :
    newMarks (createPiece (linePiece b l) s) rest ∧ ∀ x ∈ rest, x.mark ≠ l.mark := by
  obtain ⟨hdup, hnew⟩ := h
  rw [List.map_cons, List.nodup_cons] at hdup
  have hother : ∀ x ∈ rest, x.mark ≠ l.mark := fun x hx heq => hdup.1 (heq ▸ List.mem_map_of_mem hx)
  refine ⟨⟨hdup.2, fun x hx => ?_⟩, hother⟩
  exact (createPiece_findPiece_none (linePiece b l) x.mark).2 ⟨(hother x hx).symm, hnew x (by simp [hx])⟩

theorem createLines_others (h : newMarks s lines) (m : Nat) (hm : ∀ l ∈ lines, l.mark ≠ m) :
    (createLines b lines s).findPiece m = s.findPiece m := by
  induction lines generalizing s with
  | nil => rfl
  | cons l rest ih =>
    have hnext : createLines b (l :: rest) s = createLines b rest (createPiece (linePiece b l) s) := rfl
    rw [hnext, ih (newMarks_next h).1 fun x hx => hm x (by simp [hx]),
      createPiece_findPiece (linePiece b l) (h.2 l (by simp))]
    exact if_neg (hm l (by simp)).symm

theorem createLines_created (h : newMarks s lines) {l : OrderLine} (hl : l ∈ lines) :
    ∃ n, (createLines b lines s).findPiece l.mark = some { linePiece b l with number := n } := by
  induction lines generalizing s with
  | nil => cases hl
  | cons x rest ih =>
    have hnext : createLines b (x :: rest) s = createLines b rest (createPiece (linePiece b x) s) := rfl
    obtain ⟨hrest, hother⟩ := newMarks_next (b := b) h
    rw [hnext]
    rcases List.mem_cons.1 hl with rfl | hl
    · rw [createLines_others hrest _ hother, createPiece_findPiece _ (h.2 l (by simp))]
      exact ⟨_, if_pos rfl⟩
    · exact ih hrest hl

/-! ### The order written (R6) -/

/-- CLAMPED set where the recipe was clamped. -/
def clampFlagged (clamped : Bool) (b : Fin 24) (s : State) : State :=
  if clamped then modBedRec b (fun r => { r with flags := { r.flags with clamped := true } }) s else s

theorem writeOrder_eq : writeOrder b o lines recipe s = clampFlagged (s.wasClamped recipe lines) b
    (modThermal b (fun t => { t with recipe := s.clampRecipe recipe lines })
      (createLines b lines (modBedRec b (fun r => { r with order := some o, lines := lines }) s))) := rfl

theorem clampFlagged_keeps (clamped : Bool) : (clampFlagged clamped b s).curing = s.curing
    ∧ (clampFlagged clamped b s).piece = s.piece
    ∧ clampFlagged clamped b s = { s with bed := { s.bed with recs := (clampFlagged clamped b s).bed.recs } }
    ∧ ∃ flags, (clampFlagged clamped b s).bedRec b = { s.bedRec b with flags := flags } := by
  unfold clampFlagged
  split
  · exact ⟨rfl, rfl, rfl, _, (modBedRec_bedRec ..).trans (if_pos rfl)⟩
  · exact ⟨rfl, rfl, rfl, _, rfl⟩

theorem clampFlagged_moved {u : State} {new : BedState} (h : s.bedMoved u b new) (clamped : Bool) :
    s.bedMoved (clampFlagged clamped b u) b new := by
  unfold clampFlagged
  split
  · exact modBedRec_moved h _ h.1
  · exact h

theorem writeOrder_piece : (writeOrder b o lines recipe s).piece = (createLines b lines s).piece := by
  have hsame : ∀ (g : BedRec → BedRec), (createLines b lines (modBedRec b g s)).piece = (createLines b lines s).piece := by
    intro g
    have hcomm : ∀ (l : List OrderLine) (u v : State), u.piece = v.piece →
        (createLines b l u).piece = (createLines b l v).piece := by
      intro l
      induction l with
      | nil => exact fun _ _ h => h
      | cons x rest ih => exact fun u v h => ih _ _ (by simp [createPiece, setPieces, h])
    exact hcomm _ _ _ rfl
  rw [writeOrder_eq, (clampFlagged_keeps _).2.1]
  exact hsame _

theorem writeOrder_only : writeOrder b o lines recipe s =
    { s with bed := (writeOrder b o lines recipe s).bed, curing := (writeOrder b o lines recipe s).curing
             piece := (writeOrder b o lines recipe s).piece } := by
  rw [writeOrder_eq, (clampFlagged_keeps _).2.2.1, createLines_only]
  rfl

theorem writeOrder_keeps : (writeOrder b o lines recipe s).line = s.line
    ∧ (writeOrder b o lines recipe s).probe = s.probe ∧ (writeOrder b o lines recipe s).heat = s.heat
    ∧ (writeOrder b o lines recipe s).stock = s.stock ∧ (writeOrder b o lines recipe s).runway = s.runway
    ∧ (writeOrder b o lines recipe s).mgmt = s.mgmt ∧ (writeOrder b o lines recipe s).notice = s.notice
    ∧ (writeOrder b o lines recipe s).sup = s.sup ∧ (writeOrder b o lines recipe s).freeCount = s.freeCount
    ∧ (writeOrder b o lines recipe s).pending = s.pending := by
  rw [writeOrder_only]
  exact ⟨rfl, rfl, rfl, rfl, rfl, rfl, rfl, rfl, rfl, rfl⟩

theorem writeOrder_bedRec : ∃ flags, (writeOrder b o lines recipe s).bedRec b =
    { s.bedRec b with order := some o, lines := lines, flags := flags } := by
  obtain ⟨flags, hflags⟩ := (clampFlagged_keeps (s := modThermal b (fun t => { t with recipe := s.clampRecipe recipe lines })
    (createLines b lines (modBedRec b (fun r => { r with order := some o, lines := lines }) s))) (b := b)
    (s.wasClamped recipe lines)).2.2.2
  refine ⟨flags, ?_⟩
  rw [writeOrder_eq, hflags, (modThermal_reads ..).2.1, createLines_only]
  have hrec := modBedRec_bedRec (s := s) b (fun r => { r with order := some o, lines := lines }) b
  rw [if_pos rfl] at hrec
  exact congrArg (fun r : BedRec => { r with flags := flags }) hrec

theorem writeOrder_thermal :
    (writeOrder b o lines recipe s).thermal b = { s.thermal b with recipe := s.clampRecipe recipe lines } := by
  rw [writeOrder_eq, State.thermal, (clampFlagged_keeps _).1]
  have hset := modThermal_thermal (s := createLines b lines
    (modBedRec b (fun r => { r with order := some o, lines := lines }) s)) b
    (fun t => { t with recipe := s.clampRecipe recipe lines }) b
  rw [if_pos rfl, createLines_only] at hset
  rw [createLines_only]
  exact hset

theorem writeOrder_moved : s.bedMoved (writeOrder b o lines recipe s) b (s.bedRec b).state := by
  rw [writeOrder_eq]
  refine clampFlagged_moved (modThermal_moved (bedMoved_congr (modBedRec_moves (s := s) (b := b)
    (fun r => { r with order := some o, lines := lines })) ?_ ?_) _) _
  · rw [createLines_only]
  · rw [createLines_only]

/-! ### A cast already seen (R6) -/

theorem adoptCast_stay (h : (s.bedRec b).state = .vacant ∨ (s.bedRec b).castSeen = none) : adoptCast b s = s := by
  unfold adoptCast
  split
  · next stamp hstate hseen =>
    rcases h with h | h
    · rw [hstate] at h; cases h
    · rw [hseen] at h; cases h
  · rfl

/-- The cast adopted: the lines ON_BED and the bed in CURING. -/
def adopted (b : Fin 24) (stamp : Minute) (s : State) : State :=
  castEntry b (putOnBed b stamp (modBedRec b (fun r => { r with castSeen := none }) s))

theorem adoptCast_cast {stamp : Minute} (hnone : s.noneWaiting) (hstate : (s.bedRec b).state = .stressed)
    (hseen : (s.bedRec b).castSeen = some stamp) : adoptCast b s = adopted b stamp s := by
  simp only [adoptCast, hstate, hseen]
  exact settle_cast (noneWaiting_congr hnone (by simp [putOnBed_keeps]))

variable {stamp : Minute}

theorem adopted_keeps : (adopted b stamp s).probe = s.probe ∧ (adopted b stamp s).stock = s.stock
    ∧ (adopted b stamp s).runway = s.runway ∧ (adopted b stamp s).mgmt = s.mgmt
    ∧ (adopted b stamp s).sup = s.sup ∧ (adopted b stamp s).freeCount = s.freeCount
    ∧ (adopted b stamp s).pending = s.pending := by
  simp [adopted, castEntry_keeps, putOnBed_keeps]

theorem adopted_bedRec :
    (adopted b stamp s).bedRec b = { s.bedRec b with state := .curing, permit := 0, castSeen := none } := by
  rw [adopted, castEntry_bedRec, bedRec_congr (putOnBed_keeps stamp).2.2.2.2.1, modBedRec_bedRec, if_pos rfl]
  rfl

theorem adopted_moved : s.bedMoved (adopted b stamp s) b .curing := by
  have hseen := modBedRec_moves (s := s) (b := b) (fun r => { r with castSeen := none })
  exact bedMoved_trans (bedMoved_congr hseen (putOnBed_keeps stamp).2.2.2.2.1 (putOnBed_keeps stamp).2.2.1) castEntry_moved

theorem adopted_findPiece (m : Nat) : (adopted b stamp s).findPiece m =
    (s.findPiece m).map fun p => if (s.bedRec b).lines.any (fun l => l.mark = m) then
      { p with state := .onBed, location := .bed b, castStamp := some stamp } else p := by
  have hlines : ((modBedRec b (fun r => { r with castSeen := none }) s).bedRec b).lines = (s.bedRec b).lines := by
    rw [modBedRec_bedRec, if_pos rfl]
  rw [adopted, findPiece_congr castEntry_keeps.2.1, putOnBed_findPiece, hlines]
  rfl

theorem adopted_length : (adopted b stamp s).piece.recs.length = s.piece.recs.length := by
  have hfold : ∀ (g : Piece → Piece) (l : List OrderLine) (u : State),
      (l.foldl (fun t x => modPiece x.mark g t) u).piece.recs.length = u.piece.recs.length := by
    intro g l
    induction l with
    | nil => exact fun _ => rfl
    | cons x rest ih => exact fun u => by rw [List.foldl_cons, ih]; simp [modPiece, setPieces]
  rw [adopted, castEntry_keeps.2.1]
  exact hfold _ _ _

theorem adopted_thermal : ((adopted b stamp s).thermal b).recipe = (s.thermal b).recipe
    ∧ ((adopted b stamp s).thermal b).maturity = 0 := by
  rw [adopted, castEntry_thermal, State.thermal, State.thermal, (putOnBed_keeps stamp).2.2.1]
  exact ⟨rfl, rfl⟩

theorem adopted_driven : ((adopted b stamp s).heatRec b).state = .driven := by rw [adopted, castEntry_heatRec]

end

/-! ### BED_ORDER (R5, R6) -/

section
variable {s : State} {f : Frame} {x : RawOrder} {b : Fin 24} {o : CastOrder} {lines : List OrderLine}
  {recipe : Recipe}

theorem bedOrder_accepted (hparse : parseBedOrder f.payload = some x) (hconfigured : s.mgmt.configured = true)
    (hargs : s.bedOrderArgs x = some (b, o, lines)) (hcheck : s.bedOrderCheck b o lines = .ok recipe) :
    bedOrder f s = acceptOrder f b o lines recipe s := by
  simp [bedOrder, hparse, hconfigured, hargs, hcheck]

theorem bedOrderCheck_newMarks (h : s.bedOrderCheck b o lines = .ok recipe) : newMarks s lines :=
  ⟨(bedOrderCheck_ok h).2.1, (bedOrderCheck_ok h).2.2.1⟩

theorem bedOrderCheck_state (h : s.bedOrderCheck b o lines = .ok recipe) :
    (s.bedRec b).state = .vacant ∨ (s.bedRec b).state = .stressed := by
  by_contra hstate
  rw [not_or] at hstate
  have herror : s.bedOrderCheck b o lines = .error .state := if_pos (.inl hstate)
  rw [h] at herror
  cases herror

/-- The state a BED_ORDER that passes its checks leaves, before the reply. -/
def orderTaken (b : Fin 24) (o : CastOrder) (lines : List OrderLine) (recipe : Recipe) (s : State) : State :=
  adoptCast b (writeOrder b o lines recipe s)

theorem orderTaken_stay (h : (s.bedRec b).state = .vacant ∨ (s.bedRec b).castSeen = none) :
    orderTaken b o lines recipe s = writeOrder b o lines recipe s := by
  obtain ⟨flags, hrec⟩ := writeOrder_bedRec (s := s) (b := b) (o := o) (lines := lines) (recipe := recipe)
  exact adoptCast_stay (by rw [hrec]; exact h)

theorem orderTaken_cast {stamp : Minute} (hnone : s.noneWaiting) (hstate : (s.bedRec b).state = .stressed)
    (hseen : (s.bedRec b).castSeen = some stamp) :
    orderTaken b o lines recipe s = adopted b stamp (writeOrder b o lines recipe s) := by
  obtain ⟨flags, hrec⟩ := writeOrder_bedRec (s := s) (b := b) (o := o) (lines := lines) (recipe := recipe)
  exact adoptCast_cast (noneWaiting_congr hnone writeOrder_keeps.2.2.2.2.1) (by rw [hrec]; exact hstate)
    (by rw [hrec]; exact hseen)

/-- What an accepted order leaves, whether or not the cast was seen. -/
structure OrderTaken (s t : State) (b : Fin 24) (o : CastOrder) (ls : List OrderLine) (rcp : Recipe) :
    Prop where
  order : (t.bedRec b).order = some o
  lines : (t.bedRec b).lines = ls
  recipe : (t.thermal b).recipe = s.clampRecipe rcp ls
  moved : s.bedMoved t b (t.bedRec b).state
  length : t.piece.recs.length = s.piece.recs.length + ls.length
  others : ∀ m, (∀ l ∈ ls, l.mark ≠ m) → t.findPiece m = s.findPiece m

theorem writeOrder_taken (hnew : newMarks s lines) :
    OrderTaken s (writeOrder b o lines recipe s) b o lines recipe := by
  obtain ⟨flags, hrec⟩ := writeOrder_bedRec (s := s) (b := b) (o := o) (lines := lines) (recipe := recipe)
  refine ⟨by rw [hrec], by rw [hrec], by rw [writeOrder_thermal], ?_, ?_, fun m hm => ?_⟩
  · rw [hrec]
    exact writeOrder_moved
  · rw [writeOrder_piece]
    exact createLines_length
  · rw [findPiece_congr writeOrder_piece]
    exact createLines_others hnew m hm

theorem adopted_taken {stamp : Minute} {u : State} (h : OrderTaken s u b o lines recipe) :
    OrderTaken s (adopted b stamp u) b o lines recipe := by
  refine ⟨?_, ?_, ?_, ?_, adopted_length.trans h.length, fun m hm => ?_⟩
  · rw [adopted_bedRec]; exact h.order
  · rw [adopted_bedRec]; exact h.lines
  · rw [adopted_thermal.1]; exact h.recipe
  · rw [adopted_bedRec]
    exact bedMoved_trans h.moved adopted_moved
  · have hnot : (u.bedRec b).lines.any (fun l => l.mark = m) = false := by
      rw [h.lines]
      simpa using hm
    simp only [adopted_findPiece, hnot, Bool.false_eq_true, if_false, h.others m hm, Option.map_id']

theorem OrderTaken.congr {t u : State} (h : OrderTaken s t b o lines recipe) (hbed : u.bed = t.bed)
    (hcuring : u.curing = t.curing) (hpiece : u.piece = t.piece) : OrderTaken s u b o lines recipe := by
  have hrec : u.bedRec b = t.bedRec b := bedRec_congr hbed b
  have hthermal : u.thermal b = t.thermal b := by rw [State.thermal, State.thermal, hcuring]
  refine ⟨hrec ▸ h.order, hrec ▸ h.lines, hthermal ▸ h.recipe, ?_, hpiece ▸ h.length, fun m hm => ?_⟩
  · rw [hrec]
    exact bedMoved_congr h.moved hbed hcuring
  · rw [findPiece_congr hpiece]
    exact h.others m hm

end

/-- The order taken, by the cast of the bed. -/
theorem orderTaken_taken {s : State} {b : Fin 24} {o : CastOrder} {lines : List OrderLine} {recipe : Recipe}
    (hnone : s.noneWaiting) (hcheck : s.bedOrderCheck b o lines = .ok recipe) :
    OrderTaken s (orderTaken b o lines recipe s) b o lines recipe := by
  have hwritten := writeOrder_taken (b := b) (o := o) (recipe := recipe) (bedOrderCheck_newMarks hcheck)
  cases hseen : (s.bedRec b).castSeen with
  | none => rw [orderTaken_stay (.inr hseen)]; exact hwritten
  | some stamp =>
    rcases bedOrderCheck_state hcheck with hvacant | hstressed
    · rw [orderTaken_stay (.inl hvacant)]; exact hwritten
    · rw [orderTaken_cast hnone hstressed hseen]; exact adopted_taken hwritten

/-- Settles O35. -/
theorem bedOrderTaken : Obligations.BedOrderTaken := by
  unfold Obligations.BedOrderTaken
  intro s f x hrun hroom hparse
  have hexec : exec (.bedOrder f) s = .next (bedOrder f (takeIntake f s)) := exec_request (act := bedOrder f) hrun rfl
  have htaken := takeIntake_line f s
  have hargs' : (takeIntake f s).bedOrderArgs x = s.bedOrderArgs x := by rw [htaken]; rfl
  have hconfigured' : (takeIntake f s).mgmt.configured = s.mgmt.configured := by rw [htaken]
  refine ⟨fun hconfigured => ?_, fun hconfigured hargs => ?_, fun b o lines hconfigured hargs =>
    ⟨fun st hcheck => ?_, fun recipe hcheck hnone => ?_⟩⟩
  · rw [hexec, ← reply_unchanged hroom, bedOrder]
    simp only [hparse, hconfigured', hconfigured, Bool.not_false, if_true]
  · rw [hexec, ← reply_unchanged hroom, bedOrder]
    simp only [hparse, hconfigured', hconfigured, Bool.not_true, Bool.false_eq_true, if_false, hargs', hargs]
  · have hcheck' : (takeIntake f s).bedOrderCheck b o lines = .error st := by rw [htaken]; exact hcheck
    rw [hexec, ← reply_unchanged hroom, bedOrder]
    simp only [hparse, hconfigured', hconfigured, Bool.not_true, Bool.false_eq_true, if_false, hargs', hargs, hcheck']
  · have hcheck' : (takeIntake f s).bedOrderCheck b o lines = .ok recipe := by rw [htaken]; exact hcheck
    have hreply : bedOrder f (takeIntake f s) = reply f qBedOrder .ok (encFlags [s.wasClamped recipe lines]
        ++ encS2 (s.clampRecipe recipe lines).tmax) (orderTaken b o lines recipe (takeIntake f s)) := by
      rw [bedOrder_accepted hparse (hconfigured'.trans hconfigured) (hargs'.trans hargs) hcheck', acceptOrder]
      have hclamp : (takeIntake f s).clampRecipe recipe lines = s.clampRecipe recipe lines := by rw [htaken]; rfl
      have hwas : (takeIntake f s).wasClamped recipe lines = s.wasClamped recipe lines := by rw [htaken]; rfl
      rw [hclamp, hwas]
      rfl
    rw [hreply] at hexec
    have hline : ∀ u, u.line = (takeIntake f s).line → u.sup = s.sup → ∀ contents,
        (reply f qBedOrder .ok contents u).line = (answered f 0x10#8 .ok contents s).line :=
      fun u hu hsup contents => reply_line hroom hu hsup
    have hreplied : ∀ contents u, u.line = (takeIntake f s).line → (reply f qBedOrder .ok contents u).notice = u.notice :=
      fun contents u hu => reply_notice (by rw [State.replyRoom, hu, htaken]; exact hroom)
    obtain ⟨l, hl⟩ : ∃ l, takeIntake f s = { s with line := l } := ⟨_, htaken⟩
    rw [hl] at hexec hcheck' hline hreplied
    clear hreply hargs' hconfigured' htaken
    have htaken := orderTaken_taken (s := { s with line := l }) hnone hcheck'
    have hbefore : OrderTaken s (orderTaken b o lines recipe { s with line := l }) b o lines recipe :=
      ⟨htaken.order, htaken.lines, htaken.recipe, htaken.moved, htaken.length, htaken.others⟩
    obtain ⟨horder, hlines, hrecipe, hmoved, hlength, hothers⟩ := hbefore.congr
      (u := reply f qBedOrder .ok (encFlags [s.wasClamped recipe lines] ++ encS2 (s.clampRecipe recipe lines).tmax)
        (orderTaken b o lines recipe { s with line := l })) (by simp) (by simp) (by simp)
    refine ⟨_, hexec, horder, hlines, hrecipe, hmoved, hlength, hothers, fun hstay => ?_,
      fun stamp hstressed hseen => ?_⟩
    · have hsame := orderTaken_stay (s := { s with line := l }) (o := o) (lines := lines) (recipe := recipe) hstay
      obtain ⟨flags, hrec⟩ :=
        writeOrder_bedRec (s := { s with line := l }) (b := b) (o := o) (lines := lines) (recipe := recipe)
      have hkeeps := writeOrder_keeps (s := { s with line := l }) (b := b) (o := o) (lines := lines) (recipe := recipe)
      have hcreated := writeOrder_piece (s := { s with line := l }) (b := b) (o := o) (lines := lines) (recipe := recipe)
      rw [hsame]
      refine ⟨?_, fun x hx => ?_, hline _ hkeeps.1 hkeeps.2.2.2.2.2.2.2.1 _, ?_⟩
      · rw [bedRec_congr (s := writeOrder b o lines recipe { s with line := l }) (by simp), hrec]
        rfl
      · obtain ⟨n, hn⟩ := createLines_created (b := b) (bedOrderCheck_newMarks hcheck') hx
        refine ⟨n, ?_⟩
        rw [findPiece_congr (s := createLines b lines { s with line := l }) (by simp [hcreated]), hn]
        rfl
      · apply state_eq <;> simp [hkeeps, hreplied _ _ hkeeps.1]
    · have hsame := orderTaken_cast (s := { s with line := l }) (o := o) (lines := lines) (recipe := recipe)
        hnone hstressed hseen
      have hkeeps := writeOrder_keeps (s := { s with line := l }) (b := b) (o := o) (lines := lines) (recipe := recipe)
      have hcreated := writeOrder_piece (s := { s with line := l }) (b := b) (o := o) (lines := lines) (recipe := recipe)
      have hwritten := writeOrder_taken (b := b) (o := o) (recipe := recipe) (bedOrderCheck_newMarks hcheck')
      rw [hsame]
      generalize hw : writeOrder b o lines recipe { s with line := l } = w at *
      refine ⟨?_, ?_, ?_, ?_, fun x hx => ?_, ?_⟩
      · rw [bedRec_congr (s := adopted b stamp w) (by simp), adopted_bedRec]
      · rw [bedRec_congr (s := adopted b stamp w) (by simp), adopted_bedRec]
      · rw [State.thermal, (reply_keeps ..).2.1]
        exact adopted_thermal.2
      · have hheat : ∀ contents, (reply f qBedOrder .ok contents (adopted b stamp w)).heat = (adopted b stamp w).heat := by
          intro contents; simp
        rw [State.heatRec, hheat]
        exact adopted_driven
      · obtain ⟨n, hn⟩ := createLines_created (b := b) (bedOrderCheck_newMarks hcheck') hx
        have hline : (w.bedRec b).lines.any (fun y => y.mark = x.mark) = true := by
          rw [hwritten.lines]
          exact List.any_eq_true.mpr ⟨x, hx, by simp⟩
        refine ⟨n, ?_⟩
        rw [findPiece_congr (s := adopted b stamp w) (by simp), adopted_findPiece, findPiece_congr hcreated, hn,
          Option.map_some, if_pos hline]
        rfl
      · apply state_eq <;> simp [adopted_keeps, hkeeps]

end Sys2Proof.BedOrderProofs
end

section
/-! The readiness of a record (R47), and the piece-unit minute (O37). -/
namespace Sys2Proof.PieceMinuteProofs

open Sys2Proof Sys2Proof.Machine Sys2Proof.StepProofs Sys2Proof.RequestProofs Sys2Proof.FlagProofs
  Sys2Proof.LineProofs Sys2Proof.ReleaseProofs

/-! ### A readiness recomputed (R47) -/

section
variable {s t : State} {m : Nat} {p : Piece}

theorem findPiece_mark (h : s.findPiece m = some p) : p.mark = m := by
  have hfound := List.find?_some h
  exact of_decide_eq_true hfound

/-- The readiness of a mark's record written. -/
def withReady (m : Nat) (ready : Bool) (s : State) : State := modPiece m (fun q => { q with ready := ready }) s

theorem refreshReady_found (h : s.findPiece m = some p) : refreshReady m s =
    if s.pieceReady p && !p.ready then
      raise .pieceReady (.mark m) p.estimateOf (withReady m (s.pieceReady p) s)
    else withReady m (s.pieceReady p) s := by
  simp only [refreshReady, h]
  rfl

theorem refreshReady_quiet (h : s.findPiece m = some p) (hquiet : p.ready = true ∨ s.pieceReady p = false) :
    refreshReady m s = withReady m (s.pieceReady p) s := by
  rw [refreshReady_found h, if_neg]
  rcases hquiet with hready | hready <;> simp [hready]

theorem refreshReady_raises (h : s.findPiece m = some p) (hold : p.ready = false) (hnew : s.pieceReady p = true) :
    flagSet .pieceReady (refreshReady m s) := by
  rw [refreshReady_found h, if_pos (by simp [hold, hnew])]
  exact raise_flagSet ..

theorem refreshReady_piece (h : s.findPiece m = some p) :
    (refreshReady m s).piece = (withReady m (s.pieceReady p) s).piece := by
  rw [refreshReady_found h]
  split
  · simp
  · rfl

theorem refreshReady_findPiece (k : Nat) : (refreshReady m s).findPiece k =
    if k = m then (s.findPiece k).map (fun p => { p with ready := s.pieceReady p }) else s.findPiece k := by
  cases hfind : s.findPiece m with
  | none =>
    have hstay : refreshReady m s = s := by simp only [refreshReady, hfind]
    rw [hstay]
    split
    · next hk => rw [hk, hfind]; rfl
    · rfl
  | some p =>
    have hready := modPiece_findPiece s m (fun q => { q with ready := s.pieceReady p }) (fun _ => rfl) k
    rw [findPiece_congr (refreshReady_piece hfind), withReady, hready]
    split
    · next hk => rw [hk, hfind]; rfl
    · rfl

theorem refreshReady_portF : (refreshReady m s).line.portF = s.line.portF := by
  cases hfind : s.findPiece m with
  | none => simp only [refreshReady, hfind]
  | some p =>
    rw [refreshReady_found hfind]
    split
    · exact raise_portF ..
    · rfl

theorem pieceReady_congr (h : t.curing = s.curing) : t.pieceReady = s.pieceReady := by
  funext p
  rw [State.pieceReady, State.pieceReady, State.mix, State.mix, h]

/-! ### One record of the minute (R95) -/

/-- The record of a piece in stock after a piece-unit minute. -/
def minuteTreated (s : State) (p : Piece) : Piece :=
  if p.state = .inStock then
    { p with account := s.minuteAccount p, ready := s.pieceReady { p with account := s.minuteAccount p } }
  else p

theorem minuteTreated_mark : (minuteTreated s p).mark = p.mark := by
  unfold minuteTreated
  split <;> rfl

/-- The marks of the records are all different (R88). -/
def marksDiffer (s : State) : Prop := (s.piece.recs.map (·.mark)).Nodup

theorem findPiece_of_mem (hdup : marksDiffer s) (hp : p ∈ s.piece.recs) : s.findPiece p.mark = some p := by
  unfold marksDiffer at hdup
  rw [State.findPiece]
  generalize s.piece.recs = recs at *
  induction recs with
  | nil => cases hp
  | cons q rest ih =>
    rw [List.map_cons, List.nodup_cons] at hdup
    rcases List.mem_cons.1 hp with rfl | hrest
    · simp
    · have hne : q.mark ≠ p.mark := fun heq => hdup.1 (heq ▸ List.mem_map_of_mem hrest)
      rw [List.find?_cons_of_neg (by simpa using hne)]
      exact ih hdup.2 hrest

/-- A record in stock, its account and then its readiness recomputed. -/
theorem pieceMinute_inStock (hfind : s.findPiece m = some p) (hstock : p.state = .inStock) :
    pieceMinute m s = refreshReady m (setAccount m (s.minuteAccount p) s)
      ∧ (setAccount m (s.minuteAccount p) s).findPiece m = some { p with account := s.minuteAccount p } := by
  refine ⟨by simp only [pieceMinute, hfind, hstock, if_true], ?_⟩
  have hset := modPiece_findPiece s m (fun q => { q with account := s.minuteAccount p }) (fun _ => rfl) m
  rw [if_pos rfl, hfind] at hset
  exact hset

theorem pieceMinute_only : pieceMinute m s =
    { s with line := (pieceMinute m s).line, piece := (pieceMinute m s).piece, notice := (pieceMinute m s).notice } := by
  unfold pieceMinute
  split
  · split
    · apply state_eq <;> simp [setAccount]
    · rfl
  · rfl

theorem pieceMinute_recs (hdup : marksDiffer s) : (pieceMinute m s).piece.recs =
    s.piece.recs.map fun p => if p.mark = m then minuteTreated s p else p := by
  cases hfind : s.findPiece m with
  | none =>
    have hstay : pieceMinute m s = s := by simp only [pieceMinute, hfind]
    have hnot := (findPiece_eq_none_iff m).1 hfind
    rw [hstay]
    refine (List.map_id _).symm.trans (List.map_congr_left fun q hq => ?_)
    rw [if_neg (hnot q hq)]
    rfl
  | some p =>
    have hsame : ∀ q ∈ s.piece.recs, q.mark = m → q = p := fun q hq hmark => by
      have hq' := findPiece_of_mem hdup hq
      rw [hmark, hfind] at hq'
      exact (Option.some.inj hq').symm
    by_cases hstock : p.state = .inStock
    · obtain ⟨hact, hset⟩ := pieceMinute_inStock hfind hstock
      rw [hact, refreshReady_piece hset, withReady, modPiece, setPieces_recs, setAccount, modPiece, setPieces_recs,
        List.map_map]
      refine List.map_congr_left fun q hq => ?_
      by_cases hmark : q.mark = m
      · obtain rfl := hsame q hq hmark
        simp only [Function.comp, hmark, if_true, minuteTreated, hstock]
        rfl
      · simp only [Function.comp, hmark, if_false]
    · have hstay : pieceMinute m s = s := by simp only [pieceMinute, hfind, hstock, if_false]
      rw [hstay]
      refine (List.map_id _).symm.trans (List.map_congr_left fun q hq => ?_)
      split
      · next hmark => rw [hsame q hq hmark, minuteTreated, if_neg hstock]; rfl
      · rfl

theorem pieceMinute_raises (hfind : s.findPiece m = some p) (hold : p.ready = false)
    (hnew : (minuteTreated s p).ready = true) : flagSet .pieceReady (pieceMinute m s) := by
  unfold minuteTreated at hnew
  split at hnew
  · next hstock =>
    obtain ⟨hact, hset⟩ := pieceMinute_inStock hfind hstock
    rw [hact]
    exact refreshReady_raises hset hold hnew
  · rw [hold] at hnew; cases hnew

/-! ### All records -/

/-- What every step of a piece-unit minute leaves. -/
def minuteOf (s t : State) : Prop :=
  t = { s with line := t.line, piece := t.piece, notice := t.notice } ∧ marksDiffer t

theorem minuteOf_step (h : minuteOf s t) : minuteOf s (pieceMinute m t) := by
  obtain ⟨honly, hdup⟩ := h
  refine ⟨by rw [pieceMinute_only, honly], ?_⟩
  rw [marksDiffer, pieceMinute_recs hdup, List.map_map]
  have hmarks : (Piece.mark ∘ fun p => if p.mark = m then minuteTreated t p else p) = Piece.mark := by
    funext p
    simp only [Function.comp]
    split
    · exact minuteTreated_mark
    · rfl
  rw [hmarks]
  exact hdup

theorem minuteTreated_congr (h : minuteOf s t) : minuteTreated t = minuteTreated s := by
  rw [h.1]
  rfl

/-- The minute of the records of a list of marks. -/
def minuteMarks (marks : List Nat) (s : State) : State := marks.foldl (fun u m => pieceMinute m u) s

theorem minuteMarks_of (marks : List Nat) (h : minuteOf s t) : minuteOf s (minuteMarks marks t) := by
  induction marks generalizing t with
  | nil => exact h
  | cons m rest ih => exact ih (minuteOf_step h)

theorem minuteMarks_recs (marks : List Nat) (hdup : marks.Nodup) (h : minuteOf s t) :
    (minuteMarks marks t).piece.recs = t.piece.recs.map fun p => if p.mark ∈ marks then minuteTreated s p else p := by
  induction marks generalizing t with
  | nil => simp [minuteMarks]
  | cons m rest ih =>
    obtain ⟨hm, hrest⟩ := List.nodup_cons.1 hdup
    have hnext : minuteMarks (m :: rest) t = minuteMarks rest (pieceMinute m t) := rfl
    rw [hnext, ih hrest (minuteOf_step h), pieceMinute_recs h.2, List.map_map, minuteTreated_congr h]
    refine List.map_congr_left fun p _ => ?_
    by_cases hmark : p.mark = m
    · simp only [Function.comp, hmark, if_true, minuteTreated_mark, hm, if_false, List.mem_cons, true_or]
    · simp only [Function.comp, hmark, if_false, List.mem_cons, false_or]

theorem minuteMarks_raises (marks : List Nat) (h : minuteOf s t) (hp : p ∈ t.piece.recs) (hmark : p.mark ∈ marks)
    (hold : p.ready = false) (hnew : (minuteTreated s p).ready = true) :
    flagSet .pieceReady (minuteMarks marks t) := by
  have hafter : ∀ (l : List Nat) (u : State), flagSet .pieceReady u → flagSet .pieceReady (minuteMarks l u) := by
    intro l
    induction l with
    | nil => exact fun _ hu => hu
    | cons m rest ih => exact fun u hu => ih _ ((flagSet_kept _).pieceMinute m hu)
  induction marks generalizing t with
  | nil => cases hmark
  | cons m rest ih =>
    by_cases hm : p.mark = m
    · refine hafter rest _ (pieceMinute_raises (p := p) ?_ hold ?_)
      · rw [← hm]
        exact findPiece_of_mem h.2 hp
      · rw [minuteTreated_congr h]
        exact hnew
    · refine ih (minuteOf_step h) ?_ ((List.mem_cons.1 hmark).resolve_left hm)
      rw [pieceMinute_recs h.2]
      exact List.mem_map.2 ⟨p, hp, if_neg hm⟩

end

/-- Settles O37. -/
theorem pieceMinuteAges : Obligations.PieceMinuteAges := by
  unfold Obligations.PieceMinuteAges
  intro s hrun hlaw
  have hdup : marksDiffer s := hlaw.2.2
  have hstart : minuteOf s s := ⟨rfl, hdup⟩
  have hexec : exec .pieceMinute s = .next (minuteMarks (s.piece.recs.map (·.mark)) s) :=
    whenRunning_running s (fun t => minuteMarks (t.piece.recs.map Piece.mark) t) hrun
  have hrecs := minuteMarks_recs _ hdup hstart
  refine ⟨_, hexec, ?_, fun h => ?_, (minuteMarks_of _ hstart).1⟩
  · rw [hrecs]
    refine List.map_congr_left fun p hp => ?_
    rw [if_pos (List.mem_map_of_mem hp), minuteTreated]
    split
    · have haccount : s.minuteAccount p = p.account.map fun (a : Account) =>
          match s.locationAmbient p.location with
          | some x =>
            let y := accrue x.1 (s.mix p.mix).datumOf a.maturity a.remainder
            { maturity := y.1, remainder := y.2, estimate := (s.mix p.mix).estimate y.1 }
          | none => { a with estimate := (s.mix p.mix).estimate a.maturity } := by
        rw [State.minuteAccount]
        cases s.locationAmbient p.location <;> rfl
      rw [haccount] <;> rfl
    · rfl
  · obtain ⟨p, hp, hready, q, hq, hmark, hold⟩ := h
    rw [hrecs] at hp
    obtain ⟨r, hr, rfl⟩ := List.mem_map.1 hp
    rw [if_pos (List.mem_map_of_mem hr)] at hready hmark
    rw [minuteTreated_mark] at hmark
    obtain rfl : q = r := by
      have hfound := findPiece_of_mem hdup hq
      rw [hmark, findPiece_of_mem hdup hr] at hfound
      exact (Option.some.inj hfound).symm
    exact minuteMarks_raises _ hstart hq (List.mem_map_of_mem hq) hold hready

end Sys2Proof.PieceMinuteProofs
end

section
/-! The request PIECE_DECLARE (O38). -/
namespace Sys2Proof.PieceDeclareProofs

open Sys2Proof Sys2Proof.Machine Sys2Proof.StepProofs Sys2Proof.RequestProofs Sys2Proof.FlagProofs
  Sys2Proof.LineProofs Sys2Proof.SettleProofs Sys2Proof.ReleaseProofs Sys2Proof.OrderDropProofs
  Sys2Proof.PieceMinuteProofs

/-! ### The lane of port P -/

section
variable {s t u : State} {f : Frame} {code : Byte} {st : Status} {contents : Bytes}

/-- A raised cause brings at most one NOTICE frame to port P (R159). -/
theorem offerNotice_length : (offerNotice s).line.portP.normal.length ≤ s.line.portP.normal.length + 1 := by
  unfold offerNotice
  split
  · split
    · omega
    · simp [modPort, nextLineSeq, setNoticeQueue]
  · omega

theorem raise_length (c : Cause) (v : Subject) (n : Int) :
    (raise c v n s).line.portP.normal.length ≤ s.line.portP.normal.length + 1 := by
  have hrecord : (recordCause c v n 0 s).line = s.line := by simp
  rw [raise, raise2, ← hrecord]
  exact offerNotice_length

/-- The reply is the youngest frame of the lane. -/
theorem reply_last (hroom : t.replyRoom) (hsup : t.sup = s.sup) :
    (reply f code st contents t).line.portP.normal.getLast? =
      (answered f code st contents s).line.portP.normal.getLast? := by
  rw [reply_room hroom]
  simp [withPlantFrame, answered, plantFrame, State.station, hsup]

/-- Opportunities with no order waiting leave the runway as it was. -/
theorem settle_same (h : s.noneWaiting) (hrunway : t.runway = { s.runway with opportunities := t.runway.opportunities }) :
    settle t = { t with runway := s.runway } := by
  have hidle : t.runway.waiting = [] := by rw [hrunway]; exact h.1
  have hsame : { t.runway with opportunities := 0 } = s.runway := by rw [hrunway, ← h.2]
  rw [settle_idle hidle, unnoted, hsame]

end

/-! ### A record pushed (R91) -/

section
variable {s : State} {n : Fin 1024} {m : Nat}

/-- The stack of a slot with a mark on top, and the mark's record there. -/
def stacked (n : Fin 1024) (m : Nat) (s : State) : State :=
  modPiece m (fun p => { p with state := .inStock, location := .slot n ((s.slot n).stack.length + 1) })
    (noteOpportunity (modSlot n (fun x => { x with stack := x.stack ++ [m] }) s))

theorem pushPiece_eq : pushPiece n m s = refreshReady m (stacked n m s) := rfl

theorem pushPiece_slot (k : Fin 1024) : (pushPiece n m s).slot k =
    if k = n then { s.slot n with stack := (s.slot n).stack ++ [m] } else s.slot k := by
  rw [pushPiece_eq, State.slot, (refreshReady_keeps ..).2.2.2.2.1]
  exact modSlot_slot (s := s) n (fun x => { x with stack := x.stack ++ [m] }) k

theorem pushPiece_stock : (pushPiece n m s).stock = { s.stock with slots := (pushPiece n m s).stock.slots } := by
  rw [pushPiece_eq, (refreshReady_keeps ..).2.2.2.2.1]
  rfl

theorem pushPiece_runway :
    (pushPiece n m s).runway = { s.runway with opportunities := (pushPiece n m s).runway.opportunities } := by
  rw [pushPiece_eq, (refreshReady_keeps ..).2.2.2.2.2.1]
  rfl

theorem pushPiece_findPiece (k : Nat) : (pushPiece n m s).findPiece k = if k = m then
    (s.findPiece k).map (fun p =>
      let q := { p with state := .inStock, location := .slot n ((s.slot n).stack.length + 1) }
      { q with ready := s.pieceReady q })
    else s.findPiece k := by
  have hstack := modPiece_findPiece (noteOpportunity (modSlot n (fun x => { x with stack := x.stack ++ [m] }) s)) m
    (fun p => { p with state := .inStock, location := .slot n ((s.slot n).stack.length + 1) }) (fun _ => rfl) k
  have hready : (stacked n m s).pieceReady = s.pieceReady := pieceReady_congr rfl
  rw [pushPiece_eq, refreshReady_findPiece, stacked, hstack, ← stacked, hready]
  by_cases hk : k = m
  · simp only [if_pos hk, Option.map_map]
    rfl
  · simp only [if_neg hk]
    rfl

theorem pushPiece_length :
    (pushPiece n m s).line.portP.normal.length ≤ s.line.portP.normal.length + 1 := by
  rw [pushPiece_eq]
  unfold refreshReady
  split
  · exact Nat.le_succ _
  · dsimp only
    split
    · exact raise_length ..
    · exact Nat.le_succ _

end

/-! ### PIECE_DECLARE (R96) -/

section
variable {s : State} {f : Frame} {m n : Nat}

theorem pieceDeclare_unconfigured (hpayload : f.payload = 0x2A#8 :: (enc4 m ++ enc2 n))
    (hconfigured : s.mgmt.configured = false) : pieceDeclare f s = reply f qPieceDeclare .notConfigured [] s := by
  simp [pieceDeclare, hpayload, enc4, enc2, hconfigured]

theorem pieceDeclare_eq (hm : m < 4294967296) (hn : n < 65536) (hpayload : f.payload = 0x2A#8 :: (enc4 m ++ enc2 n))
    (hconfigured : s.mgmt.configured = true) : pieceDeclare f s =
      if m = 0 then reply f qPieceDeclare .badArg [] s
      else match idx? 1024 n with
        | none => reply f qPieceDeclare .badArg [] s
        | some k => declareAt f m k s := by
  simp only [pieceDeclare, hpayload, enc4, enc2, List.cons_append, List.nil_append, hconfigured, Bool.not_true,
    Bool.false_eq_true, if_false, dec4_enc hm, dec2_enc hn] <;> rfl

theorem pieceDeclare_badArg (hm : m < 4294967296) (hn : n < 65536)
    (hpayload : f.payload = 0x2A#8 :: (enc4 m ++ enc2 n)) (hconfigured : s.mgmt.configured = true)
    (hbad : m = 0 ∨ 1024 ≤ n) : pieceDeclare f s = reply f qPieceDeclare .badArg [] s := by
  rw [pieceDeclare_eq hm hn hpayload hconfigured]
  split
  · rfl
  · next hpos =>
    rw [CuringRequestProofs.idx?_of_le (hbad.resolve_left hpos)]

theorem pieceDeclare_at (hm : m < 4294967296) (hpayload : f.payload = 0x2A#8 :: (enc4 m ++ enc2 n))
    (hconfigured : s.mgmt.configured = true) (hpos : 0 < m) {k : Fin 1024} (hk : n = k.val) :
    pieceDeclare f s = declareAt f m k s := by
  subst hk
  rw [pieceDeclare_eq hm (by omega) hpayload hconfigured, if_neg (by omega), CuringRequestProofs.idx?_val]

theorem declareAt_unknown {k : Fin 1024} (h : s.findPiece m = none) :
    declareAt f m k s = reply f qPieceDeclare .notFound [] s := by
  simp only [declareAt, h]

theorem declareAt_state {k : Fin 1024} {p : Piece} (h : s.findPiece m = some p) (hstate : p.state ≠ .atLarge) :
    declareAt f m k s = reply f qPieceDeclare .state [] s := by
  simp only [declareAt, h]
  exact if_pos hstate

theorem declareAt_refused {k : Fin 1024} {p : Piece} {code : RefusalCode} (h : s.findPiece m = some p)
    (hstate : p.state = .atLarge) (hcheck : s.placementCheck p.cls k = some code) :
    declareAt f m k s =
      reply f qPieceDeclare (if code = .stackFull then .full else .badArg) [code.code] s := by
  have hstay : ¬p.state ≠ .atLarge := fun hne => hne hstate
  simp only [declareAt, h, if_neg hstay, hcheck]
  rfl

theorem declareAt_accepted {k : Fin 1024} {p : Piece} (h : s.findPiece m = some p)
    (hstate : p.state = .atLarge) (hcheck : s.placementCheck p.cls k = none) :
    declareAt f m k s = acceptDeclare f m k s := by
  have hstay : ¬p.state ≠ .atLarge := fun hne => hne hstate
  simp only [declareAt, h, if_neg hstay, hcheck]

end

/-- Settles O38. -/
theorem pieceDeclared : Obligations.PieceDeclared := by
  unfold Obligations.PieceDeclared
  intro s f m n hrun hm hn hpayload
  have hexec : exec (.pieceDeclare f) s = .next (pieceDeclare f (takeIntake f s)) :=
    exec_request (act := pieceDeclare f) hrun rfl
  have htaken := takeIntake_line f s
  have hfind : (takeIntake f s).findPiece = s.findPiece := by rw [htaken]; rfl
  have hcheck : (takeIntake f s).placementCheck = s.placementCheck := by rw [htaken]; rfl
  have hconfig : (takeIntake f s).mgmt.configured = s.mgmt.configured := by rw [htaken]
  refine ⟨fun hroom => ⟨fun hconfigured => ?_, fun hconfigured => ⟨fun hbad => ?_, fun hpos hslot hnone => ?_,
    fun p hpos hslot hp hstate => ?_, fun p k code hpos hk hp hstate hcode => ?_⟩⟩,
    fun p k hconfigured hnone hpos hk hp hstate hcode => ?_⟩
  · rw [hexec, pieceDeclare_unconfigured hpayload (hconfig.trans hconfigured)]
    exact congrArg _ (reply_unchanged hroom)
  · rw [hexec, pieceDeclare_badArg hm hn hpayload (hconfig.trans hconfigured) hbad]
    exact congrArg _ (reply_unchanged hroom)
  · rw [hexec, pieceDeclare_at hm hpayload (hconfig.trans hconfigured) hpos (k := ⟨n, hslot⟩) rfl,
      declareAt_unknown (by rw [hfind]; exact hnone)]
    exact congrArg _ (reply_unchanged hroom)
  · rw [hexec, pieceDeclare_at hm hpayload (hconfig.trans hconfigured) hpos (k := ⟨n, hslot⟩) rfl,
      declareAt_state (by rw [hfind]; exact hp) hstate]
    exact congrArg _ (reply_unchanged hroom)
  · rw [hexec, pieceDeclare_at hm hpayload (hconfig.trans hconfigured) hpos hk,
      declareAt_refused (by rw [hfind]; exact hp) hstate (by rw [hcheck]; exact hcode)]
    exact congrArg _ (reply_unchanged hroom)
  · intro level q
    rw [pieceDeclare_at hm hpayload (hconfig.trans hconfigured) hpos hk,
      declareAt_accepted (by rw [hfind]; exact hp) hstate (by rw [hcheck]; exact hcode), acceptDeclare] at hexec
    obtain ⟨l, hl⟩ : ∃ l, takeIntake f s = { s with line := l } := ⟨_, htaken⟩
    have hlane : l.portP = s.line.portP := by
      rw [htaken] at hl
      exact (congrArg (fun t : State => t.line.portP) hl).symm
    rw [hl, settle_same (s := { s with line := l }) hnone pushPiece_runway] at hexec
    have hslot := fun j => pushPiece_slot (s := { s with line := l }) (n := k) (m := m) j
    have hpiece := fun x => pushPiece_findPiece (s := { s with line := l }) (n := k) (m := m) x
    have hstock := pushPiece_stock (s := { s with line := l }) (n := k) (m := m)
    have hpushed := pushPiece_keeps (s := { s with line := l }) k m
    have hlong := pushPiece_length (s := { s with line := l }) (n := k) (m := m)
    generalize pushPiece k m { s with line := l } = w at *
    refine ⟨_, hexec, ?_, fun j hj => ?_, ?_, fun x hx => ?_, fun hlength => ?_, ?_, ?_⟩
    · rw [State.slot, (reply_keeps ..).2.2.2.2.2.1]
      exact (hslot k).trans (if_pos rfl)
    · rw [State.slot, (reply_keeps ..).2.2.2.2.2.1]
      exact (hslot j).trans (if_neg hj)
    · rw [findPiece_congr (reply_keeps ..).2.2.2.2.1]
      refine (hpiece m).trans ?_
      rw [if_pos rfl]
      exact congrArg _ hp
    · rw [findPiece_congr (reply_keeps ..).2.2.2.2.1]
      exact (hpiece x).trans (if_neg hx)
    · refine reply_last (t := { w with runway := s.runway }) ?_ hpushed.2.2.2.2.2.1
      have hlong' : w.line.portP.normal.length ≤ s.line.portP.normal.length + 1 := hlane ▸ hlong
      exact Nat.lt_of_le_of_lt hlong' (by omega)
    · rw [(reply_keeps ..).2.2.2.2.2.1]
      exact hstock
    · apply state_eq <;> simp [hpushed]

end Sys2Proof.PieceDeclareProofs
end

section
/-! The requests PIECE_SET_MATURITY and PIECE_DROP (O39). -/
namespace Sys2Proof.PieceDropProofs

open Sys2Proof Sys2Proof.Machine Sys2Proof.StepProofs Sys2Proof.RequestProofs Sys2Proof.FlagProofs
  Sys2Proof.LineProofs Sys2Proof.SettleProofs Sys2Proof.EntryProofs Sys2Proof.ReleaseProofs Sys2Proof.OrderDropProofs
  Sys2Proof.PieceMinuteProofs Sys2Proof.PieceDeclareProofs

/-! ### PIECE_SET_MATURITY (R97) -/

section
variable {s : State} {f : Frame} {m v : Nat} {p : Piece}

theorem pieceSetMaturity_eq (hm : m < 4294967296) (hv : v < 4294967296)
    (hpayload : f.payload = 0x2B#8 :: (enc4 m ++ enc4 v)) : pieceSetMaturity f s =
      if m = 0 ∨ 9999999 < v then reply f qPieceSetMaturity .badArg [] s
      else match s.findPiece m with
        | none => reply f qPieceSetMaturity .notFound [] s
        | some p =>
          if p.flags.unrated then acceptMaturity f m v p s else reply f qPieceSetMaturity .state [] s := by
  simp only [pieceSetMaturity, hpayload, enc4, List.cons_append, List.nil_append, dec4_enc hm, dec4_enc hv,
    Config.maxMaturity] <;> rfl

/-- The record of a mark rated. -/
def withRated (m v : Nat) (s : State) : State := modPiece m (s.rated v) s

theorem withRated_findPiece (k : Nat) :
    (withRated m v s).findPiece k = if k = m then (s.findPiece k).map (s.rated v) else s.findPiece k :=
  modPiece_findPiece s m (s.rated v) (fun _ => rfl) k

theorem rated_findPiece (k : Nat) : (refreshReady m (withRated m v s)).findPiece k =
    if k = m then (s.findPiece k).map (fun p =>
      { s.rated v p with ready := s.pieceReady (s.rated v p) }) else s.findPiece k := by
  have hready : (withRated m v s).pieceReady = s.pieceReady := pieceReady_congr rfl
  rw [refreshReady_findPiece, withRated_findPiece, hready]
  by_cases hk : k = m
  · simp only [if_pos hk, Option.map_map]
    rfl
  · simp only [if_neg hk]

theorem refreshReady_length {s : State} :
    (refreshReady m s).line.portP.normal.length ≤ s.line.portP.normal.length + 1 := by
  unfold refreshReady
  split
  · exact Nat.le_succ _
  · dsimp only
    split
    · exact raise_length ..
    · exact Nat.le_succ _

theorem maturityRated (hrun : s.running = true) (hm : m < 4294967296) (hv : v < 4294967296)
    (hpayload : f.payload = 0x2B#8 :: (enc4 m ++ enc4 v)) (hpos : 0 < m) (hrange : v ≤ 9999999)
    (hp : s.findPiece m = some p) (hunrated : p.flags.unrated = true) :
    ∃ t, exec (.pieceSetMaturity f) s = .next t
      ∧ t.findPiece m = some { s.rated v p with ready := s.pieceReady (s.rated v p) }
      ∧ (∀ x, x ≠ m → t.findPiece x = s.findPiece x)
      ∧ (p.ready = false → s.pieceReady (s.rated v p) = true → (t.cause .pieceReady).flag = true)
      ∧ (s.line.portP.normal.length < 15 → t.line.portP.normal.getLast? =
          (answered f 0x2B#8 .ok (enc2 ((s.mix p.mix).estimate v)) s).line.portP.normal.getLast?)
      ∧ (s.replyRoom → p.ready = true ∨ s.pieceReady (s.rated v p) = false →
          t.line = (answered f 0x2B#8 .ok (enc2 ((s.mix p.mix).estimate v)) s).line)
      ∧ t = { s with line := t.line, piece := t.piece, notice := t.notice } := by
  have hexec : exec (.pieceSetMaturity f) s = .next (pieceSetMaturity f (takeIntake f s)) :=
    exec_request (act := pieceSetMaturity f) hrun rfl
  have htaken := takeIntake_line f s
  have hfind : (takeIntake f s).findPiece m = some p := by rw [htaken]; exact hp
  have hrange' : ¬(m = 0 ∨ 9999999 < v) := by omega
  rw [pieceSetMaturity_eq hm hv hpayload, if_neg hrange', hfind] at hexec
  simp only [hunrated, if_true, acceptMaturity] at hexec
  have hline : ∀ t, t.line = (takeIntake f s).line → t.sup = s.sup → ∀ contents, s.replyRoom →
      (reply f qPieceSetMaturity .ok contents t).line = (answered f 0x2B#8 .ok contents s).line :=
    fun t ht hsup contents hroom => reply_line hroom ht hsup
  have hlane : (takeIntake f s).line.portP = s.line.portP := by rw [htaken]
  obtain ⟨l, hl⟩ : ∃ l, takeIntake f s = { s with line := l } := ⟨_, htaken⟩
  rw [hl] at hexec hline hlane
  have hpiece := fun k => rated_findPiece (s := { s with line := l }) (m := m) (v := v) k
  have hkeeps := refreshReady_keeps (s := withRated m v { s with line := l }) m
  have hrated : (withRated m v { s with line := l }).findPiece m = some (s.rated v p) := by
    rw [withRated_findPiece, if_pos rfl]
    exact congrArg _ hp
  refine ⟨_, hexec, ?_, fun x hx => ?_, fun hold hnew => ?_, fun hlength => ?_, fun hroom hquiet => ?_, ?_⟩
  · rw [findPiece_congr (reply_keeps ..).2.2.2.2.1]
    refine (hpiece m).trans ?_
    rw [if_pos rfl]
    exact congrArg _ hp
  · rw [findPiece_congr (reply_keeps ..).2.2.2.2.1]
    exact (hpiece x).trans (if_neg hx)
  · exact (flagSet_kept _).reply _ _ _ _ (refreshReady_raises hrated hold hnew)
  · refine reply_last ?_ hkeeps.2.2.2.2.2.2.2.1
    have hlong : (refreshReady m (withRated m v { s with line := l })).line.portP.normal.length ≤
        l.portP.normal.length + 1 := refreshReady_length
    rw [hlane] at hlong
    exact Nat.lt_of_le_of_lt hlong (by omega)
  · refine hline _ ?_ hkeeps.2.2.2.2.2.2.2.1 _ hroom
    have hstay := refreshReady_quiet hrated hquiet
    have hline' := congrArg (fun t : State => t.line) hstay
    exact hline'
  · apply state_eq <;> simp

end

/-! ### A piece taken from its holder (R98, R104) -/

section
variable {s : State} {f : Frame} {m : Nat} {p : Piece} {l : LineUnit}

theorem pieceDrop_eq (hm : m < 4294967296) (hpayload : f.payload = 0x2C#8 :: enc4 m) : pieceDrop f s =
    if m = 0 then reply f qPieceDrop .badArg [] s
    else match s.findPiece m with
      | none => reply f qPieceDrop .notFound [] s
      | some p =>
        if s.pieceBusy p.mark then reply f qPieceDrop .busy [] s else reply f qPieceDrop .ok [] (dropPiece p s) := by
  simp only [pieceDrop, hpayload, enc4, dec4_enc hm] <;> rfl

theorem mapPieces_findPiece (g : Piece → Piece) (hmark : ∀ p, (g p).mark = p.mark) (k : Nat) :
    (setPieces (s.piece.recs.map g) s).findPiece k = (s.findPiece k).map g := by
  rw [State.findPiece, setPieces_recs, List.find?_map]
  have hsame : ((fun p : Piece => decide (p.mark = k)) ∘ g) = fun p => decide (p.mark = k) := by
    funext p
    simp only [Function.comp, hmark]
  rw [hsame]
  rfl

/-- The level of a record of a slot set to the place of its mark in a stack (R89, R104). -/
def releveled (n : Fin 1024) (stack : List Nat) (k : Nat) (p : Piece) : Piece :=
  { p with location := match p.location with
      | .slot j v => .slot j (if j = n then stack.idxOf k + 1 else v)
      | place => place }

theorem relevel_findPiece (n : Fin 1024) (k : Nat) :
    (relevel n s).findPiece k = (s.findPiece k).map (releveled n (s.slot n).stack k) := by
  rw [relevel, mapPieces_findPiece]
  · cases hfind : s.findPiece k with
    | none => rfl
    | some p =>
      obtain rfl := findPiece_mark hfind
      simp only [Option.map_some, releveled]
      congr 1
      cases hlocation : p.location with
      | slot j v =>
        by_cases hj : j = n
        · simp only [hj, if_true]
        · simp only [hj, if_false, ← hlocation]
      | _ => simp only [← hlocation]
  · intro p
    split
    · split <;> rfl
    · rfl

theorem dropPiece_eq (hnone : s.noneWaiting)
    (hrunway : (detachPiece p s).runway.waiting = s.runway.waiting) :
    dropPiece p s = unnoted (erasePiece p.mark (detachPiece p s)) :=
  settle_idle (s := erasePiece p.mark (detachPiece p s)) (hrunway.trans hnone.1)

theorem detachPiece_waiting : (detachPiece p s).runway.waiting = s.runway.waiting := by
  unfold detachPiece
  split <;> rfl

theorem detachPiece_keeps : (detachPiece p s).line = s.line ∧ (detachPiece p s).probe = s.probe
    ∧ (detachPiece p s).heat = s.heat ∧ (detachPiece p s).mgmt = s.mgmt ∧ (detachPiece p s).notice = s.notice
    ∧ (detachPiece p s).sup = s.sup ∧ (detachPiece p s).freeCount = s.freeCount
    ∧ (detachPiece p s).pending = s.pending := by
  unfold detachPiece
  split <;> exact ⟨rfl, rfl, rfl, rfl, rfl, rfl, rfl, rfl⟩

end

/-- What a drop leaves of the state before, by the holder of the piece (R98). -/
structure Dropped (s t : State) (p : Piece) (m : Nat) : Prop where
  gone : t.findPiece m = none
  bed : ∀ b, p.location = .bed b →
    (t.bedRec b).lines = (s.bedRec b).lines.filter (fun l => l.mark ≠ m)
      ∧ (t.bedRec b).order = (s.bedRec b).order ∧ s.bedMoved t b (s.bedRec b).state
      ∧ (∀ x, x ≠ m → t.findPiece x = s.findPiece x)
      ∧ t = { s with line := t.line, curing := t.curing, bed := t.bed, piece := t.piece }
  slot : ∀ n v, p.location = .slot n v →
    s.unstacked t n m ∧ (t.slot n).claims = (s.slot n).claims ∧ (∀ j, j ≠ n → t.slot j = s.slot j)
      ∧ t.stock = { s.stock with slots := t.stock.slots }
      ∧ t = { s with line := t.line, piece := t.piece, stock := t.stock }
  crane : ∀ c, p.location = .crane c →
    t.crane c = { s.crane c with hook := none } ∧ s.onlyCrane t c ∧ (∀ x, x ≠ m → t.findPiece x = s.findPiece x)
      ∧ t = { s with line := t.line, piece := t.piece, runway := t.runway }
  loose : p.location = .none →
    (∀ x, x ≠ m → t.findPiece x = s.findPiece x) ∧ t = { s with line := t.line, piece := t.piece }

section
variable {s : State} {m : Nat} {p : Piece} {l : LineUnit}

theorem erase_others {u : State} (hu : u.findPiece = s.findPiece) (x : Nat) (hx : x ≠ m) :
    (erasePiece m u).findPiece x = s.findPiece x := by
  rw [erasePiece_findPiece, if_neg hx, hu]

theorem dropPiece_dropped (hnone : s.noneWaiting) (hp : p.mark = m) : Dropped s (dropPiece p s) p m := by
  subst hp
  have hzero : { s.runway with opportunities := 0 } = s.runway := by rw [← hnone.2]
  rw [dropPiece_eq hnone detachPiece_waiting]
  refine ⟨?_, fun b hb => ?_, fun n v hn => ?_, fun c hc => ?_, fun h => ?_⟩
  · exact (erasePiece_findPiece ..).trans (if_pos rfl)
  · have hdetach : detachPiece p s = removeLine b p.mark s := by simp only [detachPiece, hb]
    rw [hdetach]
    have hrec : (removeLine b p.mark s).bedRec b =
        { s.bedRec b with lines := (s.bedRec b).lines.filter fun l => l.mark ≠ p.mark } :=
      (modBedRec_bedRec (s := s) b (fun r => { r with lines := r.lines.filter fun l => l.mark ≠ p.mark }) b).trans
        (if_pos rfl)
    have hmoved : s.bedMoved (removeLine b p.mark s) b (s.bedRec b).state :=
      PanelReportProofs.modThermal_moved (modBedRec_moves (s := s) _) _
    have horder := congrArg BedRec.order hrec
    refine ⟨congrArg BedRec.lines hrec, horder, hmoved, erase_others rfl, ?_⟩
    apply state_eq <;> first | rfl | exact hzero
  · have hdetach : detachPiece p s = unstack n p.mark s := by simp only [detachPiece, hn]
    rw [hdetach]
    have hslot : ∀ j, (unstack n p.mark s).slot j =
        if j = n then { s.slot n with stack := (s.slot n).stack.erase p.mark } else s.slot j :=
      modSlot_slot (s := s) n (fun x => { x with stack := x.stack.erase p.mark })
    have hslots : ∀ j, (unnoted (erasePiece p.mark (unstack n p.mark s))).slot j = (unstack n p.mark s).slot j :=
      fun _ => rfl
    refine ⟨⟨?_, fun k q hk hq => ?_⟩, ?_, fun j hj => ?_, rfl, ?_⟩
    · rw [hslots, hslot, if_pos rfl]
    · have hlevel := relevel_findPiece (s := modSlot n (fun x => { x with stack := x.stack.erase p.mark }) s) n k
      have herase : (unnoted (erasePiece p.mark (unstack n p.mark s))).findPiece k =
          (relevel n (modSlot n (fun x => { x with stack := x.stack.erase p.mark }) s)).findPiece k :=
        (erasePiece_findPiece ..).trans (if_neg hk)
      have hq' : (modSlot n (fun x => { x with stack := x.stack.erase p.mark }) s).findPiece k = some q := hq
      rw [herase, hlevel, hq', Option.map_some, hslots]
      rfl
    · rw [hslots, hslot, if_pos rfl]
    · rw [hslots, hslot, if_neg hj]
    · apply state_eq <;> first | rfl | exact hzero
  · have hdetach : detachPiece p s = setHook c none s := by simp only [detachPiece, hc]
    rw [hdetach]
    have hcrane : ∀ d, (unnoted (erasePiece p.mark (setHook c none s))).crane d =
        if d = c then { s.crane c with hook := none } else s.crane d :=
      modCrane_crane (s := s) c (fun k => { k with hook := none })
    refine ⟨(hcrane c).trans (if_pos rfl), ⟨fun d hd => (hcrane d).trans (if_neg hd), ?_⟩, erase_others rfl, ?_⟩
    · exact congrArg (fun r : RunwayUnit => { r with
        cranes := (unnoted (erasePiece p.mark (setHook c none s))).runway.cranes }) hzero
    · apply state_eq <;> rfl
  · have hdetach : detachPiece p s = s := by simp only [detachPiece, h]
    rw [hdetach]
    refine ⟨erase_others rfl, ?_⟩
    apply state_eq <;> first | rfl | exact hzero

end

/-- Settles O39. -/
theorem pieceRatedOrDropped : Obligations.PieceRatedOrDropped := by
  unfold Obligations.PieceRatedOrDropped
  intro s f m hrun hm
  have htaken := takeIntake_line f s
  have hfind : (takeIntake f s).findPiece = s.findPiece := by rw [htaken]; rfl
  have hbusy : (takeIntake f s).pieceBusy = s.pieceBusy := by rw [htaken]; rfl
  refine ⟨fun v hv hpayload => ⟨fun hroom => ⟨fun hbad => ?_, fun hpos hrange hnone => ?_,
    fun p hpos hrange hp hrated => ?_⟩, fun p hpos hrange hp hunrated =>
    maturityRated hrun hm hv hpayload hpos hrange hp hunrated⟩,
    fun hpayload hroom => ⟨fun hzero => ?_, fun hpos hnone => ?_, fun p hpos hp hb => ?_,
      fun p hpos hp hb hnone => ?_⟩⟩
  · have hexec : exec (.pieceSetMaturity f) s = .next (pieceSetMaturity f (takeIntake f s)) :=
      exec_request (act := pieceSetMaturity f) hrun rfl
    rw [hexec, pieceSetMaturity_eq hm hv hpayload, if_pos hbad]
    exact congrArg _ (reply_unchanged hroom)
  · have hexec : exec (.pieceSetMaturity f) s = .next (pieceSetMaturity f (takeIntake f s)) :=
      exec_request (act := pieceSetMaturity f) hrun rfl
    rw [hexec, pieceSetMaturity_eq hm hv hpayload, if_neg (by omega), hfind, hnone]
    exact congrArg _ (reply_unchanged hroom)
  · have hexec : exec (.pieceSetMaturity f) s = .next (pieceSetMaturity f (takeIntake f s)) :=
      exec_request (act := pieceSetMaturity f) hrun rfl
    rw [hexec, pieceSetMaturity_eq hm hv hpayload, if_neg (by omega), hfind, hp]
    simp only [hrated, Bool.false_eq_true, if_false]
    exact congrArg _ (reply_unchanged hroom)
  all_goals have hexec : exec (.pieceDrop f) s = .next (pieceDrop f (takeIntake f s)) :=
      exec_request (act := pieceDrop f) hrun rfl
  all_goals rw [pieceDrop_eq hm hpayload] at hexec
  · rw [hexec, if_pos hzero]
    exact congrArg _ (reply_unchanged hroom)
  · rw [hexec, if_neg (by omega), hfind, hnone]
    exact congrArg _ (reply_unchanged hroom)
  · rw [hexec, if_neg (by omega), hfind, hp]
    simp only [hbusy, findPiece_mark hp, hb, if_true]
    exact congrArg _ (reply_unchanged hroom)
  · have hmark := findPiece_mark hp
    rw [if_neg (by omega), hfind, hp] at hexec
    simp only [hbusy, hmark, hb, Bool.false_eq_true, if_false] at hexec
    have hline : ∀ t, t.line = (takeIntake f s).line → t.sup = s.sup →
        (reply f qPieceDrop .ok [] t).line = (answered f 0x2C#8 .ok [] s).line :=
      fun t ht hsup => reply_line hroom ht hsup
    have hreplied : ∀ t, t.line = (takeIntake f s).line → (reply f qPieceDrop .ok [] t).notice = t.notice :=
      fun t ht => reply_notice (by rw [State.replyRoom, ht, htaken]; exact hroom)
    obtain ⟨l, hl⟩ : ∃ l, takeIntake f s = { s with line := l } := ⟨_, htaken⟩
    rw [hl] at hexec hline hreplied
    have hdropped := dropPiece_dropped (s := { s with line := l }) hnone hmark
    have hkeeps : (dropPiece p { s with line := l }).line = l ∧ (dropPiece p { s with line := l }).sup = s.sup
        ∧ (dropPiece p { s with line := l }).notice = s.notice := by
      rw [dropPiece_eq (s := { s with line := l }) hnone detachPiece_waiting]
      have hdetach := detachPiece_keeps (s := { s with line := l }) (p := p)
      exact ⟨hdetach.1, hdetach.2.2.2.2.2.1, hdetach.2.2.2.2.1⟩
    generalize dropPiece p { s with line := l } = w at *
    have hpiece : (reply f qPieceDrop .ok [] w).findPiece = w.findPiece := findPiece_congr (by simp)
    refine ⟨_, hexec, ?_, hline w hkeeps.1 hkeeps.2.1, fun b hb => ?_, fun n v hn => ?_, fun c hc => ?_, fun h => ?_⟩
    · rw [hpiece]
      exact hdropped.gone
    · obtain ⟨hlines, horder, hmoved, hothers, honly⟩ := hdropped.bed b hb
      rw [bedRec_congr (s := w) (by simp), hpiece]
      refine ⟨hlines, horder, reply_moved hmoved, hothers, ?_⟩
      apply state_eq <;> simp [hreplied w hkeeps.1] <;> rw [honly]
    · obtain ⟨hunstacked, hclaims, hslots, hstock, honly⟩ := hdropped.slot n v hn
      have hslot : (reply f qPieceDrop .ok [] w).slot = w.slot := by funext j; simp [State.slot]
      rw [hslot, (reply_keeps ..).2.2.2.2.2.1]
      refine ⟨?_, hclaims, hslots, hstock, ?_⟩
      · rw [State.unstacked, hslot, hpiece]
        exact hunstacked
      · apply state_eq <;> simp [hreplied w hkeeps.1] <;> rw [honly]
    · obtain ⟨hhook, hcranes, hothers, honly⟩ := hdropped.crane c hc
      have hcrane : (reply f qPieceDrop .ok [] w).crane = w.crane := by funext j; simp [State.crane]
      rw [State.onlyCrane, hcrane, hpiece]
      refine ⟨hhook, ⟨hcranes.1, by simpa using hcranes.2⟩, hothers, ?_⟩
      apply state_eq <;> simp [hreplied w hkeeps.1] <;> rw [honly]
    · obtain ⟨hothers, honly⟩ := hdropped.loose h
      rw [hpiece]
      refine ⟨hothers, ?_⟩
      apply state_eq <;> simp [hreplied w hkeeps.1] <;> rw [honly]

end Sys2Proof.PieceDropProofs
end

section
/-!
SUPPORT. What the operations on one crane leave of the other cranes and of the runway unit, and what they make of
the crane's own record (8.2 to 8.8).
-/
namespace Sys2Proof.CraneRuleProofs

open Sys2Proof Sys2Proof.Machine Sys2Proof.StepProofs Sys2Proof.RequestProofs Sys2Proof.FlagProofs
  Sys2Proof.LineProofs Sys2Proof.SettleProofs Sys2Proof.ReleaseProofs Sys2Proof.RunwayLawProofs
  Sys2Proof.PieceMinuteProofs Sys2Proof.PieceDeclareProofs Sys2Proof.PieceDropProofs

/-! ### One crane changed -/

/-- The other cranes are as they were, and the runway unit beside its cranes but for the opportunities. -/
structure CraneStep (c : Fin 4) (s t : State) : Prop where
  others : ∀ d, d ≠ c → t.crane d = s.crane d
  runway : t.runway = { s.runway with cranes := t.runway.cranes, opportunities := t.runway.opportunities }

section
variable {s t u : State} {c : Fin 4} {m : Nat}

theorem CraneStep.refl (c : Fin 4) (s : State) : CraneStep c s s := ⟨fun _ _ => rfl, rfl⟩

theorem CraneStep.trans (h : CraneStep c s t) (g : CraneStep c t u) : CraneStep c s u :=
  ⟨fun d hd => (g.others d hd).trans (h.others d hd), by rw [g.runway, h.runway]⟩

theorem CraneStep.of_runway (h : t.runway = s.runway) : CraneStep c s t :=
  ⟨fun d _ => by rw [State.crane, State.crane, h], by rw [h]⟩

theorem CraneStep.waiting (h : CraneStep c s t) : t.runway.waiting = s.runway.waiting := by rw [h.runway]

/-- With the opportunities taken and no order waiting, only the crane has changed. -/
theorem CraneStep.only (h : CraneStep c s t) (hnone : s.noneWaiting) : s.onlyCrane (unnoted t) c := by
  refine ⟨fun d hd => h.others d hd, ?_⟩
  have hzero := hnone.2
  rw [unnoted, h.runway]
  rw [← hzero]

theorem CraneStep.settled (h : CraneStep c s t) (hnone : s.noneWaiting) : settle t = unnoted t :=
  SettleProofs.settle_idle (h.waiting.trans hnone.1)

theorem step_noteOpportunity : CraneStep c s (noteOpportunity s) := ⟨fun _ _ => rfl, rfl⟩

theorem step_modCrane (g : Crane → Crane) : CraneStep c s (modCrane c g s) :=
  ⟨fun d hd => by rw [modCrane_crane, if_neg hd], rfl⟩

theorem step_modCurrent (g : CraneOrder → CraneOrder) : CraneStep c s (modCurrent c g s) := step_modCrane _

theorem step_setHook (h : Option Nat) : CraneStep c s (setHook c h s) :=
  (step_modCrane _).trans step_noteOpportunity

theorem step_endOrder : CraneStep c s (endOrder c s) := (step_modCrane _).trans step_noteOpportunity

theorem step_raise (e : Cause) (v : Subject) (n : Int) : CraneStep c s (raise e v n s) := .of_runway (by simp)

theorem step_haltCrane (r : HaltReason) : CraneStep c s (haltCrane c r s) := by
  unfold haltCrane
  exact (CraneStep.of_runway (by rw [(offerHalt_keeps ..).2.2.2.2.2.1]; rfl)).trans (step_modCrane _)

theorem step_hookPiece : CraneStep c s (hookPiece c m s) := by
  unfold hookPiece
  refine CraneStep.trans ?_ (step_setHook _)
  exact .of_runway rfl

theorem step_unstack (n : Fin 1024) : CraneStep c s (unstack n m s) := by
  unfold unstack
  refine CraneStep.trans ?_ step_noteOpportunity
  exact .of_runway rfl

theorem step_pushPiece (n : Fin 1024) : CraneStep c s (pushPiece n m s) := by
  rw [pushPiece_eq]
  exact (step_noteOpportunity (s := s)).trans (.of_runway (by rw [(refreshReady_keeps ..).2.2.2.2.2.1]; rfl))

theorem step_releaseFor (t : Task) : CraneStep c s (releaseFor t s) := by
  unfold releaseFor
  split
  · unfold releaseClaim
    refine CraneStep.trans ?_ step_noteOpportunity
    exact .of_runway rfl
  · exact .refl c s

theorem step_modPiece (g : Piece → Piece) : CraneStep c s (modPiece m g s) := .of_runway rfl

/-! ### The crane's own record -/

theorem haltCrane_own (r : HaltReason) :
    (haltCrane c r s).crane c = { s.crane c with control := .halted, lastHalt := some r } := by
  have hoffer : (offerHalt (haltFrame (nextLineSeq s) c r) (nextLineSeq s)).crane c = s.crane c := by
    rw [State.crane, (offerHalt_keeps ..).2.2.2.2.2.1]
    rfl
  rw [haltCrane, modCrane_crane, if_pos rfl, hoffer]

theorem setHook_own (h : Option Nat) : (setHook c h s).crane c = { s.crane c with hook := h } :=
  (modCrane_crane (s := s) c (fun k => { k with hook := h }) c).trans (if_pos rfl)

theorem hookPiece_own : (hookPiece c m s).crane c = { s.crane c with hook := some m } := setHook_own _

theorem modCurrent_own (g : CraneOrder → CraneOrder) {o : CraneOrder} (h : (s.crane c).current = some o) :
    (modCurrent c g s).crane c = { s.crane c with current := some (g o) } := by
  rw [modCurrent_crane, if_pos rfl, h]
  rfl

theorem crane_congr (h : t.runway = s.runway) (d : Fin 4) : t.crane d = s.crane d := by
  rw [State.crane, State.crane, h]

theorem endOrder_own : (endOrder c s).crane c = (s.crane c).ended (s.crane c).hook := by
  rw [endOrder_crane, if_pos rfl]
  rfl

/-! ### Records and slots -/

theorem hookPiece_findPiece (k : Nat) : (hookPiece c m s).findPiece k = if k = m then
    (s.findPiece k).map (fun p => { p with state := .onHook, location := .crane c, ready := false })
    else s.findPiece k :=
  modPiece_findPiece s m (fun p => { p with state := .onHook, location := .crane c, ready := false }) (fun _ => rfl) k

theorem unstack_slot (n j : Fin 1024) : (unstack n m s).slot j =
    if j = n then { s.slot n with stack := (s.slot n).stack.erase m } else s.slot j :=
  modSlot_slot (s := s) n (fun x => { x with stack := x.stack.erase m }) j

theorem unstack_findPiece (n : Fin 1024) (k : Nat) : (unstack n m s).findPiece k =
    (s.findPiece k).map (releveled n ((unstack n m s).slot n).stack k) :=
  relevel_findPiece (s := modSlot n (fun x => { x with stack := x.stack.erase m }) s) n k

theorem unstack_stock (n : Fin 1024) :
    (unstack n m s).stock = { s.stock with slots := (unstack n m s).stock.slots } := rfl

/-- A piece taken out of a stack onto a hook. -/
theorem unstacked_hook (n : Fin 1024) (h : t.stock = s.stock) (hpiece : t.piece = s.piece) :
    s.unstacked (hookPiece c m (unstack n m t)) n m := by
  have hslot : ∀ j, (hookPiece c m (unstack n m t)).slot j = (unstack n m t).slot j := fun _ => rfl
  have hstack : t.slot n = s.slot n := by rw [State.slot, State.slot, h]
  refine ⟨?_, fun k p hk hp => ?_⟩
  · rw [hslot, unstack_slot, if_pos rfl, hstack]
  · rw [hookPiece_findPiece, if_neg hk, unstack_findPiece, findPiece_congr hpiece, hp]
    rfl

end

end Sys2Proof.CraneRuleProofs
end

section
/-! The binding of a census order (O40). -/
namespace Sys2Proof.CensusProofs

open Sys2Proof Sys2Proof.Machine Sys2Proof.StepProofs Sys2Proof.RequestProofs Sys2Proof.FlagProofs
  Sys2Proof.LineProofs Sys2Proof.SettleProofs Sys2Proof.ReleaseProofs Sys2Proof.RunwayLawProofs
  Sys2Proof.BedOrderProofs Sys2Proof.PieceMinuteProofs Sys2Proof.PieceDropProofs Sys2Proof.CraneRuleProofs

section
variable {s u : State} {c : Fin 4} {o : CraneOrder} {n : Fin 1024} {a : Fin 16} {m : Nat}

/-! ### A binding that fails (R114) -/

theorem countAt_area (ha : s.areaOf n.val = some a) (count : Fin 16 → State → State) :
    countAt n count s = count a s := by
  simp only [countAt, ha]

theorem step_modArea (g : Area → Area) : CraneStep c s (modArea a g s) := .of_runway rfl

/-- The state of a failed binding before its cause is raised. -/
def failedBinding (c : Fin 4) (a : Fin 16) (r : HaltReason) (s : State) : State :=
  haltCrane c r (countFailed a (setBinding c .failed s))

theorem failBinding_eq (ha : s.areaOf n.val = some a) (r : HaltReason) :
    failBinding c n r m s = raise .hookMismatch (.crane c) m (failedBinding c a r s) := by
  have ha' : (setBinding c .failed s).areaOf n.val = some a := ha
  rw [failBinding, countAt_area ha', mismatch, failedBinding]

theorem failedBinding_own (ho : (s.crane c).current = some o) (r : HaltReason) :
    (failedBinding c a r s).crane c = { s.crane c with
      control := .halted, lastHalt := some r, current := some { o with binding := some .failed } } := by
  have hset : (countFailed a (setBinding c .failed s)).crane c =
      { s.crane c with current := some { o with binding := some .failed } } :=
    modCurrent_own (fun x => { x with binding := some .failed }) ho
  rw [failedBinding, haltCrane_own, hset]

theorem failedBinding_step (r : HaltReason) : CraneStep c s (failedBinding c a r s) :=
  ((step_modCurrent _).trans (step_modArea _)).trans (step_haltCrane r)

theorem failedBinding_stock (r : HaltReason) : (failedBinding c a r s).stock = (countFailed a s).stock := by
  rw [failedBinding, (haltCrane_keeps ..).2.2.2.2.1]
  rfl

theorem failedBinding_piece (r : HaltReason) : (failedBinding c a r s).piece = s.piece := by
  rw [failedBinding, (haltCrane_keeps ..).2.2.2.1]
  rfl

theorem countFailed_area (k : Fin 16) : (countFailed a s).area k =
    if k = a then { s.area a with failed := min 65535 ((s.area a).failed + 1) } else s.area k :=
  modArea_area s a _ k

/-- What a failed binding leaves (R114). -/
theorem bindingFailed (ho : (s.crane c).current = some o) (ha : s.areaOf n.val = some a) (r : HaltReason) :
    let t := failBinding c n r m s
    (t.stock.slots = s.stock.slots ∧ t.piece = s.piece
      ∧ (t.crane c).current = some { o with binding := some .failed }
      ∧ (t.crane c).control = .halted ∧ (t.crane c).hook = (s.crane c).hook
      ∧ (t.cause .hookMismatch).flag = true
      ∧ t.area a = { s.area a with failed := min 65535 ((s.area a).failed + 1) })
    ∧ (t.crane c).lastHalt = some r := by
  intro t
  have ht : t = raise .hookMismatch (.crane c) m (failedBinding c a r s) := failBinding_eq ha r
  have hcrane : t.crane c = (failedBinding c a r s).crane c := by
    rw [ht]
    exact crane_congr (by simp) c
  have hstock : t.stock = (countFailed a s).stock := by
    rw [ht, ← failedBinding_stock (c := c) r]
    simp
  have harea : t.area a = (countFailed a s).area a := by rw [State.area, hstock]; rfl
  rw [hcrane, failedBinding_own ho, harea, countFailed_area, if_pos rfl]
  refine ⟨⟨by rw [hstock]; rfl, ?_, rfl, rfl, rfl, ?_, rfl⟩, rfl⟩
  · rw [ht, (raise_keeps ..).2.2.2.2.1, failedBinding_piece]
  · rw [ht]
    exact raise_flagSet ..

/-! ### A mark bound (R114) -/

/-- What a binding to a mark leaves of the cranes, from a state that leaves the cranes as they were. -/
theorem bound_crane (ho : (s.crane c).current = some o) (hcrane : ∀ d, u.crane d = s.crane d) :
    let t := setBinding c (.bound m) (setHook c (some m) u)
    (t.crane c).hook = some m ∧ (t.crane c).current = some { o with binding := some (.bound m) }
      ∧ ∀ d, d ≠ c → t.crane d = s.crane d := by
  have ho' : ((setHook c (some m) u).crane c).current = some o := by
    rw [setHook_own, hcrane]
    exact ho
  have hown : (setBinding c (.bound m) (setHook c (some m) u)).crane c = _ :=
    modCurrent_own (fun x => { x with binding := some (.bound m) }) ho'
  refine ⟨?_, ?_, fun d hd => ?_⟩
  · rw [hown, setHook_own]
  · rw [hown]
  · have hstep : CraneStep c u (setBinding c (.bound m) (setHook c (some m) u)) :=
      (step_setHook _).trans (step_modCurrent _)
    rw [hstep.others d hd, hcrane]

theorem bindMoved_crane (ho : (s.crane c).current = some o) (hcrane : ∀ d, u.crane d = s.crane d) :
    ((bindMoved c m u).crane c).hook = some m
      ∧ ((bindMoved c m u).crane c).current = some { o with binding := some (.bound m) }
      ∧ ∀ d, d ≠ c → (bindMoved c m u).crane d = s.crane d :=
  bound_crane (u := modPiece m (fun p => { p with state := .onHook, location := .crane c, ready := false }) u)
    ho hcrane

theorem bindMoved_stock : (bindMoved c m u).stock = u.stock := by simp [bindMoved, setBinding]

theorem area_congr {t : State} (h : t.stock = s.stock) (k : Fin 16) : t.area k = s.area k := by
  rw [State.area, State.area, h]

theorem bindMoved_findPiece {p : Piece} (hp : u.findPiece m = some p) : (bindMoved c m u).findPiece m =
    some { p with state := .onHook, location := .crane c, ready := false } := by
  have hhook := hookPiece_findPiece (s := u) (c := c) (m := m) m
  rw [if_pos rfl, hp] at hhook
  exact hhook

/-- A mark bound out of a stack. -/
theorem boundFromStack {k : Fin 1024} {p : Piece} (g : Area → Area) (ho : (s.crane c).current = some o)
    (hp : s.findPiece m = some p) (hlocation : ∃ v, p.location = .slot k v) :
    let t := bindMoved c m (unstack k m (modArea a g s))
    ((t.crane c).hook = some m ∧ (t.crane c).current = some { o with binding := some (.bound m) }
        ∧ ∀ d, d ≠ c → t.crane d = s.crane d)
      ∧ s.unstacked t k m
      ∧ t.findPiece m = some { p with state := .onHook, location := .crane c, ready := false }
      ∧ t.area a = g (s.area a) := by
  have harea : (bindMoved c m (unstack k m (modArea a g s))).area a = g (s.area a) := by
    have hstay : (unstack k m (modArea a g s)).area a = (modArea a g s).area a := rfl
    rw [area_congr bindMoved_stock, hstay, modArea_area, if_pos rfl]
  have hcranes : ∀ d, (unstack k m (modArea a g s)).crane d = s.crane d := fun _ => rfl
  refine ⟨bindMoved_crane ho hcranes, ?_, ?_, harea⟩
  · have hunstacked := unstacked_hook (s := modArea a g s) (t := modArea a g s) (c := c) (m := m) k rfl rfl
    exact ⟨hunstacked.1, hunstacked.2⟩
  · obtain ⟨v, hv⟩ := hlocation
    have hfound : (unstack k m (modArea a g s)).findPiece m =
        some (releveled k ((unstack k m (modArea a g s)).slot k).stack m p) := by
      rw [unstack_findPiece, findPiece_congr (t := modArea a g s) (s := s) rfl, hp]
      rfl
    rw [bindMoved_findPiece hfound]
    rfl

/-! ### The rows of R114 -/

theorem bindMark_busy {p : Piece} (hp : s.findPiece m = some p) (hbusy : s.busyElsewhere c m = true) :
    bindMark c o n m s = failBinding c n .hookMismatch m s := by
  simp only [bindMark, hp, hbusy, if_true]

theorem bindMark_stocked {p : Piece} {k : Fin 1024} {v : Nat} (hp : s.findPiece m = some p)
    (hbusy : s.busyElsewhere c m = false) (hstate : p.state = .inStock) (hlocation : p.location = .slot k v) :
    bindMark c o n m s = if k = n ∧ (s.slot n).stack.getLast? = some m then
      bindMoved c m (unstack n m (countAt n countConfirmed s))
    else bindMoved c m (unstack k m (countAt n countRelocated s)) := by
  simp only [bindMark, hp, hbusy, Bool.false_eq_true, if_false, hstate, hlocation]

theorem bindMark_atLarge {p : Piece} (hp : s.findPiece m = some p)
    (hbusy : s.busyElsewhere c m = false) (hstate : p.state = .atLarge) :
    bindMark c o n m s = bindMoved c m (countAt n countRelocated s) := by
  simp only [bindMark, hp, hbusy, Bool.false_eq_true, if_false, hstate]

theorem bindMark_held {p : Piece} (hp : s.findPiece m = some p) (hbusy : s.busyElsewhere c m = false)
    (hstate : p.state = .ordered ∨ p.state = .onBed ∨ p.state = .onHook) :
    bindMark c o n m s = failBinding c n .hookMismatch m s := by
  rcases hstate with hstate | hstate | hstate <;>
    simp only [bindMark, hp, hbusy, Bool.false_eq_true, if_false, hstate]

theorem bindMark_full (hp : s.findPiece m = none) (hfull : 2048 ≤ s.piece.recs.length) :
    bindMark c o n m s = failBinding c n .stockFullRecords m s := by
  have hno : s.hasFreeRecord = false := decide_eq_false (Nat.not_lt.2 hfull)
  simp only [bindMark, hp, hno, Bool.false_eq_true, if_false]

theorem bindMark_created (hp : s.findPiece m = none) (hroom : s.piece.recs.length < 2048) :
    bindMark c o n m s = setBinding c (.bound m)
      (setHook c (some m) (countAt n countCreated (createPiece (censusPiece s c o m) s))) := by
  have hfree : s.hasFreeRecord = true := decide_eq_true hroom
  simp only [bindMark, hp, hfree, if_true]

end

/-- Settles O40. -/
theorem censusBinding : Obligations.CensusBinding := by
  unfold Obligations.CensusBinding
  intro s c o n a m ho ha t onHook bound failed
  refine ⟨fun p hp hbusy => ?_, fun p hp hbusy => ⟨fun v hstate hlocation htop => ?_,
    fun k v hstate hlocation htop => ?_, fun hstate => ?_, fun hstate => ?_⟩, fun hp hfull => ?_, fun hp hroom => ?_⟩
  · have ht : t = failBinding c n .hookMismatch m s := bindMark_busy hp hbusy
    simp only [failed, ht]
    exact bindingFailed ho ha _
  · have ht : t = bindMoved c m (unstack n m (countConfirmed a s)) := by
      rw [← countAt_area ha countConfirmed]
      exact (bindMark_stocked hp hbusy hstate hlocation).trans (if_pos ⟨rfl, htop⟩)
    simp only [bound, ht]
    exact boundFromStack _ ho hp ⟨v, hlocation⟩
  · have hnot : ¬(k = n ∧ (s.slot n).stack.getLast? = some m) := fun h => htop.elim (· h.1) (· h.2)
    have ht : t = bindMoved c m (unstack k m (countRelocated a s)) := by
      rw [← countAt_area ha countRelocated]
      exact (bindMark_stocked hp hbusy hstate hlocation).trans (if_neg hnot)
    simp only [bound, ht]
    exact boundFromStack _ ho hp ⟨v, hlocation⟩
  · have ht : t = bindMoved c m (countRelocated a s) := by
      rw [← countAt_area ha countRelocated]
      exact bindMark_atLarge hp hbusy hstate
    simp only [bound, ht]
    have hfound : (countRelocated a s).findPiece m = some p := hp
    have hcranes : ∀ d, (countRelocated a s).crane d = s.crane d := fun _ => rfl
    have hslots : (bindMoved c m (countRelocated a s)).stock.slots = s.stock.slots := by rw [bindMoved_stock]; rfl
    refine ⟨bindMoved_crane ho hcranes, hslots, bindMoved_findPiece hfound, ?_⟩
    rw [area_congr bindMoved_stock]
    exact (modArea_area s a _ a).trans (if_pos rfl)
  · have ht : t = failBinding c n .hookMismatch m s := bindMark_held hp hbusy hstate
    simp only [failed, ht]
    exact bindingFailed ho ha _
  · have ht : t = failBinding c n .stockFullRecords m s := bindMark_full hp hfull
    simp only [failed, ht]
    exact bindingFailed ho ha _
  · have ht : t = setBinding c (.bound m)
        (setHook c (some m) (countCreated a (createPiece (censusPiece s c o m) s))) := by
      have hmade : (createPiece (censusPiece s c o m) s).areaOf n.val = some a := ha
      rw [← countAt_area hmade countCreated]
      exact bindMark_created hp hroom
    simp only [bound, ht]
    refine ⟨bound_crane ho fun _ => rfl, rfl, ⟨lowestFree 0 s.piece.recs, ?_⟩, ?_⟩
    · have hcreated : (createPiece (censusPiece s c o m) s).findPiece m =
          some { censusPiece s c o m with number := lowestFree 0 s.piece.recs } :=
        (createPiece_findPiece (s := s) (censusPiece s c o m) hp m).trans (if_pos rfl)
      exact hcreated
    · have hstock : (setBinding c (.bound m)
          (setHook c (some m) (countCreated a (createPiece (censusPiece s c o m) s)))).stock =
          (countCreated a (createPiece (censusPiece s c o m) s)).stock := by simp [setBinding]
      rw [area_congr hstock, countCreated, modArea_area, if_pos rfl]
      rfl

end Sys2Proof.CensusProofs
end

section
/-! Crane reports and their positions (O44). -/
namespace Sys2Proof.ReportProofs

open Sys2Proof Sys2Proof.Machine Sys2Proof.StepProofs Sys2Proof.RequestProofs Sys2Proof.FlagProofs
  Sys2Proof.LineProofs Sys2Proof.SettleProofs Sys2Proof.ReleaseProofs Sys2Proof.RunwayLawProofs
  Sys2Proof.TableProofs Sys2Proof.CraneRuleProofs

section
variable {s t u : State} {f : Frame} {c : Fin 4} {pos : Nat}

/-! ### HALT frames (R122) -/

theorem haltCrane_sent (r : HaltReason) : s.haltSent (haltCrane c r s) c r.code := by
  intro hroom
  have hurgent : (nextLineSeq s).urgentRoom = true := decide_eq_true hroom
  have hline : (haltCrane c r s).line =
      (offerHalt (haltFrame (nextLineSeq s) c r) (nextLineSeq s)).line := rfl
  rw [hline, offerHalt, if_pos hurgent]
  rfl

/-- A HALT reads the crane's station and tag, the line's sequence and the urgent lane. -/
theorem haltSent_congr {code : Nat} (h : t.haltSent u c code) (hurgent : t.line.portF.urgent = s.line.portF.urgent)
    (hseq : t.line.seq = s.line.seq) (hentry : t.craneEntry c = s.craneEntry c) (hsup : t.sup = s.sup)
    (htag : t.currentTag c = s.currentTag c) : s.haltSent u c code := by
  intro hroom
  rw [State.haltSent, hurgent, hseq, hentry, hsup, htag] at h
  exact h hroom

theorem haltSent_after {code : Nat} (h : s.haltSent t c code) (hportF : u.line.portF = t.line.portF) :
    s.haltSent u c code := by
  intro hroom
  rw [hportF]
  exact h hroom

/-- A halt of a crane with a cause, from a state whose crane carries the same tag. -/
theorem halted_sent (r : HaltReason) (e : Cause) (v : Subject) (n : Int)
    (hurgent : t.line.portF.urgent = s.line.portF.urgent) (hseq : t.line.seq = s.line.seq)
    (hentry : t.craneEntry c = s.craneEntry c) (hsup : t.sup = s.sup) (htag : t.currentTag c = s.currentTag c) :
    s.haltSent (raise e v n (haltCrane c r t)) c r.code :=
  haltSent_after (haltSent_congr (haltCrane_sent r) hurgent hseq hentry hsup htag) (raise_portF ..)

theorem raisedHalt_own (r : HaltReason) (e : Cause) (v : Subject) (n : Int) :
    (unnoted (raise e v n (haltCrane c r t))).crane c = { t.crane c with control := .halted, lastHalt := some r } := by
  have hcrane : (unnoted (raise e v n (haltCrane c r t))).crane c = (haltCrane c r t).crane c :=
    crane_congr (s := haltCrane c r t) (t := raise e v n (haltCrane c r t)) (by simp) c
  rw [hcrane, haltCrane_own]

theorem raisedHalt_step (r : HaltReason) (e : Cause) (v : Subject) (n : Int) :
    CraneStep c t (raise e v n (haltCrane c r t)) := (step_haltCrane r).trans (step_raise _ _ _)

theorem currentTag_congr (h : (t.crane c).current = (s.crane c).current) : t.currentTag c = s.currentTag c := by
  rw [State.currentTag, State.currentTag, h]

/-! ### The position (R120, R121) -/

/-- The crane moved to a reported position, with the frame taken. -/
def reportedAt (f : Frame) (c : Fin 4) (pos : Nat) (s : State) : State :=
  modCrane c (fun _ => s.reported c pos) (takeHanded f s)

theorem reportedAt_crane (d : Fin 4) :
    (reportedAt f c pos s).crane d = if d = c then s.reported c pos else s.crane d :=
  modCrane_crane (takeHanded f s) c (fun _ => s.reported c pos) d

theorem reportedAt_step : CraneStep c (takeHanded f s) (reportedAt f c pos s) := step_modCrane _

theorem takePosition_eq : takePosition c pos (takeHanded f s) = overrunTest c (reportedAt f c pos s) := rfl

/-- The condition of an overrun, for a crane that has reported from a position (R121, step 3). -/
def overrunAt (s : State) (c : Fin 4) (pos : Nat) : Prop :=
  (s.crane c).control ≠ .halted ∧
    ((∃ i, (s.reported c pos).reservation = some i
        ∧ (envelopeAt (s.craneEntry c).clearance (min 20000 pos)).within i = false)
      ∨ ((s.reported c pos).reservation = none ∧ ∃ d i, d ≠ c ∧ (s.crane d).reservation = some i
          ∧ i.overlaps (envelopeAt (s.craneEntry c).clearance (min 20000 pos)) = true))

theorem intoReservation_iff (e : Interval) : s.intoReservation c e = true ↔
    ∃ d i, d ≠ c ∧ (s.crane d).reservation = some i ∧ i.overlaps e = true := by
  simp only [State.intoReservation, List.any_eq_true, mem_indexes, true_and, Bool.and_eq_true, decide_eq_true_eq]
  constructor
  · rintro ⟨d, hd, hover⟩
    cases hres : (s.crane d).reservation with
    | none => rw [hres] at hover; cases hover
    | some i => exact ⟨d, i, hd, hres, by rw [hres] at hover; exact hover⟩
  · rintro ⟨d, i, hd, hres, hover⟩
    exact ⟨d, hd, by rw [hres]; exact hover⟩

theorem overruns_reported : (reportedAt f c pos s).overruns c = true ↔ overrunAt s c pos := by
  have hcrane : (reportedAt f c pos s).crane c = s.reported c pos := by rw [reportedAt_crane, if_pos rfl]
  have hothers : ∀ d, d ≠ c → (reportedAt f c pos s).crane d = s.crane d :=
    fun d hd => by rw [reportedAt_crane, if_neg hd]
  have henvelope : (s.reported c pos).envelope = some (envelopeAt (s.craneEntry c).clearance (min 20000 pos)) := rfl
  have hcontrol : (s.reported c pos).control = (s.crane c).control := rfl
  rw [State.overruns, hcrane, henvelope, hcontrol, Bool.and_eq_true, decide_eq_true_eq, overrunAt]
  refine and_congr_right fun _ => ?_
  cases hres : (s.reported c pos).reservation with
  | some i => simp
  | none =>
    simp only [reduceCtorEq, false_and, exists_false, false_or, true_and, intoReservation_iff]
    refine exists_congr fun d => exists_congr fun i => ?_
    refine and_congr_right fun hd => ?_
    rw [hothers d hd]

theorem not_overrun_of_keepsClear (h : s.keepsClear c pos) : ¬overrunAt s c pos := by
  rintro ⟨hcontrol, hover⟩
  rcases h with hhalted | ⟨r, hr, hwithin⟩ | ⟨hnone, hclear⟩
  · exact hcontrol hhalted
  · rcases hover with ⟨i, hi, hout⟩ | ⟨hno, -⟩
    · have hsame : some i = some r := hi.symm.trans hr
      rw [Option.some.inj hsame, hwithin] at hout
      cases hout
    · have hsame : none = some r := hno.symm.trans hr
      cases hsame
  · rcases hover with ⟨i, hi, -⟩ | ⟨-, d, i, hd, hi, hin⟩
    · have hsame : some i = none := hi.symm.trans hnone
      cases hsame
    · rw [hclear d hd i hi] at hin
      cases hin

theorem takePosition_clear (h : ¬overrunAt s c pos) : takePosition c pos (takeHanded f s) = reportedAt f c pos s := by
  rw [takePosition_eq, overrunTest, if_neg (fun hover => h (overruns_reported.1 hover))]

theorem takePosition_overrun (h : overrunAt s c pos) : takePosition c pos (takeHanded f s) =
    raise .craneOverrun (.crane c) ((min 20000 pos : Nat) : Int) (haltCrane c .overrun (reportedAt f c pos s)) := by
  have hposition : ((reportedAt f c pos s).crane c).position.getD 0 = min 20000 pos := by
    rw [reportedAt_crane, if_pos rfl]
    rfl
  rw [takePosition_eq, overrunTest, if_pos (overruns_reported.2 h), hposition]

theorem takePosition_step : CraneStep c (takeHanded f s) (takePosition c pos (takeHanded f s)) := by
  rw [takePosition_eq, overrunTest]
  split
  · exact (reportedAt_step.trans (step_haltCrane _)).trans (step_raise _ _ _)
  · exact reportedAt_step

/-! ### A report taken (R121) -/

/-- A report of a crane in use, its kind acted on, with no order waiting. -/
theorem exec_report {act : Fin 4 → ReportFields → State → State} {r : ReportFields} (hrun : s.running = true)
    (hnone : s.noneWaiting) (hsrc : s.craneOf f.src = some c) (hparse : parseReport f.payload = some r)
    (hact : ∀ v, (act c r v).runway.waiting = v.runway.waiting) : whenRunning (fun v => takeReport f act (takeHanded f v)) s =
      .next (unnoted (act c r (takePosition c r.position (takeHanded f s)))) := by
  have hsrc' : (takeHanded f s).craneOf f.src = some c := hsrc
  have hnone' : (takeHanded f s).noneWaiting := hnone
  rw [whenRunning_running s (fun v => takeReport f act (takeHanded f v)) hrun]
  simp only [takeReport, hsrc', hparse]
  congr 1
  have hidle : (act c r (takePosition c r.position (takeHanded f s))).runway.waiting = [] :=
    (hact _).trans (takePosition_step.waiting.trans hnone'.1)
  split
  · exact SettleProofs.settle_idle hidle
  · exact SettleProofs.settle_idle (s := noteOpportunity _) hidle

/-- A report of a crane that stays clear. -/
theorem exec_reportClear {act : Fin 4 → ReportFields → State → State} {r : ReportFields} (hrun : s.running = true)
    (hnone : s.noneWaiting) (hsrc : s.craneOf f.src = some c) (hparse : parseReport f.payload = some r)
    (hclear : ¬overrunAt s c r.position) (hact : ∀ v, (act c r v).runway.waiting = v.runway.waiting) :
    whenRunning (fun v => takeReport f act (takeHanded f v)) s =
      .next (unnoted (act c r (reportedAt f c r.position s))) := by
  rw [exec_report hrun hnone hsrc hparse hact, takePosition_clear hclear]

theorem unnoted_reportedAt (hnone : s.noneWaiting) : unnoted (reportedAt f c pos s) = reportedAt f c pos s :=
  unnoted_settled hnone.2

end

/-- Settles O44. -/
theorem positionTaken : Obligations.PositionTaken := by
  unfold Obligations.PositionTaken
  intro s f hrun hnone
  refine ⟨fun hsrc => ?_, fun c hsrc hparse => ?_, fun r c hparse hsrc => ?_⟩
  · have hsrc' : (takeHanded f s).craneOf f.src = none := hsrc
    refine (whenRunning_running s (fun v => takeReport f (fun _ _ u => u) (takeHanded f v)) hrun).trans ?_
    simp only [takeReport, hsrc']
  · have hsrc' : (takeHanded f s).craneOf f.src = some c := hsrc
    refine (whenRunning_running s (fun v => takeReport f (fun _ _ u => u) (takeHanded f v)) hrun).trans ?_
    simp only [takeReport, hsrc', hparse]
  · intro k env overrun
    have hexec : exec (.reportPosition f) s = .next (unnoted (takePosition c r.position (takeHanded f s))) :=
      exec_report hrun hnone hsrc hparse fun _ => rfl
    have hoverrun : overrun ↔ overrunAt s c r.position := Iff.rfl
    refine ⟨fun hclear => ?_, fun hover => ⟨_, hexec, ?_, ?_, ?_, fun hroom => ?_, ?_⟩⟩
    · rw [hexec, takePosition_clear (fun h => hclear (hoverrun.2 h)), unnoted_reportedAt hnone]
      rfl
    all_goals rw [takePosition_overrun (hoverrun.1 hover)]
    · rw [raisedHalt_own, reportedAt_crane, if_pos rfl]
    · have honly := (reportedAt_step (f := f) (s := s) (c := c) (pos := r.position)).trans
        (raisedHalt_step .overrun .craneOverrun (.crane c) ((min 20000 r.position : Nat) : Int))
      exact honly.only hnone
    · exact raise_flagSet ..
    · have hsent := halted_sent (s := s) (t := reportedAt f c r.position s) (c := c) .overrun .craneOverrun
        (.crane c) ((min 20000 r.position : Nat) : Int) rfl rfl rfl rfl
        (currentTag_congr (by rw [reportedAt_crane, if_pos rfl]; rfl))
      exact hsent hroom
    · apply state_eq <;> simp [unnoted, reportedAt]

end Sys2Proof.ReportProofs
end

section
/-! SUPPORT. STARTED, and the lift by its source (O45). -/
namespace Sys2Proof.LiftProofs

open Sys2Proof Sys2Proof.Machine Sys2Proof.StepProofs Sys2Proof.RequestProofs Sys2Proof.FlagProofs
  Sys2Proof.LineProofs Sys2Proof.SettleProofs Sys2Proof.ReleaseProofs Sys2Proof.RunwayLawProofs
  Sys2Proof.EntryProofs Sys2Proof.PieceMinuteProofs Sys2Proof.PieceDropProofs Sys2Proof.CraneRuleProofs
  Sys2Proof.CensusProofs Sys2Proof.ReportProofs

section
variable {s t u : State} {f : Frame} {c : Fin 4} {o : CraneOrder} {k : Crane} {pos m : Nat}

/-! ### A crane's record replaced, with the frame taken -/

/-- The frame taken and a crane's record replaced. -/
def craneSet (f : Frame) (c : Fin 4) (k : Crane) (s : State) : State := modCrane c (fun _ => k) (takeHanded f s)

theorem reportedAt_eq : reportedAt f c pos s = craneSet f c (s.reported c pos) s := rfl

theorem craneSet_crane (d : Fin 4) : (craneSet f c k s).crane d = if d = c then k else s.crane d :=
  modCrane_crane (takeHanded f s) c (fun _ => k) d

theorem craneSet_own : (craneSet f c k s).crane c = k := (craneSet_crane c).trans (if_pos rfl)

theorem craneSet_step : CraneStep c s (craneSet f c k s) :=
  ⟨fun d hd => (craneSet_crane d).trans (if_neg hd), rfl⟩

theorem modCurrent_craneSet (g : CraneOrder → CraneOrder) :
    modCurrent c g (craneSet f c k s) = craneSet f c { k with current := k.current.map g } s := by
  have hown : (craneSet f c k s).crane c = k := craneSet_own
  rw [modCurrent, modCrane, hown]
  simp only [craneSet, modCrane, tset_tset]

theorem unnoted_craneSet (hnone : s.noneWaiting) : unnoted (craneSet f c k s) = craneSet f c k s :=
  unnoted_settled hnone.2

/-! ### An order named by a report (R130, R131) -/

theorem hasTag_current {tag : Nat} (h : (s.crane c).current = some o) (htag : o.tag = tag) : s.hasTag c tag = true := by
  simp only [State.hasTag, h, htag, decide_true]

theorem hasTag_other {tag : Nat} (h : ∀ x, (s.crane c).current = some x → x.tag ≠ tag) : s.hasTag c tag = false := by
  rw [State.hasTag]
  cases hcurrent : (s.crane c).current with
  | none => rfl
  | some x => exact decide_eq_false (h x hcurrent)

/-- The crane and its order after a report has named the order. -/
def namedCrane (s : State) (c : Fin 4) (o : CraneOrder) (pos : Nat) : Crane :=
  { s.reported c pos with current := some o.started }

theorem activate_reportedAt (h : (s.crane c).current = some o) :
    modCurrent c activate (reportedAt f c pos s) = craneSet f c (namedCrane s c o pos) s := by
  have hcurrent : (s.reported c pos).current = some o := h
  rw [reportedAt_eq, modCurrent_craneSet, hcurrent]
  rfl

theorem reportedAt_current : ((reportedAt f c pos s).crane c).current = (s.crane c).current := by
  rw [reportedAt_crane, if_pos rfl]
  rfl

/-- The crane of an orderReport does not overrun. -/
theorem orderReport_clear {kind : Nat} {loaded : Bool} (h : s.orderReport f kind c o pos loaded) :
    ¬overrunAt s c pos := by
  obtain ⟨-, -, -, -, -, hwithin⟩ := h
  refine not_overrun_of_keepsClear (.inr (.inl ?_))
  cases hres : (s.crane c).reservation with
  | none => rw [hres] at hwithin; cases hwithin
  | some r => exact ⟨r, rfl, by rw [hres] at hwithin; exact hwithin⟩

/-- A report that names the crane's order, by what its kind does once the crane has reported. -/
theorem exec_orderReport {act : Fin 4 → ReportFields → State → State} {kind : Nat} {loaded : Bool}
    (h : s.orderReport f kind c o pos loaded) (hact : ∀ r v, (act c r v).runway.waiting = v.runway.waiting) :
    whenRunning (fun v => takeReport f act (takeHanded f v)) s =
      .next (unnoted (act c { kind := kind, position := pos, tag := o.tag, loaded := loaded } (reportedAt f c pos s))) := by
  obtain ⟨hrun, hnone, hparse, hsrc, -, -⟩ := id h
  exact exec_reportClear hrun hnone hsrc hparse (orderReport_clear h) (hact _)

end

/-! ### What a lift keeps (R90, R91, R114, R131) -/

/-- A relation between states that the parts of a lift by a crane bring about. -/
structure LiftRel (c : Fin 4) (R : State → State → Prop) : Prop where
  trans : ∀ {s t u : State}, R s t → R t u → R s u
  runway : ∀ {s t : State}, t.runway = s.runway → R s t
  note : ∀ s, R s (noteOpportunity s)
  hook : ∀ h s, R s (setHook c h s)
  halt : ∀ r s, R s (haltCrane c r s)
  binding : ∀ b s, R s (setBinding c b s)

section
variable {R : State → State → Prop} {c : Fin 4} (k : LiftRel c R)
include k

theorem LiftRel.refl (s : State) : R s s := k.runway rfl

theorem LiftRel.hookPiece (m : Nat) (s : State) : R s (hookPiece c m s) := by
  unfold Machine.hookPiece
  refine k.trans ?_ (k.hook _ _)
  exact k.runway rfl

theorem LiftRel.unstack (n : Fin 1024) (m : Nat) (s : State) : R s (unstack n m s) := by
  unfold Machine.unstack
  refine k.trans ?_ (k.note _)
  exact k.runway rfl

theorem LiftRel.liftFromBed (b : Fin 24) (m : Nat) (s : State) : R s (liftFromBed b c m s) := by
  unfold Machine.liftFromBed
  refine k.trans (k.trans ?_ (k.hookPiece m _)) (k.runway rfl)
  exact k.runway rfl

theorem LiftRel.pickFromSlot (n : Fin 1024) (m : Nat) (s : State) : R s (pickFromSlot n c m s) := by
  unfold Machine.pickFromSlot
  refine k.trans (k.trans ?_ (k.unstack n m _)) (k.hookPiece m _)
  split
  · exact k.refl s
  · exact k.runway rfl

theorem LiftRel.countAt (n : Fin 1024) (count : Fin 16 → State → State) (h : ∀ a v, (count a v).runway = v.runway)
    (s : State) : R s (countAt n count s) := by
  unfold Machine.countAt
  split
  · exact k.runway (h _ _)
  · exact k.refl s

theorem LiftRel.mismatchHalt (v : Nat) (r : HaltReason) (s : State) : R s (mismatch c v (haltCrane c r s)) :=
  k.trans (k.halt r s) (k.runway (raise_keeps ..).2.2.2.2.2.2.1)

theorem LiftRel.failed (n : Fin 1024) (r : HaltReason) (v : Nat) (s : State) :
    R s (mismatch c v (haltCrane c r (Machine.countAt n countFailed (setBinding c .failed s)))) :=
  k.trans (k.trans (k.binding .failed s) (k.countAt n countFailed (fun _ _ => rfl) _)) (k.mismatchHalt v r _)

theorem LiftRel.bindMoved (m : Nat) (s : State) : R s (bindMoved c m s) :=
  k.trans (k.hookPiece m s) (k.binding _ _)

theorem LiftRel.bindMark (o : CraneOrder) (n : Fin 1024) (m : Nat) (s : State) : R s (bindMark c o n m s) := by
  unfold Machine.bindMark
  split
  · split
    · refine k.trans (k.trans (k.trans ?_ (k.countAt n countCreated (fun _ _ => rfl) _)) (k.hook _ _)) (k.binding _ _)
      exact k.runway rfl
    · exact k.failed n _ m s
  · split
    · exact k.failed n _ m s
    · split
      · split
        · exact k.trans (k.trans (k.countAt n countConfirmed (fun _ _ => rfl) s) (k.unstack _ m _)) (k.bindMoved m _)
        · exact k.trans (k.trans (k.countAt n countRelocated (fun _ _ => rfl) s) (k.unstack _ m _)) (k.bindMoved m _)
      · exact k.trans (k.countAt n countRelocated (fun _ _ => rfl) s) (k.bindMoved m _)
      · exact k.failed n _ m s

theorem LiftRel.liftBySource (o : CraneOrder) (src : Source) (s : State) : R s (liftBySource c o src s) := by
  unfold Machine.liftBySource
  split
  · split
    · exact k.liftFromBed _ _ s
    · exact k.refl s
  · split
    · unfold Machine.bindLifted
      split
      · exact k.bindMark o _ _ s
      · exact k.failed _ _ 0 s
    · exact k.refl s
    · split
      · exact k.pickFromSlot _ _ s
      · exact k.refl s
  · exact k.refl s

end

section
variable {c : Fin 4} {s : State}

theorem craneStep_lift (c : Fin 4) : LiftRel c (CraneStep c) where
  trans := CraneStep.trans
  runway := CraneStep.of_runway
  note _ := step_noteOpportunity
  hook _ _ := step_setHook _
  halt r _ := step_haltCrane r
  binding _ _ := step_modCurrent _

theorem takeLift_step : CraneStep c s (takeLift c s) := by
  unfold takeLift
  split
  · split
    · split
      · exact .refl c s
      · exact (step_modCurrent _).trans ((craneStep_lift c).liftBySource _ _ _)
    · exact .refl c s
  · exact .refl c s

/-- A lift leaves where the crane stands and reports, its reservation and its order but for the binding. -/
structure LiftStays (c : Fin 4) (s t : State) : Prop where
  place : t.crane c = { s.crane c with
    control := (t.crane c).control, lastHalt := (t.crane c).lastHalt, hook := (t.crane c).hook
    current := (t.crane c).current }
  order : ∀ o, (s.crane c).current = some o → ∃ b, (t.crane c).current = some { o with binding := b }

theorem liftStays_lift (c : Fin 4) : LiftRel c (LiftStays c) where
  trans h g := by
    refine ⟨by rw [g.place, h.place], fun o ho => ?_⟩
    obtain ⟨b, hb⟩ := h.order o ho
    exact g.order { o with binding := b } hb
  runway h := by
    have hsame := crane_congr h c
    exact ⟨by rw [hsame], fun o ho => ⟨o.binding, by rw [hsame, ho]⟩⟩
  note _ := ⟨rfl, fun o ho => ⟨o.binding, ho⟩⟩
  hook h s := ⟨by rw [setHook_own], fun o ho => ⟨o.binding, by rw [setHook_own, ho]⟩⟩
  halt r s := ⟨by rw [haltCrane_own], fun o ho => ⟨o.binding, by rw [haltCrane_own, ho]⟩⟩
  binding b s := by
    refine ⟨?_, fun o ho => ⟨some b, ?_⟩⟩
    · rw [setBinding, modCurrent_crane, if_pos rfl]
    · rw [setBinding, modCurrent_crane, if_pos rfl, ho]
      rfl

end

end Sys2Proof.LiftProofs
end

section
/-! SUPPORT. Operations that neither read nor write the frames handed over and the count of opportunities. -/
namespace Sys2Proof.ApartProofs

open Sys2Proof Sys2Proof.Machine Sys2Proof.StepProofs Sys2Proof.RequestProofs Sys2Proof.FlagProofs
  Sys2Proof.LineProofs Sys2Proof.SettleProofs

/-! ### Handed frames and opportunities -/

/-- The state with other frames handed over and another count of opportunities. -/
def beside (handed : List Frame) (n : Nat) (s : State) : State :=
  { s with line := { s.line with handed := handed }, runway := { s.runway with opportunities := n } }

/-- An operation that neither reads nor writes the frames handed over, and counts opportunities without
reading the count. -/
def Apart (act : State → State) : Prop := ∀ h n s, ∃ k, act (beside h n s) = beside h k (act s)

theorem beside_self (s : State) : beside s.line.handed s.runway.opportunities s = s := rfl

theorem unnoted_beside (h : List Frame) (n : Nat) (s : State) : unnoted (beside h n s) = beside h 0 s := rfl

theorem takeHanded_beside (f : Frame) (s : State) :
    takeHanded f s = beside (s.line.handed.erase f) s.runway.opportunities s := rfl

section
variable {act next : State → State}

theorem Apart.comp (h : Apart act) (g : Apart next) : Apart fun s => next (act s) := fun l n s => by
  obtain ⟨k, hk⟩ := h l n s
  obtain ⟨j, hj⟩ := g l k (act s)
  exact ⟨j, (congrArg next hk).trans hj⟩

/-- Such an operation leaves the frames handed over. -/
theorem Apart.handed (h : Apart act) (s : State) : (act s).line.handed = s.line.handed := by
  obtain ⟨k, hk⟩ := h s.line.handed s.runway.opportunities s
  rw [beside_self] at hk
  rw [hk]
  rfl

end

section
variable (c : Fin 4)

theorem apart_id : Apart fun s => s := fun _ n _ => ⟨n, rfl⟩

theorem apart_noteOpportunity : Apart noteOpportunity := fun _ n _ => ⟨n + 1, rfl⟩

theorem apart_modCrane (g : Crane → Crane) : Apart (modCrane c g) := fun _ n _ => ⟨n, rfl⟩

theorem apart_modPiece (m : Nat) (g : Piece → Piece) : Apart (modPiece m g) := fun _ n _ => ⟨n, rfl⟩

theorem apart_modSlot (n : Fin 1024) (g : Slot → Slot) : Apart (modSlot n g) := fun _ k _ => ⟨k, rfl⟩

theorem apart_modArea (a : Fin 16) (g : Area → Area) : Apart (modArea a g) := fun _ k _ => ⟨k, rfl⟩

theorem apart_relevel (n : Fin 1024) : Apart (relevel n) := fun _ k _ => ⟨k, rfl⟩

theorem apart_setHook (h : Option Nat) : Apart (setHook c h) := fun _ k _ => ⟨k + 1, rfl⟩

theorem apart_hookPiece (m : Nat) : Apart (hookPiece c m) := fun _ k _ => ⟨k + 1, rfl⟩

theorem apart_unstack (n : Fin 1024) (m : Nat) : Apart (unstack n m) := fun _ k _ => ⟨k + 1, rfl⟩

theorem apart_liftFromBed (b : Fin 24) (m : Nat) : Apart (liftFromBed b c m) := fun _ k _ => ⟨k + 1, rfl⟩

theorem apart_createPiece (p : Piece) : Apart (createPiece p) := fun _ k _ => ⟨k, rfl⟩

theorem apart_setBinding (b : Binding) : Apart (setBinding c b) := fun _ k _ => ⟨k, rfl⟩

theorem apart_endOrder : Apart (endOrder c) := fun _ k _ => ⟨k + 1, rfl⟩

theorem apart_countAt (n : Fin 1024) {count : Fin 16 → State → State} (h : ∀ a, Apart (count a)) :
    Apart (countAt n count) := by
  intro l k s
  have harea : (beside l k s).areaOf n.val = s.areaOf n.val := rfl
  unfold countAt
  rw [harea]
  split
  · exact h _ l k s
  · exact ⟨k, rfl⟩

theorem apart_pickFromSlot (n : Fin 1024) (m : Nat) : Apart (pickFromSlot n c m) := by
  intro l k s
  have hslot : (beside l k s).slot n = s.slot n := rfl
  unfold pickFromSlot
  rw [hslot]
  dsimp only
  split
  · exact ⟨k + 2, rfl⟩
  · exact ⟨k + 2, rfl⟩

/-! ### Causes and halts -/

theorem offerNotice_beside (h : List Frame) (n : Nat) (s : State) :
    offerNotice (beside h n s) = beside h n (offerNotice s) := by
  have hlane : (beside h n s).noticeInLane = s.noticeInLane := rfl
  have hstation : (beside h n s).mgmt.noticeStation = s.mgmt.noticeStation := rfl
  have hqueue : (beside h n s).notice.queue = s.notice.queue := rfl
  have hlength : (beside h n s).line.portP = s.line.portP := rfl
  unfold offerNotice
  rw [hlane, hstation, hqueue, hlength]
  split
  · split <;> rfl
  · rfl

theorem recordCause_beside (e : Cause) (v : Subject) (x : Int) (y : Nat) (h : List Frame) (n : Nat) (s : State) :
    recordCause e v x y (beside h n s) = beside h n (recordCause e v x y s) := by
  have hrecord := recordCause_congr (s := s) (t := beside h n s) e v x y rfl rfl
  rw [hrecord, recordCause_only e v x y s]
  rfl

theorem raise2_beside (e : Cause) (v : Subject) (x : Int) (y : Nat) (h : List Frame) (n : Nat) (s : State) :
    raise2 e v x y (beside h n s) = beside h n (raise2 e v x y s) := by
  rw [raise2, recordCause_beside, offerNotice_beside, raise2]

theorem apart_raise2 (e : Cause) (v : Subject) (x : Int) (y : Nat) : Apart (raise2 e v x y) :=
  fun h n s => ⟨n, raise2_beside e v x y h n s⟩

theorem apart_raise (e : Cause) (v : Subject) (x : Int) : Apart (raise e v x) := apart_raise2 e v x 0

theorem dropWaitFor_beside (g : Frame) (h : List Frame) (n : Nat) (s : State) :
    dropWaitFor g (beside h n s) = beside h n (dropWaitFor g s) := by
  have hrec : (beside h n s).heatRec = s.heatRec := rfl
  unfold dropWaitFor
  rw [hrec]
  repeat' split
  all_goals rfl

theorem makeHaltRoom_beside (h : List Frame) (n : Nat) (s : State) :
    makeHaltRoom (beside h n s) = beside h n (makeHaltRoom s) := by
  have hlane : (beside h n s).line.portF = s.line.portF := rfl
  have hroom : (beside h n s).laneRoom = s.laneRoom := rfl
  have hset : ∀ l, setNormalF l (beside h n s) = beside h n (setNormalF l s) := fun _ => rfl
  unfold makeHaltRoom
  rw [hlane, hroom]
  split
  · rw [hset, dropWaitFor_beside]
  · split
    · rfl
    · split
      · rw [hset, raise, raise2_beside, raise]
      · rfl

theorem apart_offerHalt (g : Frame) : Apart (offerHalt g) := by
  intro h n s
  have hroom : (beside h n s).urgentRoom = s.urgentRoom := rfl
  refine ⟨n, ?_⟩
  unfold offerHalt
  rw [hroom]
  split
  · rfl
  · rw [makeHaltRoom_beside]
    rfl

theorem apart_haltCrane (r : HaltReason) : Apart (haltCrane c r) := by
  intro h n s
  obtain ⟨k, hk⟩ := apart_offerHalt (haltFrame (nextLineSeq s) c r) h n (nextLineSeq s)
  have hseq : nextLineSeq (beside h n s) = beside h n (nextLineSeq s) := rfl
  have hframe : haltFrame (beside h n (nextLineSeq s)) c r = haltFrame (nextLineSeq s) c r := rfl
  refine ⟨k, ?_⟩
  simp only [haltCrane]
  rw [hseq, hframe, hk]
  rfl

theorem apart_mismatchHalt (v : Nat) (r : HaltReason) : Apart fun s => mismatch c v (haltCrane c r s) :=
  (apart_haltCrane c r).comp (apart_raise _ _ _)

/-! ### The lift (R131) -/

theorem apart_failed (n : Fin 1024) (r : HaltReason) (v : Nat) :
    Apart fun s => mismatch c v (haltCrane c r (countAt n countFailed (setBinding c .failed s))) :=
  ((apart_setBinding c .failed).comp (apart_countAt n fun _ => apart_modArea _ _)).comp (apart_mismatchHalt c v r)

theorem apart_bindMoved (m : Nat) : Apart (bindMoved c m) := (apart_hookPiece c m).comp (apart_setBinding c _)

theorem apart_bindMark (o : CraneOrder) (n : Fin 1024) (m : Nat) : Apart (bindMark c o n m) := by
  intro h k s
  have hfind : (beside h k s).findPiece m = s.findPiece m := rfl
  have hfree : (beside h k s).hasFreeRecord = s.hasFreeRecord := rfl
  have hpiece : censusPiece (beside h k s) c o m = censusPiece s c o m := rfl
  have hbusy : (beside h k s).busyElsewhere c m = s.busyElsewhere c m := rfl
  have hslot : (beside h k s).slot n = s.slot n := rfl
  have hconfirmed : Apart (countAt n countConfirmed) := apart_countAt n fun _ => apart_modArea _ _
  have hrelocated : Apart (countAt n countRelocated) := apart_countAt n fun _ => apart_modArea _ _
  have hcreated : Apart (countAt n countCreated) := apart_countAt n fun _ => apart_modArea _ _
  unfold bindMark
  rw [hfind, hfree, hpiece, hbusy, hslot]
  split
  · split
    · exact (((apart_createPiece _).comp hcreated).comp (apart_setHook c _)).comp (apart_setBinding c _) h k s
    · exact apart_failed c n _ m h k s
  · split
    · exact apart_failed c n _ m h k s
    · split
      · split
        · exact (hconfirmed.comp (apart_unstack _ m)).comp (apart_bindMoved c m) h k s
        · exact (hrelocated.comp (apart_unstack _ m)).comp (apart_bindMoved c m) h k s
      · exact hrelocated.comp (apart_bindMoved c m) h k s
      · exact apart_failed c n _ m h k s

theorem apart_liftBySource (o : CraneOrder) (src : Source) : Apart (liftBySource c o src) := by
  unfold liftBySource
  split
  · split
    · exact apart_liftFromBed c _ _
    · exact apart_id
  · split
    · unfold bindLifted
      split
      · exact apart_bindMark c o _ _
      · exact apart_failed c _ _ 0
    · exact apart_id
    · split
      · exact apart_pickFromSlot c _ _
      · exact apart_id
  · exact apart_id

/-! ### The end of an order (R132, R133) -/

theorem apart_releaseFor (t : Task) : Apart (releaseFor t) := by
  unfold releaseFor
  split
  · exact (apart_modSlot _ _).comp apart_noteOpportunity
  · exact apart_id

theorem apart_refreshReady (m : Nat) : Apart (refreshReady m) := by
  intro h n s
  have hfind : (beside h n s).findPiece m = s.findPiece m := rfl
  have hready : (beside h n s).pieceReady = s.pieceReady := rfl
  unfold refreshReady
  rw [hfind, hready]
  split
  · exact ⟨n, rfl⟩
  · dsimp only
    split
    · exact (apart_modPiece m _).comp (apart_raise _ _ _) h n s
    · exact ⟨n, rfl⟩

theorem apart_pushPiece (n : Fin 1024) (m : Nat) : Apart (pushPiece n m) := by
  intro h k s
  obtain ⟨j, hj⟩ := apart_refreshReady m h (k + 1) (PieceDeclareProofs.stacked n m s)
  exact ⟨j, hj⟩

theorem apart_markUnscanned (o : CraneOrder) (m : Nat) : Apart (markUnscanned o m) := by
  unfold markUnscanned
  split
  · exact apart_id
  · exact apart_modPiece m _

theorem apart_dispatchPiece (m : Nat) : Apart (dispatchPiece c m) := by
  intro h n s
  have hfind : (beside h n s).findPiece m = s.findPiece m := rfl
  have herase : Apart (erasePiece m) := fun _ k _ => ⟨k, rfl⟩
  unfold dispatchPiece
  rw [hfind]
  split
  · exact ((apart_raise2 _ _ _ _).comp herase).comp (apart_setHook c none) h n s
  · exact apart_setHook c none h n s

theorem apart_deliver (o : CraneOrder) (dst : Place) : Apart (deliver c o dst) := by
  unfold deliver
  split
  · split
    · exact (((apart_markUnscanned o _).comp (apart_modSlot _ _)).comp (apart_setHook c none)).comp (apart_pushPiece _ _)
    · exact (apart_markUnscanned o _).comp (apart_dispatchPiece c _)
  · exact (apart_releaseFor o.task).comp (apart_mismatchHalt c 0 _)

theorem apart_finishOrder : Apart (finishOrder c) := by
  intro h n s
  have hcurrent : (beside h n s).crane c = s.crane c := rfl
  unfold finishOrder
  rw [hcurrent]
  split
  · split
    · exact apart_endOrder c h n s
    · exact (apart_deliver c _ _).comp (apart_endOrder c) h n s
  · exact ⟨n, rfl⟩

theorem apart_strandFromHook (m : Nat) : Apart (strandFromHook c m) :=
  ((apart_modPiece m _).comp (apart_setHook c none)).comp (apart_raise _ _ _)

theorem apart_returnPiece (n : Fin 1024) (m : Nat) : Apart (returnPiece n c m) := by
  intro h k s
  have hroom : (beside h k s).slotRoom n = s.slotRoom n := rfl
  unfold returnPiece
  rw [hroom]
  split
  · exact (apart_setHook c none).comp (apart_pushPiece n m) h k s
  · exact apart_strandFromHook c m h k s

theorem apart_settleAbort (o : CraneOrder) (src : Source) (loaded : Bool) : Apart (settleAbort c o src loaded) := by
  unfold settleAbort
  split
  · exact apart_id
  · split
    · split
      · exact apart_strandFromHook c _
      · exact apart_id
    · split
      · exact apart_returnPiece c _ _
      · exact apart_id
    · exact apart_strandFromHook c _
    · exact apart_id

theorem apart_abortOrder (loaded : Bool) : Apart (abortOrder c loaded) := by
  intro h n s
  have hcurrent : (beside h n s).crane c = s.crane c := rfl
  unfold abortOrder
  rw [hcurrent]
  split
  · split
    · exact apart_endOrder c h n s
    · exact ((apart_releaseFor _).comp (apart_settleAbort c _ _ loaded)).comp (apart_endOrder c) h n s
  · exact ⟨n, rfl⟩

end

end Sys2Proof.ApartProofs
end

section
/-! STARTED, LIFTED and the implied lift (O45). -/
namespace Sys2Proof.LiftedProofs

open Sys2Proof Sys2Proof.Machine Sys2Proof.StepProofs Sys2Proof.RequestProofs Sys2Proof.FlagProofs
  Sys2Proof.LineProofs Sys2Proof.SettleProofs Sys2Proof.ReleaseProofs Sys2Proof.RunwayLawProofs
  Sys2Proof.EntryProofs Sys2Proof.PieceMinuteProofs Sys2Proof.PieceDropProofs Sys2Proof.CraneRuleProofs
  Sys2Proof.CensusProofs Sys2Proof.ReportProofs Sys2Proof.LiftProofs Sys2Proof.ApartProofs

section
variable {s t u : State} {f : Frame} {c : Fin 4} {o : CraneOrder} {k : Crane} {pos m : Nat} {loaded : Bool}

theorem craneEntry_of_step (h : CraneStep c s t) (d : Fin 4) : t.craneEntry d = s.craneEntry d := by
  rw [State.craneEntry, State.craneEntry, h.runway]

/-! ### STARTED (R130) -/

theorem startedTaken (h : s.orderReport f 2 c o pos loaded) : exec (.reportStarted f) s =
    .next (modCrane c (fun _ => { s.reported c pos with current := some o.started }) (takeHanded f s)) := by
  have hnone := h.2.1
  have hcurrent := h.2.2.2.2.1
  have htag : (reportedAt f c pos s).hasTag c o.tag = true := hasTag_current (reportedAt_current.trans hcurrent) rfl
  have hwaiting : ∀ r v, (takeStarted c r v).runway.waiting = v.runway.waiting := by
    intro r v
    unfold takeStarted
    split
    · rfl
    · exact (raisedHalt_step (c := c) .lateStart .lateStart (.crane c) r.tag).waiting
  refine (exec_orderReport (act := takeStarted) h hwaiting).trans ?_
  simp only [takeStarted, htag, if_true]
  rw [activate_reportedAt hcurrent, unnoted_craneSet hnone]
  rfl

theorem lateStarted (hrun : s.running = true) (hnone : s.noneWaiting) (hsrc : s.craneOf f.src = some c)
    (hclear : s.keepsClear c pos) {tag : Nat}
    (hparse : parseReport f.payload = some { kind := 2, position := pos, tag := tag, loaded := loaded })
    (hother : ∀ x, (s.crane c).current = some x → x.tag ≠ tag) :
    ∃ t, exec (.reportStarted f) s = .next t
      ∧ t.crane c = { s.reported c pos with control := .halted, lastHalt := some .lateStart }
      ∧ s.onlyCrane t c ∧ (t.cause .lateStart).flag = true ∧ s.haltSent t c 2
      ∧ t = { s with line := t.line, heat := t.heat, runway := t.runway, notice := t.notice } := by
  have htag : (reportedAt f c pos s).hasTag c tag = false := by
    refine hasTag_other fun x hx => hother x ?_
    rw [← reportedAt_current (f := f) (pos := pos)]
    exact hx
  have hwaiting : ∀ v, (takeStarted c { kind := 2, position := pos, tag := tag, loaded := loaded } v).runway.waiting =
      v.runway.waiting := by
    intro v
    unfold takeStarted
    split
    · rfl
    · exact (raisedHalt_step (c := c) .lateStart .lateStart (.crane c) tag).waiting
  have hexec : exec (.reportStarted f) s = .next (unnoted (takeStarted c
      { kind := 2, position := pos, tag := tag, loaded := loaded } (reportedAt f c pos s))) :=
    exec_reportClear (act := takeStarted) hrun hnone hsrc hparse (not_overrun_of_keepsClear hclear) hwaiting
  simp only [takeStarted, htag, Bool.false_eq_true, if_false, lateStart] at hexec
  refine ⟨_, hexec, ?_, ?_, raise_flagSet .., ?_, ?_⟩
  · rw [raisedHalt_own, reportedAt_crane, if_pos rfl]
  · have hstep : CraneStep c s (reportedAt f c pos s) := craneSet_step
    exact (hstep.trans (raisedHalt_step .lateStart .lateStart (.crane c) tag)).only hnone
  · exact halted_sent (s := s) (t := reportedAt f c pos s) (c := c) .lateStart .lateStart (.crane c) tag rfl rfl rfl rfl
      (currentTag_congr reportedAt_current)
  · apply state_eq <;> simp [unnoted, reportedAt]

/-! ### LIFTED (R131) -/

theorem takeLifted_waiting (r : ReportFields) (v : State) :
    (takeLifted c r v).runway.waiting = v.runway.waiting := by
  unfold takeLifted
  split
  · dsimp only
    split
    · split
      · rfl
      · exact (takeLift_step (c := c) (s := modCurrent c activate v)).waiting
    · rfl
  · rfl

theorem liftedStray (hrun : s.running = true) (hnone : s.noneWaiting) (hsrc : s.craneOf f.src = some c)
    (hclear : s.keepsClear c pos) {tag : Nat}
    (hparse : parseReport f.payload = some { kind := 3, position := pos, tag := tag, loaded := loaded })
    (hother : ∀ x, (s.crane c).current = some x → x.tag ≠ tag) : exec (.reportLifted f) s =
      .next (countStrayReport (modCrane c (fun _ => s.reported c pos) (takeHanded f s))) := by
  have htag : (reportedAt f c pos s).hasTag c tag = false := by
    refine hasTag_other fun x hx => hother x ?_
    rw [← reportedAt_current (f := f) (pos := pos)]
    exact hx
  have hexec : exec (.reportLifted f) s = .next (unnoted (takeLifted c
      { kind := 3, position := pos, tag := tag, loaded := loaded } (reportedAt f c pos s))) :=
    exec_reportClear (act := takeLifted) hrun hnone hsrc hparse (not_overrun_of_keepsClear hclear)
      (takeLifted_waiting _)
  rw [hexec]
  simp only [takeLifted, htag, Bool.false_eq_true, if_false]
  exact congrArg _ (unnoted_settled hnone.2)

theorem takeLifted_named (hcurrent : (s.crane c).current = some o) (r : ReportFields) (htag : o.tag = r.tag) :
    takeLifted c r (reportedAt f c pos s) =
      if strayLift o then countStrayReport (craneSet f c (namedCrane s c o pos) s)
      else takeLift c (craneSet f c (namedCrane s c o pos) s) := by
  have hhas : (reportedAt f c pos s).hasTag c r.tag = true := hasTag_current (reportedAt_current.trans hcurrent) htag
  have hnamed : ((craneSet f c (namedCrane s c o pos) s).crane c).current = some o.started := by
    rw [craneSet_own]
    rfl
  have hstray : strayLift o.started = strayLift o := by
    unfold CraneOrder.started
    split <;> rfl
  simp only [takeLifted, hhas, if_true, activate_reportedAt hcurrent, hnamed, hstray]

/-- The crane with its order ACTIVE and its lift taken. -/
def liftedCrane (s : State) (c : Fin 4) (o : CraneOrder) (pos : Nat) : Crane :=
  { s.reported c pos with current := some { o.started with lifted := true } }

theorem takeLift_craneSet {src : Source} {dst : Place} (hk : k.current = some o) (htask : o.task = .carry src dst)
    (hlifted : o.lifted = false) : takeLift c (craneSet f c k s) = liftBySource c o src
      (craneSet f c { k with current := some { o with lifted := true } } s) := by
  have hcurrent : ((craneSet f c k s).crane c).current = some o := by rw [craneSet_own, hk]
  have hmod : modCurrent c (fun x => { x with lifted := true }) (craneSet f c k s) =
      craneSet f c { k with current := some { o with lifted := true } } s := by
    rw [modCurrent_craneSet, hk]
    rfl
  simp only [takeLift, hcurrent, htask, hlifted, Bool.false_eq_true, if_false, hmod]

theorem started_task : o.started.task = o.task ∧ o.started.lifted = o.lifted ∧ o.started.binding = o.binding
    ∧ o.started.mark = o.mark ∧ o.started.tag = o.tag := by
  unfold CraneOrder.started
  split <;> exact ⟨rfl, rfl, rfl, rfl, rfl⟩

theorem takeLift_named {src : Source} {dst : Place} (htask : o.task = .carry src dst) (hlifted : o.lifted = false) :
    takeLift c (craneSet f c (namedCrane s c o pos) s) =
      liftBySource c o.started src (craneSet f c (liftedCrane s c o pos) s) :=
  takeLift_craneSet (k := namedCrane s c o pos) rfl (started_task.1.trans htask) (started_task.2.1.trans hlifted)

/-- A LIFTED of a CARRY not yet lifted. -/
theorem exec_lifted (h : s.orderReport f 3 c o pos loaded) {src : Source} {dst : Place}
    (htask : o.task = .carry src dst) (hlifted : o.lifted = false) : exec (.reportLifted f) s =
      .next (unnoted (liftBySource c o.started src (craneSet f c (liftedCrane s c o pos) s))) := by
  have hstray : strayLift o = false := by simp only [strayLift, htask, hlifted]
  refine (exec_orderReport (act := takeLifted) h takeLifted_waiting).trans ?_
  rw [takeLifted_named h.2.2.2.2.1 _ rfl, hstray, if_neg (by simp), takeLift_named htask hlifted]

theorem liftedAgain (h : s.orderReport f 3 c o pos loaded) (hstray : strayLift o = true) :
    exec (.reportLifted f) s = .next (countStrayReport
      (modCrane c (fun _ => { s.reported c pos with current := some o.started }) (takeHanded f s))) := by
  refine (exec_orderReport (act := takeLifted) h takeLifted_waiting).trans ?_
  rw [takeLifted_named h.2.2.2.2.1 _ rfl, hstray, if_pos rfl]
  exact congrArg _ (unnoted_settled h.2.1.2)

/-! ### The lift by its source -/

theorem liftFromBed_findPiece (b : Fin 24) (x : Nat) : (liftFromBed b c m s).findPiece x = if x = m then
    (s.findPiece x).map (fun p => { p with
      state := .onHook, location := .crane c, ready := false
      account := some (s.accountAt p.mix (s.thermal b).maturity (s.thermal b).remainder) })
    else s.findPiece x := by
  have hline : (liftFromBed b c m s).findPiece x = (hookPiece c m (takeBedAccount b m s)).findPiece x := rfl
  have haccount := modPiece_findPiece s m
    (fun p => { p with account := some (s.accountAt p.mix (s.thermal b).maturity (s.thermal b).remainder) })
    (fun _ => rfl) x
  rw [hline, hookPiece_findPiece, takeBedAccount, haccount]
  by_cases hx : x = m
  · simp only [if_pos hx, Option.map_map]
    rfl
  · simp only [if_neg hx]

theorem liftFromBed_bedRec (b : Fin 24) : (liftFromBed b c m s).bedRec b =
    { s.bedRec b with lines := (s.bedRec b).lines.filter fun l => l.mark ≠ m } :=
  (modBedRec_bedRec (s := s) b (fun r => { r with lines := r.lines.filter fun l => l.mark ≠ m }) b).trans (if_pos rfl)

theorem liftFromBed_moved (b : Fin 24) : s.bedMoved (liftFromBed b c m s) b (s.bedRec b).state := by
  have hlines := modBedRec_moves (s := hookPiece c m (takeBedAccount b m s)) (b := b)
    (fun r => { r with lines := r.lines.filter fun l => l.mark ≠ m })
  exact PanelReportProofs.modThermal_moved hlines _

theorem liftFromBed_thermal (b : Fin 24) : (liftFromBed b c m s).thermal b =
    { s.thermal b with margin := ((liftFromBed b c m s).thermal b).margin } := by
  have hset := modThermal_thermal (s := modBedRec b (fun r => { r with lines := r.lines.filter fun l => l.mark ≠ m })
    (hookPiece c m (takeBedAccount b m s))) b
  rw [liftFromBed, removeLine, refreshMargin, hset, if_pos rfl]
  rfl

/-- A lift from a bed (R90). -/
theorem liftedFromBed (h : s.orderReport f 3 c o pos loaded) {b : Fin 24} {dst : Place} {p : Piece}
    (htask : o.task = .carry (.bed b) dst) (hlifted : o.lifted = false) (hmark : o.mark = some m)
    (hp : s.findPiece m = some p) :
    ∃ t, exec (.reportLifted f) s = .next t
      ∧ t.crane c = { liftedCrane s c o pos with hook := some m } ∧ s.onlyCrane t c
      ∧ t.findPiece m = some { p with
          state := .onHook, location := .crane c, ready := false
          account := some { maturity := (s.thermal b).maturity
                            remainder := (s.thermal b).remainder
                            estimate := (s.mix p.mix).estimate (s.thermal b).maturity } }
      ∧ (∀ x, x ≠ m → t.findPiece x = s.findPiece x)
      ∧ t.bedRec b = { s.bedRec b with lines := (s.bedRec b).lines.filter (fun l => l.mark ≠ m) }
      ∧ s.bedMoved t b (s.bedRec b).state
      ∧ t.thermal b = { s.thermal b with margin := (t.thermal b).margin }
      ∧ t = { s with line := { s.line with handed := s.line.handed.erase f }
                     curing := t.curing, bed := t.bed, piece := t.piece, runway := t.runway } := by
  have hexec := exec_lifted h htask hlifted
  have hlift : liftBySource c o.started (.bed b) (craneSet f c (liftedCrane s c o pos) s) =
      liftFromBed b c m (craneSet f c (liftedCrane s c o pos) s) := by
    simp only [liftBySource, started_task, hmark]
  rw [hlift] at hexec
  have hown : (craneSet f c (liftedCrane s c o pos) s).crane c = liftedCrane s c o pos := craneSet_own
  have hset : CraneStep c s (craneSet f c (liftedCrane s c o pos) s) := craneSet_step
  have hbefore : craneSet f c (liftedCrane s c o pos) s = { s with
      line := { s.line with handed := s.line.handed.erase f }
      runway := (craneSet f c (liftedCrane s c o pos) s).runway } := rfl
  generalize craneSet f c (liftedCrane s c o pos) s = w at *
  have hfind := fun x => liftFromBed_findPiece (s := w) (c := c) (m := m) b x
  have hpiece : w.findPiece = s.findPiece := findPiece_congr (by rw [hbefore])
  have hthermal : w.thermal b = s.thermal b := by rw [hbefore]; rfl
  have hbed : w.bedRec b = s.bedRec b := by rw [hbefore]; rfl
  have haccount : w.accountAt = s.accountAt := by rw [hbefore]; rfl
  have hstay : s.bedMoved w b (s.bedRec b).state := by
    rw [hbefore]
    exact ⟨rfl, fun _ _ => ⟨rfl, rfl⟩, rfl, rfl⟩
  have hmoved := liftFromBed_moved (s := w) (c := c) (m := m) b
  have hmargin := liftFromBed_thermal (s := w) (c := c) (m := m) b
  have hrec := liftFromBed_bedRec (s := w) (c := c) (m := m) b
  have hstep := hset.trans ((craneStep_lift c).liftFromBed b m w)
  have hhook : (liftFromBed b c m w).crane c = { w.crane c with hook := some m } :=
    setHook_own (s := modPiece m (fun p => { p with state := .onHook, location := .crane c, ready := false })
      (takeBedAccount b m w)) (some m)
  rw [hthermal, hpiece, haccount] at hfind
  rw [hthermal] at hmargin
  rw [hbed] at hmoved hrec
  rw [hown] at hhook
  have hkeeps := liftFromBed_keeps w b c m
  generalize liftFromBed b c m w = t at *
  refine ⟨_, hexec, hhook, hstep.only h.2.1, ?_, fun x hx => ?_, hrec, bedMoved_trans hstay hmoved, hmargin, ?_⟩
  · refine (hfind m).trans ?_
    rw [if_pos rfl, hp]
    rfl
  · exact (hfind x).trans (if_neg hx)
  · have hw := hkeeps
    rw [hbefore] at hw
    apply state_eq <;> simp [unnoted, hw]

/-! ### The pick from a stack (R91, R109) -/

/-- The pick counted where the piece is buried. -/
def buriedCounted (n : Fin 1024) (m : Nat) (s : State) : State :=
  if (s.slot n).stack.getLast? = some m then s else countBuried s

theorem buriedCounted_stock (n : Fin 1024) : (buriedCounted n m s).stock = { s.stock with
    buried := if (s.slot n).stack.getLast? = some m then s.stock.buried else min 65535 (s.stock.buried + 1) } := by
  unfold buriedCounted
  split <;> rfl

theorem buriedCounted_only (n : Fin 1024) :
    buriedCounted n m s = { s with stock := (buriedCounted n m s).stock } := by
  unfold buriedCounted
  split <;> rfl

theorem pickFromSlot_eq (n : Fin 1024) :
    pickFromSlot n c m s = hookPiece c m (unstack n m (buriedCounted n m s)) := rfl

theorem pickFromSlot_own (n : Fin 1024) :
    (pickFromSlot n c m s).crane c = { s.crane c with hook := some m } := by
  have hcrane : (unstack n m (buriedCounted n m s)).crane c = s.crane c := by
    rw [buriedCounted_only]
    rfl
  rw [pickFromSlot_eq, hookPiece_own, hcrane]

theorem pickFromSlot_slot (n j : Fin 1024) : (pickFromSlot n c m s).slot j =
    if j = n then { s.slot n with stack := (s.slot n).stack.erase m } else s.slot j := by
  have hslot : ∀ j, (buriedCounted n m s).slot j = s.slot j := fun j => by
    rw [State.slot, buriedCounted_stock]
    rfl
  have hunstack := unstack_slot (s := buriedCounted n m s) (m := m) n j
  rw [hslot, hslot] at hunstack
  exact hunstack

theorem pickFromSlot_unstacked (n : Fin 1024) : s.unstacked (pickFromSlot n c m s) n m := by
  refine ⟨by rw [pickFromSlot_slot, if_pos rfl], fun k p hk hp => ?_⟩
  have hp' : (buriedCounted n m s).findPiece k = some p := by
    rw [buriedCounted_only]
    exact hp
  rw [pickFromSlot_eq, hookPiece_findPiece, if_neg hk, unstack_findPiece, hp']
  rfl

theorem pickFromSlot_findPiece (n : Fin 1024) {p : Piece} (hp : s.findPiece m = some p) :
    (pickFromSlot n c m s).findPiece m = some { p with state := .onHook, location := .crane c, ready := false } := by
  have hp' : (buriedCounted n m s).findPiece m = some p := by
    rw [buriedCounted_only]
    exact hp
  rw [pickFromSlot_eq, hookPiece_findPiece, if_pos rfl, unstack_findPiece, hp']
  rfl

theorem pickFromSlot_stock (n : Fin 1024) : (pickFromSlot n c m s).stock = { s.stock with
    slots := (pickFromSlot n c m s).stock.slots
    buried := if (s.slot n).stack.getLast? = some m then s.stock.buried else min 65535 (s.stock.buried + 1) } := by
  have hstock : (pickFromSlot n c m s).stock =
      { (buriedCounted n m s).stock with slots := (pickFromSlot n c m s).stock.slots } := rfl
  rw [buriedCounted_stock] at hstock
  exact hstock

/-- A pick from a stack outside census. -/
theorem liftedFromSlot (h : s.orderReport f 3 c o pos loaded) {n : Fin 1024} {dst : Place} {p : Piece}
    (htask : o.task = .carry (.slot n) dst) (hlifted : o.lifted = false) (hbinding : o.binding = none)
    (hmark : o.mark = some m) (hp : s.findPiece m = some p) :
    ∃ t, exec (.reportLifted f) s = .next t
      ∧ t.crane c = { liftedCrane s c o pos with hook := some m } ∧ s.onlyCrane t c
      ∧ t.findPiece m = some { p with state := .onHook, location := .crane c, ready := false }
      ∧ s.unstacked t n m ∧ (t.slot n).claims = (s.slot n).claims
      ∧ (∀ j, j ≠ n → t.slot j = s.slot j)
      ∧ t.stock = { s.stock with
          slots := t.stock.slots
          buried := if (s.slot n).stack.getLast? = some m then s.stock.buried
                    else min 65535 (s.stock.buried + 1) }
      ∧ t = { s with line := { s.line with handed := s.line.handed.erase f }
                     piece := t.piece, stock := t.stock, runway := t.runway } := by
  have hexec := exec_lifted h htask hlifted
  have hlift : liftBySource c o.started (.slot n) (craneSet f c (liftedCrane s c o pos) s) =
      pickFromSlot n c m (craneSet f c (liftedCrane s c o pos) s) := by
    simp only [liftBySource, started_task, hbinding, hmark]
  rw [hlift] at hexec
  have hown : (craneSet f c (liftedCrane s c o pos) s).crane c = liftedCrane s c o pos := craneSet_own
  have hset : CraneStep c s (craneSet f c (liftedCrane s c o pos) s) := craneSet_step
  have hbefore : craneSet f c (liftedCrane s c o pos) s = { s with
      line := { s.line with handed := s.line.handed.erase f }
      runway := (craneSet f c (liftedCrane s c o pos) s).runway } := rfl
  generalize craneSet f c (liftedCrane s c o pos) s = w at *
  have hpiece : w.findPiece = s.findPiece := findPiece_congr (by rw [hbefore])
  have hslots : w.slot = s.slot := by funext j; rw [hbefore]; rfl
  have hstocks : w.stock = s.stock := by rw [hbefore]
  have hhook := pickFromSlot_own (s := w) (c := c) (m := m) n
  have hslot := fun j => pickFromSlot_slot (s := w) (c := c) (m := m) n j
  have hunstacked := pickFromSlot_unstacked (s := w) (c := c) (m := m) n
  have hfind := pickFromSlot_findPiece (s := w) (c := c) (m := m) (p := p) n (by rw [hpiece]; exact hp)
  have hstock := pickFromSlot_stock (s := w) (c := c) (m := m) n
  have hstep := hset.trans ((craneStep_lift c).pickFromSlot n m w)
  have hkeeps := pickFromSlot_keeps w n c m
  rw [State.unstacked, hpiece, hslots] at hunstacked
  rw [hslots, hstocks] at hstock
  rw [hslots] at hslot
  rw [hown] at hhook
  generalize pickFromSlot n c m w = t at *
  refine ⟨_, hexec, hhook, hstep.only h.2.1, hfind, hunstacked, ?_, fun j hj => (hslot j).trans (if_neg hj), hstock, ?_⟩
  · have hclaims : t.slot n = { s.slot n with stack := (s.slot n).stack.erase m } := (hslot n).trans (if_pos rfl)
    have hsame := congrArg Slot.claims hclaims
    exact hsame
  · have hw := hkeeps
    rw [hbefore] at hw
    apply state_eq <;> simp [unnoted, hw]

/-! ### The lift from a hook and in census (R115) -/

theorem liftedFromHook (h : s.orderReport f 3 c o pos loaded) {dst : Place} (htask : o.task = .carry .hook dst)
    (hlifted : o.lifted = false) : exec (.reportLifted f) s =
      .next (modCrane c (fun _ => liftedCrane s c o pos) (takeHanded f s)) := by
  rw [exec_lifted h htask hlifted]
  exact congrArg _ (unnoted_craneSet h.2.1)

theorem liftedBound (h : s.orderReport f 3 c o pos loaded) {n : Fin 1024} {dst : Place}
    (htask : o.task = .carry (.slot n) dst) (hlifted : o.lifted = false)
    (hbinding : o.binding = some .failed ∨ ∃ m, o.binding = some (.bound m)) : exec (.reportLifted f) s =
      .next (modCrane c (fun _ => liftedCrane s c o pos) (takeHanded f s)) := by
  have hlift : liftBySource c o.started (.slot n) (craneSet f c (liftedCrane s c o pos) s) =
      craneSet f c (liftedCrane s c o pos) s := by
    rcases hbinding with hbinding | ⟨m, hbinding⟩ <;> simp only [liftBySource, started_task, hbinding]
  rw [exec_lifted h htask hlifted, hlift]
  exact congrArg _ (unnoted_craneSet h.2.1)

/-- A binding reads the order's mark line alone. -/
theorem bindMark_order {o' : CraneOrder} (hline : o'.markLine = o.markLine) (n : Fin 1024) :
    bindMark c o' n m s = bindMark c o n m s := by
  have hpiece : censusPiece s c o' m = censusPiece s c o m := by simp only [censusPiece, hline]
  simp only [bindMark, hpiece]

theorem liftedUnbound (h : s.orderReport f 3 c o pos loaded) {n : Fin 1024} {dst : Place}
    (htask : o.task = .carry (.slot n) dst) (hlifted : o.lifted = false) (hbinding : o.binding = some .unbound)
    (hmark : o.mark = some m) :
    let v := bindMark c { o.started with lifted := true } n m
      (modCrane c (fun _ => liftedCrane s c o pos) (takeHanded f s))
    exec (.reportLifted f) s = .next { v with runway := { v.runway with opportunities := 0 } } := by
  have hlift : liftBySource c o.started (.slot n) (craneSet f c (liftedCrane s c o pos) s) =
      bindMark c { o.started with lifted := true } n m (craneSet f c (liftedCrane s c o pos) s) := by
    simp only [liftBySource, started_task, hbinding, bindLifted, hmark]
    exact (bindMark_order rfl n).symm
  rw [exec_lifted h htask hlifted, hlift]
  rfl

theorem liftedUnmarked (h : s.orderReport f 3 c o pos loaded) {n : Fin 1024} {dst : Place} {a : Fin 16}
    (htask : o.task = .carry (.slot n) dst) (hlifted : o.lifted = false) (harea : s.areaOf n.val = some a)
    (hbinding : o.binding = some .unbound) (hmark : o.mark = none) :
    ∃ t, exec (.reportLifted f) s = .next t
      ∧ t.crane c = { liftedCrane s c o pos with
          control := .halted, lastHalt := some .unscanned
          current := some { o.started with lifted := true, binding := some .failed } }
      ∧ s.onlyCrane t c ∧ (t.cause .hookMismatch).flag = true ∧ s.haltSent t c 4
      ∧ t.area a = { s.area a with failed := min 65535 ((s.area a).failed + 1) }
      ∧ (∀ k, k ≠ a → t.area k = s.area k)
      ∧ t.stock = { s.stock with areas := t.stock.areas }
      ∧ t = { s with line := t.line, heat := t.heat, stock := t.stock, runway := t.runway, notice := t.notice } := by
  have hexec := exec_lifted h htask hlifted
  have hlift : liftBySource c o.started (.slot n) (craneSet f c (liftedCrane s c o pos) s) =
      raise .hookMismatch (.crane c) (0 : Nat) (failedBinding c a .unscanned
        (craneSet f c (liftedCrane s c o pos) s)) := by
    have harea' : (setBinding c .failed (craneSet f c (liftedCrane s c o pos) s)).areaOf n.val = some a := harea
    simp only [liftBySource, started_task, hbinding, bindLifted, hmark]
    rw [countAt_area harea']
    rfl
  rw [hlift] at hexec
  have hown : (craneSet f c (liftedCrane s c o pos) s).crane c = liftedCrane s c o pos := craneSet_own
  have hset : CraneStep c s (craneSet f c (liftedCrane s c o pos) s) := craneSet_step
  have hbefore : craneSet f c (liftedCrane s c o pos) s = { s with
      line := { s.line with handed := s.line.handed.erase f }
      runway := (craneSet f c (liftedCrane s c o pos) s).runway } := rfl
  have htag : ((setBinding c .failed (craneSet f c (liftedCrane s c o pos) s))).currentTag c = s.currentTag c := by
    have hset : ((setBinding c .failed (craneSet f c (liftedCrane s c o pos) s)).crane c).current =
        some { o.started with lifted := true, binding := some .failed } := by
      rw [setBinding, modCurrent_own (o := { o.started with lifted := true }) _ (by rw [hown]; rfl)]
    rw [State.currentTag, State.currentTag, hset, h.2.2.2.2.1]
    exact started_task.2.2.2.2
  generalize craneSet f c (liftedCrane s c o pos) s = w at *
  have hstocks : w.stock = s.stock := by rw [hbefore]
  have hsent := halted_sent (s := s) (t := countFailed a (setBinding c .failed w)) (c := c) .unscanned .hookMismatch
    (.crane c) ((0 : Nat) : Int) (by rw [hbefore]; rfl) (by rw [hbefore]; rfl)
    (craneEntry_of_step (hset.trans ((step_modCurrent _).trans (step_modArea _))) c) (by rw [hbefore]; rfl) htag
  have hstock := failedBinding_stock (s := w) (c := c) (a := a) .unscanned
  have harea := fun k => countFailed_area (s := w) (a := a) k
  have hfailed := failedBinding_own (s := w) (c := c) (a := a) (o := { o.started with lifted := true })
    (by rw [hown]; rfl) .unscanned
  have hstep : CraneStep c s (raise .hookMismatch (.crane c) ((0 : Nat) : Int) (failedBinding c a .unscanned w)) :=
    (hset.trans (failedBinding_step .unscanned)).trans (step_raise _ _ _)
  have hareas : ∀ k, (unnoted (raise .hookMismatch (.crane c) ((0 : Nat) : Int)
      (failedBinding c a .unscanned w))).area k = (countFailed a w).area k := by
    intro k
    refine area_congr ?_ k
    rw [← hstock]
    exact (raise_keeps ..).2.2.2.2.2.1
  refine ⟨_, hexec, ?_, hstep.only h.2.1, raise_flagSet .., hsent, ?_, fun k hk => ?_, ?_, ?_⟩
  · have hcrane : (unnoted (raise .hookMismatch (.crane c) ((0 : Nat) : Int) (failedBinding c a .unscanned w))).crane c =
        (failedBinding c a .unscanned w).crane c :=
      crane_congr (s := failedBinding c a .unscanned w)
        (t := raise .hookMismatch (.crane c) ((0 : Nat) : Int) (failedBinding c a .unscanned w)) (by simp) c
    rw [hcrane, hfailed, hown]
  · rw [hareas, harea, if_pos rfl, area_congr hstocks]
  · rw [hareas, harea, if_neg hk, area_congr hstocks]
  · have hareas' : (unnoted (raise .hookMismatch (.crane c) ((0 : Nat) : Int)
        (failedBinding c a .unscanned w))).stock = (countFailed a w).stock := by
      rw [← hstock]
      exact (raise_keeps ..).2.2.2.2.2.1
    rw [hareas', ← hstocks]
    rfl
  · apply state_eq <;> simp [unnoted, failedBinding, countFailed, setBinding] <;> rw [hbefore]

end

end Sys2Proof.LiftedProofs
end

section
/-! SUPPORT. How an order ends: delivered, dispatched, or settled by an abort (O46, O47). -/
namespace Sys2Proof.FinishProofs

open Sys2Proof Sys2Proof.Machine Sys2Proof.StepProofs Sys2Proof.RequestProofs Sys2Proof.FlagProofs
  Sys2Proof.LineProofs Sys2Proof.SettleProofs Sys2Proof.ReleaseProofs Sys2Proof.RunwayLawProofs
  Sys2Proof.PieceMinuteProofs Sys2Proof.PieceDeclareProofs Sys2Proof.PieceDropProofs Sys2Proof.CraneRuleProofs
  Sys2Proof.ReportProofs Sys2Proof.LiftProofs Sys2Proof.LiftedProofs

section
variable {s t : State} {f : Frame} {c : Fin 4} {o : CraneOrder} {pos m : Nat} {loaded b : Bool}

/-! ### The other cranes stay as they were -/

theorem step_setPieceHook (n : Fin 1024) (g : Slot → Slot) : CraneStep c s (setHook c none (modSlot n g s)) :=
  (CraneStep.of_runway (s := s) (t := modSlot n g s) rfl).trans (step_setHook _)

theorem step_placePiece (n : Fin 1024) : CraneStep c s (placePiece n c m s) :=
  (step_setPieceHook n _).trans (step_pushPiece n)

theorem step_markUnscanned : CraneStep c s (markUnscanned o m s) := by
  unfold markUnscanned
  split
  · exact .refl c s
  · exact step_modPiece _

theorem step_dispatchPiece : CraneStep c s (dispatchPiece c m s) := by
  unfold dispatchPiece
  split
  · refine CraneStep.trans ?_ (step_setHook _)
    exact .of_runway (by simp)
  · exact step_setHook _

theorem step_strandFromHook : CraneStep c s (strandFromHook c m s) :=
  ((step_modPiece _).trans (step_setHook none)).trans (step_raise _ _ _)

theorem step_returnPiece (n : Fin 1024) : CraneStep c s (returnPiece n c m s) := by
  unfold returnPiece
  split
  · exact (step_setHook none).trans (step_pushPiece n)
  · exact step_strandFromHook

theorem step_deliver (dst : Place) : CraneStep c s (deliver c o dst s) := by
  unfold deliver
  split
  · split
    · exact step_markUnscanned.trans (step_placePiece _)
    · exact step_markUnscanned.trans step_dispatchPiece
  · exact (step_releaseFor _).trans (raisedHalt_step _ _ _ _)

theorem step_finishOrder : CraneStep c s (finishOrder c s) := by
  unfold finishOrder
  split
  · split
    · exact step_endOrder
    · exact (step_deliver _).trans step_endOrder
  · exact .refl c s

theorem step_settleAbort (src : Source) : CraneStep c s (settleAbort c o src loaded s) := by
  unfold settleAbort
  split
  · exact .refl c s
  · split
    · split
      · exact step_strandFromHook
      · exact .refl c s
    · split
      · exact step_returnPiece _
      · exact .refl c s
    · exact step_strandFromHook
    · exact .refl c s

theorem step_abortOrder : CraneStep c s (abortOrder c loaded s) := by
  unfold abortOrder
  split
  · split
    · exact step_endOrder
    · exact ((step_releaseFor _).trans (step_settleAbort _)).trans step_endOrder
  · exact .refl c s

theorem takeComplete_waiting (r : ReportFields) (v : State) :
    (takeComplete c r v).runway.waiting = v.runway.waiting := by
  unfold takeComplete
  split
  · exact (((step_modCurrent (c := c) _).trans takeLift_step).trans step_finishOrder).waiting
  · exact (step_raise (c := c) _ _ _).waiting

theorem takeAborted_waiting (r : ReportFields) (v : State) :
    (takeAborted c r v).runway.waiting = v.runway.waiting := by
  unfold takeAborted
  split
  · refine CraneStep.waiting (c := c) (((step_modCurrent activate).trans ?_).trans step_abortOrder)
    split
    · exact takeLift_step
    · exact .refl c _
  · rfl

/-! ### Claims released (R105) -/

theorem releaseFor_slot (t : Task) (n : Fin 1024) : (releaseFor t s).slot n =
    if t.destSlot = some n then { s.slot n with claims := (s.slot n).claims - 1 } else s.slot n := by
  cases hdst : t.destSlot with
  | none => simp only [releaseFor, hdst, reduceCtorEq, if_false]
  | some k =>
    simp only [releaseFor, hdst, Option.some.injEq]
    refine (modSlot_slot (s := s) k (fun x => { x with claims := x.claims - 1 }) n).trans ?_
    by_cases hn : n = k
    · rw [if_pos hn, if_pos hn.symm, hn]
    · rw [if_neg hn, if_neg (Ne.symm hn)]

theorem releaseFor_only (t : Task) : ∃ x n, releaseFor t s =
    { s with stock := { s.stock with slots := x }, runway := { s.runway with opportunities := n } } := by
  unfold releaseFor
  split
  · exact ⟨_, _, rfl⟩
  · exact ⟨_, _, rfl⟩

theorem releaseFor_crane (t : Task) (d : Fin 4) : (releaseFor t s).crane d = s.crane d := by
  obtain ⟨x, n, h⟩ := releaseFor_only (s := s) t
  rw [h]
  rfl

/-! ### The order as its end finds it -/

/-- The crane that has reported, its order ACTIVE and its lift taken or not. -/
def heldCrane (s : State) (c : Fin 4) (o : CraneOrder) (pos : Nat) (b : Bool) : Crane :=
  { s.reported c pos with current := some { o.started with lifted := b } }

theorem namedCrane_held : namedCrane s c o pos = heldCrane s c o pos o.lifted := by
  have hlifted : { o.started with lifted := o.lifted } = o.started := by
    unfold CraneOrder.started
    split <;> rfl
  rw [namedCrane, heldCrane, hlifted]

/-- The lift of the order moves nothing: it has been taken, it is from the hook, or its binding FAILED. -/
def idleLift (o : CraneOrder) : Prop :=
  strayLift o = true ∨ (∃ dst, o.task = .carry .hook dst)
    ∨ ∃ n dst, o.task = .carry (.slot n) dst ∧ o.binding = some .failed

theorem takeLift_idle (h : idleLift o) : ∃ b, takeLift c (craneSet f c (namedCrane s c o pos) s) =
    craneSet f c (heldCrane s c o pos b) s := by
  obtain ⟨htask, hlift, hbinding, -, -⟩ := started_task (o := o)
  cases hstray : strayLift o with
  | true =>
    have hcurrent : ((craneSet f c (namedCrane s c o pos) s).crane c).current = some o.started := by
      rw [craneSet_own]
      rfl
    refine ⟨o.lifted, ?_⟩
    rw [← namedCrane_held]
    unfold strayLift at hstray
    simp only [takeLift, hcurrent, htask, hlift]
    cases ht : o.task with
    | travel p => rfl
    | carry src dst =>
      simp only [ht] at hstray
      simp only [hstray, if_true]
  | false =>
    obtain ⟨src, dst, hcarry, hlifted⟩ : ∃ src dst, o.task = .carry src dst ∧ o.lifted = false := by
      unfold strayLift at hstray
      cases ht : o.task with
      | travel p => simp [ht] at hstray
      | carry src dst => exact ⟨src, dst, rfl, by simpa [ht] using hstray⟩
    refine ⟨true, ?_⟩
    rw [takeLift_named hcarry hlifted]
    rcases h with hyes | ⟨d, hhook⟩ | ⟨n, d, hslot, hfailed⟩
    · rw [hyes] at hstray
      cases hstray
    · obtain ⟨rfl, -⟩ : src = .hook ∧ dst = d := by simpa [hcarry] using hhook
      rfl
    · obtain ⟨rfl, -⟩ : src = .slot n ∧ dst = d := by simpa [hcarry] using hslot
      simp only [liftBySource, hbinding, hfailed]
      rfl

/-- A COMPLETE of an order whose lift moves nothing. -/
theorem exec_completed (h : s.orderReport f 4 c o pos loaded) (hidle : idleLift o) :
    ∃ b, exec (.reportComplete f) s = .next (unnoted (finishOrder c (craneSet f c (heldCrane s c o pos b) s))) := by
  have hcurrent := h.2.2.2.2.1
  have hhas : (reportedAt f c pos s).hasTag c o.tag = true := hasTag_current (reportedAt_current.trans hcurrent) rfl
  obtain ⟨b, hb⟩ := takeLift_idle (s := s) (f := f) (c := c) (pos := pos) hidle
  refine ⟨b, (exec_orderReport (act := takeComplete) h takeComplete_waiting).trans ?_⟩
  simp only [takeComplete, hhas, if_true, activate_reportedAt hcurrent, hb]

/-- An ABORTED with the hook unloaded, or of an order whose lift moves nothing. -/
theorem exec_aborted (h : s.orderReport f 5 c o pos loaded) (hidle : loaded = true → idleLift o) :
    ∃ b, exec (.reportAborted f) s =
        .next (unnoted (abortOrder c loaded (craneSet f c (heldCrane s c o pos b) s)))
      ∧ (loaded = false → b = o.lifted) := by
  have hcurrent := h.2.2.2.2.1
  have hhas : (reportedAt f c pos s).hasTag c o.tag = true := hasTag_current (reportedAt_current.trans hcurrent) rfl
  have hexec := exec_orderReport (act := takeAborted) h takeAborted_waiting
  simp only [takeAborted, hhas, if_true, activate_reportedAt hcurrent] at hexec
  cases loaded with
  | false => exact ⟨o.lifted, by rw [← namedCrane_held]; exact hexec, fun _ => rfl⟩
  | true =>
    obtain ⟨b, hb⟩ := takeLift_idle (s := s) (f := f) (c := c) (pos := pos) (hidle rfl)
    rw [if_pos rfl, hb] at hexec
    exact ⟨b, hexec, fun h => by cases h⟩

theorem held_current : ((craneSet f c (heldCrane s c o pos b) s).crane c).current =
    some { o.started with lifted := b } := by
  rw [craneSet_own]
  rfl

theorem held_ended (hook : Option Nat) :
    (heldCrane s c o pos b).ended hook = (s.reported c pos).ended hook := rfl

/-- The state of an order's end with its claim released. -/
theorem released_order : CraneStep c s (releaseFor o.task (craneSet f c (heldCrane s c o pos b) s))
    ∧ (releaseFor o.task (craneSet f c (heldCrane s c o pos b) s)).crane c = heldCrane s c o pos b
    ∧ (∀ n, (releaseFor o.task (craneSet f c (heldCrane s c o pos b) s)).slot n =
        if o.task.destSlot = some n then { s.slot n with claims := (s.slot n).claims - 1 } else s.slot n)
    ∧ ∃ x r, releaseFor o.task (craneSet f c (heldCrane s c o pos b) s) =
        { s with line := { s.line with handed := s.line.handed.erase f }
                 stock := { s.stock with slots := x }, runway := r } := by
  have hown : (craneSet f c (heldCrane s c o pos b) s).crane c = heldCrane s c o pos b := craneSet_own
  obtain ⟨x, n, honly⟩ := releaseFor_only (s := craneSet f c (heldCrane s c o pos b) s) o.task
  exact ⟨craneSet_step.trans (step_releaseFor _), (releaseFor_crane o.task c).trans hown,
    releaseFor_slot (s := craneSet f c (heldCrane s c o pos b) s) o.task, x, _, honly⟩

/-- The crane and its order go FREE, or stay HALTED, where only the end of the order has been taken. -/
theorem endOrder_held (hnone : s.noneWaiting) : unnoted (endOrder c (craneSet f c (heldCrane s c o pos b) s)) =
    modCrane c (fun _ => (s.reported c pos).ended (s.reported c pos).hook) (takeHanded f s) := by
  have hown : (craneSet f c (heldCrane s c o pos b) s).crane c = heldCrane s c o pos b := craneSet_own
  have hzero : (takeHanded f s).runway.opportunities = 0 := hnone.2
  refine Eq.trans ?_ (unnoted_settled (s := modCrane c (fun _ => (s.reported c pos).ended (s.reported c pos).hook)
    (takeHanded f s)) hzero)
  simp only [endOrder, modCrane, hown]
  simp only [craneSet, modCrane, tset_tset]
  rfl

theorem deliver_held (dst : Place) : deliver c { o.started with lifted := b } dst = deliver c o dst := by
  unfold CraneOrder.started
  split <;> rfl

theorem finishOrder_carry {src : Source} {dst : Place} (hcurrent : (s.crane c).current = some o)
    (htask : o.task = .carry src dst) : finishOrder c s = endOrder c (deliver c o dst s) := by
  simp only [finishOrder, hcurrent, htask]

theorem finishOrder_travel {p : Nat} (hcurrent : (s.crane c).current = some o) (htask : o.task = .travel p) :
    finishOrder c s = endOrder c s := by
  simp only [finishOrder, hcurrent, htask]

theorem abortOrder_carry {src : Source} {dst : Place} (hcurrent : (s.crane c).current = some o)
    (htask : o.task = .carry src dst) :
    abortOrder c loaded s = endOrder c (settleAbort c o src loaded (releaseFor o.task s)) := by
  simp only [abortOrder, hcurrent, htask]

theorem abortOrder_travel {p : Nat} (hcurrent : (s.crane c).current = some o) (htask : o.task = .travel p) :
    abortOrder c loaded s = endOrder c s := by
  simp only [abortOrder, hcurrent, htask]

theorem finishOrder_held {src : Source} {dst : Place} (htask : o.task = .carry src dst) :
    finishOrder c (craneSet f c (heldCrane s c o pos b) s) =
      endOrder c (deliver c o dst (craneSet f c (heldCrane s c o pos b) s)) := by
  refine (finishOrder_carry (o := { o.started with lifted := b }) held_current (started_task.1.trans htask)).trans ?_
  rw [deliver_held]

theorem settleAbort_held (src : Source) :
    settleAbort c { o.started with lifted := b } src loaded = settleAbort c { o with lifted := b } src loaded := by
  unfold CraneOrder.started
  split <;> rfl

theorem abortOrder_held {src : Source} {dst : Place} (htask : o.task = .carry src dst) :
    abortOrder c loaded (craneSet f c (heldCrane s c o pos b) s) = endOrder c
      (settleAbort c { o with lifted := b } src loaded (releaseFor o.task (craneSet f c (heldCrane s c o pos b) s))) := by
  refine (abortOrder_carry (o := { o.started with lifted := b }) held_current (started_task.1.trans htask)).trans ?_
  have ht : o.started.task = o.task := started_task.1
  rw [settleAbort_held, ht]

end

end Sys2Proof.FinishProofs
end

section
/-! The implied lift (O45). -/
namespace Sys2Proof.ImpliedLiftProofs

open Sys2Proof Sys2Proof.Machine Sys2Proof.StepProofs Sys2Proof.RequestProofs Sys2Proof.SettleProofs
  Sys2Proof.CraneRuleProofs Sys2Proof.ReportProofs Sys2Proof.LiftProofs Sys2Proof.ApartProofs Sys2Proof.LiftedProofs
  Sys2Proof.FinishProofs

section
variable {s t u : State} {f : Frame} {c : Fin 4} {o : CraneOrder} {k : Crane} {pos m : Nat} {loaded : Bool}

/-! ### The report before -/

/-- The report with its kind byte that of LIFTED. -/
def liftedFrame (f : Frame) : Frame := { f with payload := 3#8 :: f.payload.tail }

theorem parse_lifted {r : ReportFields} (h : parseReport f.payload = some r) :
    parseReport (liftedFrame f).payload = some { r with kind := 3 } := by
  unfold parseReport at h
  split at h
  · next b p1 p0 t1 t0 l hpayload =>
    split at h
    · cases h
      simp only [liftedFrame, hpayload, List.tail_cons]
      rfl
    · cases h
  · cases h

theorem orderReport_lifted {kind : Nat} (h : s.orderReport f kind c o pos loaded) :
    s.orderReport (liftedFrame f) 3 c o pos loaded := by
  obtain ⟨hrun, hnone, hparse, hsrc, hcurrent, hwithin⟩ := h
  exact ⟨hrun, hnone, parse_lifted hparse, hsrc, hcurrent, hwithin⟩

/-! ### The report after -/

theorem modCrane_fixed {g : Crane → Crane} (h : g (s.crane c) = s.crane c) : modCrane c g s = s := by
  have hset : tset s.runway.cranes c (s.crane c) = s.runway.cranes := Vector.set_getElem_self c.isLt
  rw [modCrane, h, hset]

theorem craneOf_congr (h : CraneStep c s t) (st : Station) : t.craneOf st = s.craneOf st := by
  have hentry : t.craneEntry = s.craneEntry := funext (craneEntry_of_step h)
  rw [State.craneOf, State.craneOf, hentry]

/-- The lifted order has been made ACTIVE. -/
theorem started_not_admitted : o.started.state = .admitted → False := by
  unfold CraneOrder.started
  split
  · exact fun h => by cases h
  · next h => exact h

/-- What a report leaves that names an order already lifted, at the position it was lifted from. -/
theorem report_again {fin : State → State} {act : Fin 4 → ReportFields → State → State} {kind : Nat}
    {b : Option Binding} (hact : ∀ r v, v.hasTag c r.tag = true → r.loaded = loaded →
      act c r v = fin (takeLift c (modCurrent c activate v)))
    (hwaiting : ∀ r v, (act c r v).runway.waiting = v.runway.waiting)
    (hreport : u.orderReport f kind c { o.started with lifted := true, binding := b } pos loaded)
    (hplace : u.reported c pos = u.crane c) :
    whenRunning (fun v => takeReport f act (takeHanded f v)) u = .next (unnoted (fin (takeHanded f u))) := by
  have hcurrent := hreport.2.2.2.2.1
  have hstay : reportedAt f c pos u = takeHanded f u :=
    modCrane_fixed (s := takeHanded f u) (g := fun _ => u.reported c pos) hplace
  have hactive : modCurrent c activate (takeHanded f u) = takeHanded f u := by
    refine modCrane_fixed (s := takeHanded f u) ?_
    have hcrane : (takeHanded f u).crane c = u.crane c := rfl
    have hsame : activate { o.started with lifted := true, binding := b } =
        { o.started with lifted := true, binding := b } := if_neg started_not_admitted
    rw [hcrane, hcurrent, Option.map_some, hsame, ← hcurrent]
  have hlift : takeLift c (takeHanded f u) = takeHanded f u := by
    have hcurrent' : ((takeHanded f u).crane c).current = some { o.started with lifted := true, binding := b } :=
      hcurrent
    simp only [takeLift, hcurrent', if_true]
    split <;> rfl
  have hhas : (takeHanded f u).hasTag c { o.started with lifted := true, binding := b }.tag = true :=
    hasTag_current (s := takeHanded f u) hcurrent rfl
  rw [exec_orderReport hreport hwaiting, hstay, hact _ _ hhas rfl, hactive, hlift]

/-! ### The lift implied (R131 to R133) -/

theorem impliedLift {fin : State → State} {act : Fin 4 → ReportFields → State → State} {kind : Nat}
    {src : Source} {dst : Place} (hact : ∀ r v, v.hasTag c r.tag = true → r.loaded = loaded →
      act c r v = fin (takeLift c (modCurrent c activate v))) (hfin : Apart fin)
    (hwaiting : ∀ r v, (act c r v).runway.waiting = v.runway.waiting) (htask : o.task = .carry src dst)
    (hlifted : o.lifted = false) (hnot : liftedFrame f ∉ s.line.handed)
    (hexec : exec (.reportLifted (liftedFrame f)) s = .next u) (h : s.orderReport f kind c o pos loaded) :
    whenRunning (fun v => takeReport f act (takeHanded f v)) s =
      whenRunning (fun v => takeReport f act (takeHanded f v)) u := by
  have hcurrent := h.2.2.2.2.1
  have hset : CraneStep c s (craneSet (liftedFrame f) c (liftedCrane s c o pos) s) := craneSet_step
  have hown : (craneSet (liftedFrame f) c (liftedCrane s c o pos) s).crane c = liftedCrane s c o pos := craneSet_own
  have hhanded : (craneSet (liftedFrame f) c (liftedCrane s c o pos) s).line.handed = s.line.handed :=
    List.erase_of_not_mem hnot
  have hbefore : craneSet f c (liftedCrane s c o pos) s = beside (s.line.handed.erase f)
      s.runway.opportunities (craneSet (liftedFrame f) c (liftedCrane s c o pos) s) := rfl
  have hsup : (craneSet (liftedFrame f) c (liftedCrane s c o pos) s).sup = s.sup := rfl
  -- the report as it comes, its lift implied
  have hhas : (reportedAt f c pos s).hasTag c o.tag = true := hasTag_current (reportedAt_current.trans hcurrent) rfl
  rw [exec_orderReport h hwaiting, hact _ _ hhas rfl, activate_reportedAt hcurrent, takeLift_named htask hlifted, hbefore]
  -- the report after the LIFTED
  rw [exec_lifted (orderReport_lifted h) htask hlifted] at hexec
  generalize craneSet (liftedFrame f) c (liftedCrane s c o pos) s = y at *
  have hlift := apart_liftBySource c o.started src
  have hstays := (liftStays_lift c).liftBySource o.started src y
  have hstep := hset.trans ((craneStep_lift c).liftBySource o.started src y)
  obtain ⟨b, hb⟩ := hstays.order { o.started with lifted := true } (by rw [hown]; rfl)
  have hafter : (liftBySource c o.started src y).line.handed = s.line.handed := (hlift.handed y).trans hhanded
  obtain ⟨n, hn⟩ := hlift (s.line.handed.erase f) s.runway.opportunities y
  have hplace := hstays.place
  have hrun' : (liftBySource c o.started src y).running = true := by
    have hkept : (liftBySource c o.started src y).sup = s.sup := (by simp : _ = y.sup).trans hsup
    rw [State.running, State.operating, hkept]
    exact h.1
  rw [hn]
  generalize liftBySource c o.started src y = z at *
  obtain rfl : unnoted z = u := Host.Outcome.next.inj hexec
  have hreport : (unnoted z).orderReport f kind c { o.started with lifted := true, binding := b } pos loaded := by
    obtain ⟨hrun, hnone, hparse, hsrc, -, hwithin⟩ := h
    refine ⟨hrun', ⟨hstep.waiting.trans hnone.1, rfl⟩, ?_, ?_, hb, ?_⟩
    · rw [hparse]
      simp only [started_task]
    · exact (craneOf_congr hstep f.src).trans hsrc
    · have hentry : (unnoted z).craneEntry c = s.craneEntry c := craneEntry_of_step hstep c
      have hreservation : ((unnoted z).crane c).reservation = (s.crane c).reservation := by
        have hz : (z.crane c).reservation = (y.crane c).reservation := by rw [hplace]
        rw [hown] at hz
        exact hz
      rw [hentry, hreservation]
      exact hwithin
  have hstand : (unnoted z).reported c pos = (unnoted z).crane c := by
    have hentry : z.craneEntry c = s.craneEntry c := craneEntry_of_step hstep c
    have hz : (unnoted z).crane c = z.crane c := rfl
    have hreported : (unnoted z).reported c pos = { z.crane c with
        position := some (min 20000 pos)
        envelope := some { lo := min 20000 pos - (s.craneEntry c).clearance
                           hi := min 20000 (min 20000 pos + (s.craneEntry c).clearance) }
        presence := .reporting, silence := 10 } := by
      rw [← hentry]
      rfl
    rw [hreported, hz, hplace, hown]
    rfl
  rw [report_again hact hwaiting hreport hstand]
  congr 1
  have htaken : takeHanded f (unnoted z) = beside (s.line.handed.erase f) 0 z := by
    rw [← hafter]
    rfl
  obtain ⟨i, hi⟩ := hfin (s.line.handed.erase f) n z
  obtain ⟨j, hj⟩ := hfin (s.line.handed.erase f) 0 z
  rw [htaken, hi, hj]
  rfl

end

/-- Settles O45. -/
theorem startedAndLifted : Obligations.StartedAndLifted := by
  unfold Obligations.StartedAndLifted
  intro s f c o pos loaded
  refine ⟨startedTaken, fun hrun hnone hsrc hclear tag hparse hother =>
    lateStarted hrun hnone hsrc hclear hparse hother, fun hrun hnone hsrc hclear tag hparse hother =>
    liftedStray hrun hnone hsrc hclear hparse hother, fun h => ?_, fun src dst u htask hlifted => ?_⟩
  · refine ⟨fun b dst m p htask hlifted hmark hp => liftedFromBed h htask hlifted hmark hp,
      fun n dst m p htask hlifted hbinding hmark hp => liftedFromSlot h htask hlifted hbinding hmark hp,
      fun dst htask hlifted => liftedFromHook h htask hlifted, fun n dst a htask hlifted harea =>
        ⟨fun m hbinding hmark => liftedUnbound h htask hlifted hbinding hmark,
          fun hbinding hmark => liftedUnmarked h htask hlifted harea hbinding hmark,
          fun hbinding => liftedBound h htask hlifted hbinding⟩, fun hstray => liftedAgain h ?_⟩
    unfold strayLift
    rcases hstray with ⟨p, hp⟩ | hlifted
    · rw [hp]
    · split
      · rfl
      · exact hlifted
  · intro g hnot hexec
    refine ⟨fun h => ?_, fun h => ?_⟩
    · refine impliedLift (act := takeComplete) (fin := finishOrder c) (loaded := loaded) (fun r v hhas _ => ?_)
        (apart_finishOrder c) takeComplete_waiting htask hlifted hnot hexec h
      rw [takeComplete, if_pos hhas]
    · refine impliedLift (act := takeAborted) (fin := abortOrder c true) (loaded := true) (fun r v hhas hloaded => ?_)
        (apart_abortOrder c true) takeAborted_waiting htask hlifted hnot hexec h
      simp only [takeAborted, hhas, hloaded, if_true]

end Sys2Proof.ImpliedLiftProofs
end

section
/-! COMPLETE (O46). -/
namespace Sys2Proof.CompletionProofs

open Sys2Proof Sys2Proof.Machine Sys2Proof.StepProofs Sys2Proof.RequestProofs Sys2Proof.FlagProofs
  Sys2Proof.LineProofs Sys2Proof.SettleProofs Sys2Proof.ReleaseProofs Sys2Proof.RunwayLawProofs
  Sys2Proof.OrderDropProofs Sys2Proof.PieceMinuteProofs Sys2Proof.PieceDeclareProofs Sys2Proof.PieceDropProofs
  Sys2Proof.CraneRuleProofs Sys2Proof.ReportProofs Sys2Proof.LiftProofs Sys2Proof.LiftedProofs
  Sys2Proof.FinishProofs

section
variable {s t v : State} {f : Frame} {c : Fin 4} {o : CraneOrder} {k : Crane} {p : Piece} {pos m : Nat} {loaded b : Bool}

/-! ### The state an order leaves -/

theorem endOrder_ended : (unnoted (endOrder c v)).crane c = (v.crane c).ended (v.crane c).hook := endOrder_own

theorem endOrder_only (h : CraneStep c s v) (hnone : s.noneWaiting) : s.onlyCrane (unnoted (endOrder c v)) c :=
  (h.trans step_endOrder).only hnone

theorem placePiece_own (n : Fin 1024) : (placePiece n c m s).crane c = { s.crane c with hook := none } := by
  have hpush : ((pushPiece n m (setHook c none (modSlot n (fun x => { x with claims := x.claims - 1 }) s))).crane c) =
      (setHook c none (modSlot n (fun x => { x with claims := x.claims - 1 }) s)).crane c := by
    rw [State.crane, pushPiece_runway]
    rfl
  exact hpush.trans (setHook_own none)

theorem placePiece_slot (n j : Fin 1024) : (placePiece n c m s).slot j =
    if j = n then { stack := (s.slot n).stack ++ [m], claims := (s.slot n).claims - 1 } else s.slot j := by
  have hslot : ∀ i, (setHook c none (modSlot n (fun x => { x with claims := x.claims - 1 }) s)).slot i =
      if i = n then { s.slot n with claims := (s.slot n).claims - 1 } else s.slot i :=
    modSlot_slot (s := s) n (fun x => { x with claims := x.claims - 1 })
  refine (pushPiece_slot (s := setHook c none (modSlot n (fun x => { x with claims := x.claims - 1 }) s)) j).trans ?_
  rw [hslot, hslot, if_pos rfl]
  by_cases hj : j = n
  · rw [if_pos hj, if_pos hj]
  · rw [if_neg hj, if_neg hj, if_neg hj]

theorem placePiece_findPiece (n : Fin 1024) (x : Nat) : (placePiece n c m s).findPiece x = if x = m then
    (s.findPiece x).map (fun p =>
      let q := { p with state := .inStock, location := .slot n ((s.slot n).stack.length + 1) }
      { q with ready := s.pieceReady q })
    else s.findPiece x := by
  have hslot : (setHook c none (modSlot n (fun y => { y with claims := y.claims - 1 }) s)).slot n =
      { s.slot n with claims := (s.slot n).claims - 1 } :=
    (modSlot_slot (s := s) n (fun y => { y with claims := y.claims - 1 }) n).trans (if_pos rfl)
  refine (pushPiece_findPiece (s := setHook c none (modSlot n (fun y => { y with claims := y.claims - 1 }) s)) x).trans ?_
  rw [hslot]
  rfl

theorem placePiece_stock (n : Fin 1024) :
    (placePiece n c m s).stock = { s.stock with slots := (placePiece n c m s).stock.slots } :=
  pushPiece_stock (s := setHook c none (modSlot n (fun x => { x with claims := x.claims - 1 }) s))

/-! ### The scan of the piece (R94, R115) -/

/-- The record as a COMPLETE marks it. -/
def scanned (o : CraneOrder) (p : Piece) : Piece :=
  { p with flags := { p.flags with
      unscanned := p.flags.unscanned || !(if o.binding = none then o.scanned else o.scanSeen) } }

theorem identified_eq : o.identified = if o.binding = none then o.scanned else o.scanSeen := by
  unfold CraneOrder.identified
  cases o.binding <;> rfl

theorem markUnscanned_findPiece (x : Nat) : (markUnscanned o m s).findPiece x =
    if x = m then (s.findPiece x).map (scanned o) else s.findPiece x := by
  unfold markUnscanned
  cases hseen : o.identified with
  | true =>
    have hsame : scanned o = id := by
      funext p
      rw [scanned, ← identified_eq, hseen, Bool.not_true, Bool.or_false]
      rfl
    rw [if_pos rfl, hsame, Option.map_id, id, ite_self]
  | false =>
    have hset : scanned o = fun p => { p with flags := { p.flags with unscanned := true } } := by
      funext p
      rw [scanned, ← identified_eq, hseen, Bool.not_false, Bool.or_true]
    rw [if_neg (by simp), hset]
    exact modPiece_findPiece s m (fun p => { p with flags := { p.flags with unscanned := true } }) (fun _ => rfl) x

theorem markUnscanned_only : markUnscanned o m s = { s with piece := (markUnscanned o m s).piece } := by
  unfold markUnscanned
  split <;> rfl

/-! ### A record dispatched (R93) -/

theorem dispatchPiece_found (hp : s.findPiece m = some p) : dispatchPiece c m s =
    setHook c none (erasePiece m (raise2 .dispatched (.mark m) p.estimateOf p.maturityOf s)) := by
  simp only [dispatchPiece, hp]

theorem raise2_queue {e : Cause} (hunmasked : (s.cause e).masked = false) (he : e ≠ .noticeOverflow)
    (hroom : s.notice.queue.length < 32) (hstation : s.mgmt.noticeStation = none) (u : Subject) (x : Int) (y : Nat) :
    (raise2 e u x y s).notice.queue = s.notice.queue ++ [NoticeQueueProofs.noticeOf e u x y s] := by
  rw [raise2, recordCause_queued hunmasked he hroom, offerNotice_none]
  · rfl
  · exact .inl hstation

/-! ### The clauses of COMPLETE (R132) -/

theorem completedTravel (h : s.orderReport f 4 c o pos loaded) {x : Nat} (htask : o.task = .travel x) :
    exec (.reportComplete f) s =
      .next (modCrane c (fun _ => (s.reported c pos).ended (s.reported c pos).hook) (takeHanded f s)) := by
  have hidle : idleLift o := .inl (by simp only [strayLift, htask])
  obtain ⟨b, hexec⟩ := exec_completed h hidle
  have hcurrent : ((craneSet f c (heldCrane s c o pos b) s).crane c).current =
    some { o.started with lifted := b } := held_current
  rw [hexec, finishOrder_travel hcurrent (started_task.1.trans htask), endOrder_held h.2.1]

theorem idle_of_lifted {src : Source} {dst : Place} (htask : o.task = .carry src dst) (hlifted : o.lifted = true) :
    idleLift o := .inl (by simp only [strayLift, htask, hlifted])

theorem exec_delivered (h : s.orderReport f 4 c o pos loaded) (hidle : idleLift o) {src : Source} {dst : Place}
    (htask : o.task = .carry src dst) : ∃ b, exec (.reportComplete f) s =
      .next (unnoted (endOrder c (deliver c o dst (craneSet f c (heldCrane s c o pos b) s)))) := by
  obtain ⟨b, hexec⟩ := exec_completed h hidle
  exact ⟨b, by rw [hexec, finishOrder_held htask]⟩

/-- The state of a COMPLETE with its record marked, before the record leaves the hook. -/
theorem marked_order : CraneStep c s (markUnscanned o m (craneSet f c (heldCrane s c o pos b) s))
    ∧ (markUnscanned o m (craneSet f c (heldCrane s c o pos b) s)).crane c = heldCrane s c o pos b
    ∧ (∀ x, (markUnscanned o m (craneSet f c (heldCrane s c o pos b) s)).findPiece x =
        if x = m then (s.findPiece x).map (scanned o) else s.findPiece x)
    ∧ ∃ l q r, markUnscanned o m (craneSet f c (heldCrane s c o pos b) s) =
        { s with line := l, piece := q, runway := r } := by
  have honly := markUnscanned_only (s := craneSet f c (heldCrane s c o pos b) s) (o := o) (m := m)
  refine ⟨craneSet_step.trans step_markUnscanned, ?_,
    markUnscanned_findPiece (s := craneSet f c (heldCrane s c o pos b) s), _, _, _, honly⟩
  have hown : (craneSet f c (heldCrane s c o pos b) s).crane c = heldCrane s c o pos b := craneSet_own
  rw [honly]
  exact hown

theorem completedSlot (h : s.orderReport f 4 c o pos loaded) {src : Source} {n : Fin 1024}
    (htask : o.task = .carry src (.slot n)) (hlifted : o.lifted = true) (hpiece : o.piece = some m)
    (hp : s.findPiece m = some p) :
    ∃ t, exec (.reportComplete f) s = .next t
      ∧ t.crane c = (s.reported c pos).ended none ∧ s.onlyCrane t c
      ∧ t.slot n = { stack := (s.slot n).stack ++ [m], claims := (s.slot n).claims - 1 }
      ∧ (∀ j, j ≠ n → t.slot j = s.slot j)
      ∧ t.findPiece m = some { scanned o p with
          state := .inStock, location := .slot n ((s.slot n).stack.length + 1)
          ready := s.pieceReady { scanned o p with
            state := .inStock, location := .slot n ((s.slot n).stack.length + 1) } }
      ∧ (∀ x, x ≠ m → t.findPiece x = s.findPiece x)
      ∧ t.stock = { s.stock with slots := t.stock.slots }
      ∧ t = { s with line := t.line, piece := t.piece, stock := t.stock
                     runway := t.runway, notice := t.notice } := by
  obtain ⟨b, hexec⟩ := exec_delivered h (idle_of_lifted htask hlifted) htask
  simp only [deliver, hpiece] at hexec
  obtain ⟨hstep, hcrane, hfind, hrest⟩ := marked_order (s := s) (f := f) (c := c) (o := o) (pos := pos) (m := m) (b := b)
  generalize markUnscanned o m (craneSet f c (heldCrane s c o pos b) s) = v at *
  have hstock : v.stock = s.stock := by obtain ⟨l, q, r, rfl⟩ := hrest; rfl
  have hcuring : v.curing = s.curing := by obtain ⟨l, q, r, rfl⟩ := hrest; rfl
  have hslots : ∀ j, v.slot j = s.slot j := fun j => by rw [State.slot, State.slot, hstock]
  have hown := placePiece_own (s := v) (c := c) (m := m) n
  have hslot := fun j => placePiece_slot (s := v) (c := c) (m := m) n j
  have hpieces := fun x => placePiece_findPiece (s := v) (c := c) (m := m) n x
  have hplaced := placePiece_stock (s := v) (c := c) (m := m) n
  have hkeeps := placePiece_keeps v n c m
  have honly := endOrder_only (hstep.trans (step_placePiece (m := m) n)) h.2.1
  generalize placePiece n c m v = w at *
  rw [hstock] at hplaced
  refine ⟨unnoted (endOrder c w), hexec, ?_, honly, ?_, fun j hj => ?_, ?_, fun x hx => ?_, hplaced, ?_⟩
  · rw [endOrder_ended, hown, hcrane]
    rfl
  · refine (hslot n).trans ?_
    rw [if_pos rfl, hslots]
  · refine (hslot j).trans ?_
    rw [if_neg hj, hslots]
  · refine (hpieces m).trans ?_
    rw [if_pos rfl, hfind, if_pos rfl, hp, hslots, pieceReady_congr hcuring]
    rfl
  · refine (hpieces x).trans ?_
    rw [if_neg hx, hfind, if_neg hx]
  · obtain ⟨l, q, r, rfl⟩ := hrest
    apply state_eq <;> simp [unnoted, hkeeps]

theorem completedBay (h : s.orderReport f 4 c o pos loaded) {src : Source} {y : Fin 4}
    (htask : o.task = .carry src (.bay y)) (hlifted : o.lifted = true) (hpiece : o.piece = some m)
    (hp : s.findPiece m = some p) :
    ∃ t, exec (.reportComplete f) s = .next t
      ∧ t.crane c = (s.reported c pos).ended none ∧ s.onlyCrane t c
      ∧ t.findPiece m = none ∧ (∀ x, x ≠ m → t.findPiece x = s.findPiece x)
      ∧ (t.cause .dispatched).flag = true
      ∧ ((s.cause .dispatched).masked = false → s.notice.queue.length < 32 →
          s.mgmt.noticeStation = none →
          t.notice.queue = s.notice.queue ++
            [{ cause := .dispatched, cls := (s.cause .dispatched).cls, subject := .mark m
               value := p.estimateOf, second := p.maturityOf
               minute := s.sup.worksMinute }])
      ∧ t = { s with line := t.line, piece := t.piece, runway := t.runway
                     notice := t.notice } := by
  obtain ⟨b, hexec⟩ := exec_delivered h (idle_of_lifted htask hlifted) htask
  simp only [deliver, hpiece] at hexec
  obtain ⟨hstep, hcrane, hfind, hrest⟩ := marked_order (s := s) (f := f) (c := c) (o := o) (pos := pos) (m := m) (b := b)
  generalize markUnscanned o m (craneSet f c (heldCrane s c o pos b) s) = v at *
  have hfound : v.findPiece m = some (scanned o p) := by rw [hfind, if_pos rfl, hp]; rfl
  have hdispatch := dispatchPiece_found (c := c) hfound
  have hraised := raise2_keeps (s := v) .dispatched (.mark m) (scanned o p).estimateOf (scanned o p).maturityOf
  have hflag := raise2_flagSet .dispatched (.mark m) (scanned o p).estimateOf (scanned o p).maturityOf v
  have hqueue := fun hm hr hs => raise2_queue (s := v) (e := .dispatched) hm (by decide) hr hs
    (.mark m) (scanned o p).estimateOf (scanned o p).maturityOf
  have honly := endOrder_only (hstep.trans (step_dispatchPiece (m := m))) h.2.1
  rw [hdispatch] at hexec honly
  generalize raise2 .dispatched (.mark m) (scanned o p).estimateOf (scanned o p).maturityOf v = w at *
  have hpieces : (unnoted (endOrder c (setHook c none (erasePiece m w)))).findPiece = (erasePiece m w).findPiece := rfl
  have hcrane' : w.crane c = heldCrane s c o pos b := by rw [crane_congr (s := v) (by simp [hraised]), hcrane]
  refine ⟨_, hexec, ?_, honly, ?_, fun x hx => ?_, hflag, fun hmasked hroom hstation => ?_, ?_⟩
  · have hhook : (setHook c none (erasePiece m w)).crane c = { w.crane c with hook := none } := setHook_own none
    rw [endOrder_ended, hhook, hcrane']
    rfl
  · rw [hpieces, erasePiece_findPiece, if_pos rfl]
  · rw [hpieces, erasePiece_findPiece, if_neg hx, findPiece_congr (s := v) (by simp [hraised]), hfind, if_neg hx]
  · obtain ⟨l, q, r, rfl⟩ := hrest
    exact hqueue hmasked hroom hstation
  · obtain ⟨l, q, r, rfl⟩ := hrest
    apply state_eq <;> simp [unnoted, hraised]

theorem haltCrane_notice (hurgent : s.line.portF.urgent.length < 4) (r : HaltReason) :
    (haltCrane c r s).notice = s.notice := by
  have hroom : (nextLineSeq s).urgentRoom = true := decide_eq_true hurgent
  have hline : (haltCrane c r s).notice =
      (offerHalt (haltFrame (nextLineSeq s) c r) (nextLineSeq s)).notice := rfl
  rw [hline, offerHalt, if_pos hroom]
  rfl

/-- The order of a FAILED binding at its end: the crane halted again, its claim released. -/
def mismatchEnd (c : Fin 4) (v : State) : State :=
  endOrder c (raise .hookMismatch (.crane c) ((0 : Nat) : Int) (haltCrane c .hookMismatch v))

theorem mismatchEnd_own (hcrane : v.crane c = heldCrane s c o pos b) : (unnoted (mismatchEnd c v)).crane c =
    { s.reported c pos with control := .halted, lastHalt := some .hookMismatch, reservation := none, current := none } := by
  have hraised : (raise .hookMismatch (.crane c) ((0 : Nat) : Int) (haltCrane c .hookMismatch v)).crane c =
      { v.crane c with control := .halted, lastHalt := some .hookMismatch } := by
    rw [crane_congr (raise_keeps ..).2.2.2.2.2.2.1, haltCrane_own]
  rw [mismatchEnd, endOrder_ended, hraised, hcrane]
  rfl

theorem mismatchEnd_queue (hmasked : (v.cause .hookMismatch).masked = false) (hroom : v.notice.queue.length < 32)
    (hstation : v.mgmt.noticeStation = none) (hurgent : v.line.portF.urgent.length < 4) :
    (unnoted (mismatchEnd c v)).notice.queue = v.notice.queue ++
      [{ cause := .hookMismatch, cls := (v.cause .hookMismatch).cls, subject := .crane c, value := 0, second := 0
         minute := v.sup.worksMinute }] := by
  have hnotice := haltCrane_notice (c := c) hurgent .hookMismatch
  have hkeeps := haltCrane_keeps v c .hookMismatch
  have hqueue : (unnoted (mismatchEnd c v)).notice.queue =
      (raise2 .hookMismatch (.crane c) ((0 : Nat) : Int) 0 (haltCrane c .hookMismatch v)).notice.queue := rfl
  rw [hqueue]
  obtain ⟨-, -, -, -, -, hmgmt, hsup, -, -⟩ := hkeeps
  generalize haltCrane c .hookMismatch v = w at *
  have hcause : w.cause = v.cause := by
    funext e
    rw [State.cause, State.cause, hnotice]
  rw [raise2_queue (by rw [hcause]; exact hmasked) (by decide) (by rw [hnotice]; exact hroom) (by rw [hmgmt]; exact hstation),
    hnotice, NoticeQueueProofs.noticeOf, hcause, hsup]
  rfl

theorem mismatchEnd_stock : (unnoted (mismatchEnd c v)).stock = v.stock := by
  simp [mismatchEnd, unnoted]

theorem mismatchEnd_sent (hurgent : v.line.portF.urgent = s.line.portF.urgent) (hseq : v.line.seq = s.line.seq)
    (hentry : v.craneEntry c = s.craneEntry c) (hsup : v.sup = s.sup) (htag : v.currentTag c = s.currentTag c) :
    s.haltSent (unnoted (mismatchEnd c v)) c 3 := by
  have hline : (unnoted (mismatchEnd c v)).line =
      (raise .hookMismatch (.crane c) ((0 : Nat) : Int) (haltCrane c .hookMismatch v)).line := (endOrder_keeps _ c).1
  exact haltSent_after (code := (HaltReason.hookMismatch).code)
    (halted_sent .hookMismatch .hookMismatch (.crane c) ((0 : Nat) : Int) hurgent hseq hentry hsup htag)
    (congrArg LineUnit.portF hline)

theorem mismatchEnd_flag : ((unnoted (mismatchEnd c v)).cause .hookMismatch).flag = true := by
  have hnotice : (unnoted (mismatchEnd c v)).notice =
      (raise .hookMismatch (.crane c) ((0 : Nat) : Int) (haltCrane c .hookMismatch v)).notice :=
    (endOrder_keeps _ c).2.2.2.2.2.2.2.2.1
  rw [State.cause, hnotice]
  exact raise_flagSet ..

theorem completedFailed (h : s.orderReport f 4 c o pos loaded) {n0 : Fin 1024} {dst : Place}
    (htask : o.task = .carry (.slot n0) dst) (hbinding : o.binding = some .failed) :
    ∃ t, exec (.reportComplete f) s = .next t
      ∧ t.crane c = { s.reported c pos with
          control := .halted, lastHalt := some .hookMismatch, reservation := none, current := none }
      ∧ s.onlyCrane t c ∧ (t.cause .hookMismatch).flag = true ∧ s.haltSent t c 3
      ∧ ((s.cause .hookMismatch).masked = false → s.notice.queue.length < 32 →
          s.mgmt.noticeStation = none → s.line.portF.urgent.length < 4 →
          t.notice.queue = s.notice.queue ++
            [{ cause := .hookMismatch, cls := (s.cause .hookMismatch).cls
               subject := .crane c, value := 0, second := 0, minute := s.sup.worksMinute }])
      ∧ (∀ n, t.slot n = if dst = Place.slot n then
            { s.slot n with claims := (s.slot n).claims - 1 } else s.slot n)
      ∧ t.stock = { s.stock with slots := t.stock.slots }
      ∧ t = { s with line := t.line, heat := t.heat, stock := t.stock, runway := t.runway
                     notice := t.notice } := by
  obtain ⟨b, hexec⟩ := exec_delivered h (.inr (.inr ⟨n0, dst, htask, hbinding⟩)) htask
  have hpiece : o.piece = none := by simp only [CraneOrder.piece, hbinding]
  simp only [deliver, hpiece] at hexec
  obtain ⟨hstep, hcrane, hslot, hrest⟩ := released_order (s := s) (f := f) (c := c) (o := o) (pos := pos) (b := b)
  generalize releaseFor o.task (craneSet f c (heldCrane s c o pos b) s) = v at *
  have hexec' : exec (.reportComplete f) s = .next (unnoted (mismatchEnd c v)) := hexec
  have honlyCrane : s.onlyCrane (unnoted (mismatchEnd c v)) c :=
    endOrder_only (hstep.trans (raisedHalt_step _ _ _ _)) h.2.1
  have hstock := mismatchEnd_stock (c := c) (v := v)
  have htag : v.currentTag c = s.currentTag c := by
    rw [State.currentTag, State.currentTag, hcrane, h.2.2.2.2.1]
    exact started_task.2.2.2.2
  have hentry := craneEntry_of_step hstep c
  obtain ⟨x, r, hv⟩ := hrest
  have hnotice : v.notice = s.notice := by rw [hv]
  have hmgmt : v.mgmt = s.mgmt := by rw [hv]
  have hsup : v.sup = s.sup := by rw [hv]
  have hportF : v.line.portF = s.line.portF := by rw [hv]
  have hseq : v.line.seq = s.line.seq := by rw [hv]
  have hslots : v.stock = { s.stock with slots := v.stock.slots } := by rw [hv]
  have hcause : v.cause .hookMismatch = s.cause .hookMismatch := by rw [State.cause, State.cause, hnotice]
  have hsent := mismatchEnd_sent (s := s) (congrArg PortUnit.urgent hportF) hseq hentry hsup htag
  have hflag := mismatchEnd_flag (c := c) (v := v)
  have hqueue := mismatchEnd_queue (c := c) (v := v)
  rw [hcause, hnotice, hmgmt, hportF, hsup] at hqueue
  have hrest : unnoted (mismatchEnd c v) = { v with
      line := (unnoted (mismatchEnd c v)).line, heat := (unnoted (mismatchEnd c v)).heat
      runway := (unnoted (mismatchEnd c v)).runway, notice := (unnoted (mismatchEnd c v)).notice } := by
    apply state_eq <;> simp [unnoted, mismatchEnd]
  have hcraneEnd := mismatchEnd_own (c := c) hcrane
  generalize unnoted (mismatchEnd c v) = w at *
  refine ⟨w, hexec', hcraneEnd, honlyCrane, hflag, hsent, hqueue, fun n => ?_, ?_, ?_⟩
  · have hdst : (o.task.destSlot = some n) = (dst = Place.slot n) := by
      rw [htask]
      cases dst <;> simp [Task.destSlot]
    rw [State.slot, hstock]
    simp only [← hdst]
    exact hslot n
  · rw [hstock]
    exact hslots
  · rw [hrest, hv]

end

/-- Settles O46. -/
theorem completionTaken : Obligations.CompletionTaken := by
  unfold Obligations.CompletionTaken
  intro s f c o pos loaded
  refine ⟨fun h => ?_, fun hrun hnone hsrc hclear tag hparse hother => ?_⟩
  · intro k scannedFlags
    refine ⟨fun x htask => completedTravel h htask, fun src n m p htask hlifted hpiece hp => ?_,
      fun src y m p htask hlifted hpiece hp => completedBay h htask hlifted hpiece hp,
      fun n0 dst htask hbinding => completedFailed h htask hbinding⟩
    intro level q
    exact completedSlot h htask hlifted hpiece hp
  · have htag : (reportedAt f c pos s).hasTag c tag = false := by
      refine hasTag_other fun x hx => hother x ?_
      rw [← reportedAt_current (f := f) (pos := pos)]
      exact hx
    have hexec : exec (.reportComplete f) s = .next (unnoted (takeComplete c
        { kind := 4, position := pos, tag := tag, loaded := loaded } (reportedAt f c pos s))) :=
      exec_reportClear (act := takeComplete) hrun hnone hsrc hparse (not_overrun_of_keepsClear hclear)
        (takeComplete_waiting _)
    rw [hexec]
    simp only [takeComplete, htag, Bool.false_eq_true, if_false]
    refine congrArg _ (unnoted_settled ?_)
    rw [(raise_keeps ..).2.2.2.2.2.2.1]
    exact hnone.2

end Sys2Proof.CompletionProofs
end

section
/-! ABORTED (O47). -/
namespace Sys2Proof.AbortProofs

open Sys2Proof Sys2Proof.Machine Sys2Proof.StepProofs Sys2Proof.RequestProofs Sys2Proof.FlagProofs
  Sys2Proof.LineProofs Sys2Proof.SettleProofs Sys2Proof.ReleaseProofs Sys2Proof.RunwayLawProofs
  Sys2Proof.OrderDropProofs Sys2Proof.PieceMinuteProofs Sys2Proof.PieceDeclareProofs Sys2Proof.PieceDropProofs
  Sys2Proof.CraneRuleProofs Sys2Proof.ReportProofs Sys2Proof.LiftProofs Sys2Proof.LiftedProofs
  Sys2Proof.FinishProofs Sys2Proof.CompletionProofs

section
variable {s t v : State} {f : Frame} {c : Fin 4} {o : CraneOrder} {k : Crane} {p : Piece} {pos m : Nat}
  {loaded b : Bool} {n : Fin 1024}

/-! ### The parts of an abort (R110, R133) -/

/-- The claims of a slot once the order's own has been released. -/
def leftClaims (s : State) (o : CraneOrder) (n : Fin 1024) : Nat :=
  if o.task.destSlot = some n then (s.slot n).claims - 1 else (s.slot n).claims

/-- What an abort that moves nothing leaves. -/
def Stays (s t : State) (f : Frame) (c : Fin 4) (o : CraneOrder) (pos : Nat) : Prop :=
  t.crane c = (s.reported c pos).ended (s.reported c pos).hook ∧ s.onlyCrane t c
    ∧ (∀ n, (t.slot n).claims = leftClaims s o n) ∧ (∀ n, (t.slot n).stack = (s.slot n).stack)
    ∧ t.stock = { s.stock with slots := t.stock.slots }
    ∧ t.line = { s.line with handed := s.line.handed.erase f }
    ∧ t = { s with line := t.line, stock := t.stock, runway := t.runway }

/-- What an abort leaves that drops its piece. -/
def Dropped (s t : State) (c : Fin 4) (o : CraneOrder) (pos m : Nat) : Prop :=
  t.crane c = (s.reported c pos).ended none ∧ s.onlyCrane t c
    ∧ (∀ n, (t.slot n).claims = leftClaims s o n) ∧ (∀ n, (t.slot n).stack = (s.slot n).stack)
    ∧ (∀ x, t.findPiece x = (s.findPiece x).map fun p => if x = m then
        { p with state := .atLarge, location := .none, ready := false } else p)
    ∧ (t.cause .pieceAtLarge).flag = true
    ∧ t = { s with line := t.line, piece := t.piece, stock := t.stock, runway := t.runway, notice := t.notice }

/-- What an abort leaves that puts its piece back on its slot. -/
def PutBack (s t : State) (c : Fin 4) (o : CraneOrder) (pos m : Nat) (n : Fin 1024) (p : Piece) : Prop :=
  t.crane c = (s.reported c pos).ended none ∧ s.onlyCrane t c
    ∧ (∀ n, (t.slot n).claims = leftClaims s o n)
    ∧ (∀ j, (t.slot j).stack = if j = n then (s.slot n).stack ++ [m] else (s.slot j).stack)
    ∧ t.findPiece m = some { p with
        state := .inStock, location := .slot n ((s.slot n).stack.length + 1)
        ready := s.pieceReady { p with state := .inStock, location := .slot n ((s.slot n).stack.length + 1) } }
    ∧ (∀ x, x ≠ m → t.findPiece x = s.findPiece x)
    ∧ t.stock = { s.stock with slots := t.stock.slots }
    ∧ t = { s with line := t.line, piece := t.piece, stock := t.stock, runway := t.runway, notice := t.notice }

/-- The state of an abort once the claim is released, before its piece is dealt with. -/
structure Released (s v : State) (f : Frame) (c : Fin 4) (o : CraneOrder) (pos : Nat) : Prop where
  step : CraneStep c s v
  crane : ∃ b, v.crane c = heldCrane s c o pos b
  slot : ∀ n, v.slot n = if o.task.destSlot = some n then { s.slot n with claims := (s.slot n).claims - 1 } else s.slot n
  rest : ∃ x r, v = { s with line := { s.line with handed := s.line.handed.erase f }
                             stock := { s.stock with slots := x }, runway := r }

theorem Released.claims (h : Released s v f c o pos) (n : Fin 1024) : (v.slot n).claims = leftClaims s o n := by
  rw [h.slot, leftClaims]
  split <;> rfl

theorem Released.stack (h : Released s v f c o pos) (n : Fin 1024) : (v.slot n).stack = (s.slot n).stack := by
  rw [h.slot]
  split <;> rfl

theorem Released.stays (h : Released s v f c o pos) (hnone : s.noneWaiting) :
    Stays s (unnoted (endOrder c v)) f c o pos := by
  obtain ⟨b, hcrane⟩ := h.crane
  obtain ⟨x, r, hv⟩ := h.rest
  refine ⟨?_, endOrder_only h.step hnone, h.claims, h.stack, ?_, ?_, ?_⟩
  · rw [endOrder_ended, hcrane]
    rfl
  all_goals rw [hv]
  · rfl
  · rfl
  · apply state_eq <;> simp [unnoted]

theorem strandFromHook_own : (strandFromHook c m s).crane c = { s.crane c with hook := none } := by
  have hhook : (setHook c none (strandPiece m s)).crane c = { (strandPiece m s).crane c with hook := none } :=
    setHook_own none
  rw [strandFromHook, crane_congr (raise_keeps ..).2.2.2.2.2.2.1, hhook]
  rfl

theorem strandFromHook_findPiece (x : Nat) : (strandFromHook c m s).findPiece x = (s.findPiece x).map fun p =>
    if x = m then { p with state := .atLarge, location := .none, ready := false } else p := by
  have hstrand : (setHook c none (strandPiece m s)).findPiece = (strandPiece m s).findPiece := rfl
  have hfound := modPiece_findPiece s m (fun p => { p with state := .atLarge, location := .none, ready := false })
    (fun _ => rfl) x
  rw [strandFromHook, findPiece_congr (raise_keeps ..).2.2.2.2.1, hstrand, strandPiece, hfound]
  by_cases hx : x = m
  · simp only [if_pos hx]
  · simp only [if_neg hx, Option.map_id']

theorem Released.dropped (h : Released s v f c o pos) (hnone : s.noneWaiting) (m : Nat) :
    Dropped s (unnoted (endOrder c (strandFromHook c m v))) c o pos m := by
  obtain ⟨b, hcrane⟩ := h.crane
  obtain ⟨x, r, hv⟩ := h.rest
  have hfind : v.findPiece = s.findPiece := findPiece_congr (by rw [hv])
  have hpieces := fun x => strandFromHook_findPiece (s := v) (c := c) (m := m) x
  have hflag : ((strandFromHook c m v).cause .pieceAtLarge).flag = true := raise_flagSet ..
  have hown := strandFromHook_own (s := v) (c := c) (m := m)
  have honly := endOrder_only (h.step.trans (step_strandFromHook (m := m))) hnone
  have hkeeps := strandFromHook_keeps v c m
  have hslot : ∀ n, (strandFromHook c m v).slot n = v.slot n := fun n => by
    rw [State.slot, State.slot, hkeeps.2.2.2.2.1]
  generalize strandFromHook c m v = w at *
  refine ⟨?_, honly, fun n => ?_, fun n => ?_, fun x => ?_, hflag, ?_⟩
  · rw [endOrder_ended, hown, hcrane]
    rfl
  · exact (congrArg Slot.claims (hslot n)).trans (h.claims n)
  · exact (congrArg Slot.stack (hslot n)).trans (h.stack n)
  · rw [← hfind]
    exact hpieces x
  · apply state_eq <;> simp [unnoted, hkeeps, hv]

theorem Released.putBack (h : Released s v f c o pos) (hnone : s.noneWaiting) (hp : s.findPiece m = some p) :
    PutBack s (unnoted (endOrder c (pushPiece n m (setHook c none v)))) c o pos m n p := by
  obtain ⟨b, hcrane⟩ := h.crane
  obtain ⟨x, r, hv⟩ := h.rest
  have hfind : (setHook c none v).findPiece = s.findPiece := findPiece_congr (by rw [hv]; rfl)
  have hready : (setHook c none v).pieceReady = s.pieceReady := pieceReady_congr (by rw [hv]; rfl)
  have hbefore : ∀ j, (setHook c none v).slot j = v.slot j := fun _ => rfl
  have hstock : (setHook c none v).stock = { s.stock with slots := x } := by rw [hv]; rfl
  have hown : (setHook c none v).crane c = { v.crane c with hook := none } := setHook_own none
  have hstep : CraneStep c s (setHook c none v) := h.step.trans (step_setHook none)
  have hrest : ∃ r, setHook c none v = { v with runway := r } := ⟨_, rfl⟩
  generalize setHook c none v = u at *
  have hpush := fun j => pushPiece_slot (s := u) (n := n) (m := m) j
  have hpieces := fun x => pushPiece_findPiece (s := u) (n := n) (m := m) x
  have hslots := pushPiece_stock (s := u) (n := n) (m := m)
  have hcranes : (pushPiece n m u).crane c = u.crane c := by rw [State.crane, pushPiece_runway]; rfl
  have hkeeps := pushPiece_keeps u n m
  have honly := endOrder_only (hstep.trans (step_pushPiece (m := m) n)) hnone
  generalize pushPiece n m u = w at *
  have hlength : (u.slot n).stack.length = (s.slot n).stack.length := by rw [hbefore, h.stack]
  refine ⟨?_, honly, fun j => ?_, fun j => ?_, ?_, fun x hx => ?_, ?_, ?_⟩
  · rw [endOrder_ended, hcranes, hown, hcrane]
    rfl
  · refine (congrArg Slot.claims (hpush j)).trans ?_
    rw [← h.claims, hbefore, hbefore]
    by_cases hj : j = n
    · rw [if_pos hj, hj]
    · rw [if_neg hj]
  · refine (congrArg Slot.stack (hpush j)).trans ?_
    rw [← h.stack, ← h.stack, hbefore, hbefore]
    by_cases hj : j = n
    · rw [if_pos hj, if_pos hj]
    · rw [if_neg hj, if_neg hj]
  · refine (hpieces m).trans ?_
    rw [if_pos rfl, hfind, hp, hlength, hready]
    rfl
  · refine (hpieces x).trans ?_
    rw [if_neg hx, hfind]
  · rw [hstock] at hslots
    exact hslots
  · obtain ⟨r', hu⟩ := hrest
    apply state_eq <;> simp [unnoted, hkeeps, hu, hv]

/-! ### The clauses of ABORTED -/

theorem released_held : Released s (releaseFor o.task (craneSet f c (heldCrane s c o pos b) s)) f c o pos := by
  obtain ⟨hstep, hcrane, hslot, hrest⟩ := released_order (s := s) (f := f) (c := c) (o := o) (pos := pos) (b := b)
  exact ⟨hstep, ⟨b, hcrane⟩, hslot, hrest⟩

theorem slotRoom_iff (h : Released s v f c o pos) : v.slotRoom n = true ↔
    ∃ a, s.areaOf n.val = some a ∧ (s.slot n).stack.length + leftClaims s o n < (s.area a).heightLimit := by
  obtain ⟨x, r, hv⟩ := h.rest
  have harea : v.areaOf = s.areaOf := by rw [hv]; rfl
  have hareas : v.area = s.area := by rw [hv]; rfl
  rw [State.slotRoom, harea, hareas, Slot.load, h.stack, h.claims]
  cases s.areaOf n.val with
  | none => simp
  | some a => simp

theorem abortedTravel (h : s.orderReport f 5 c o pos loaded) {x : Nat} (htask : o.task = .travel x) :
    exec (.reportAborted f) s =
      .next (modCrane c (fun _ => (s.reported c pos).ended (s.reported c pos).hook) (takeHanded f s)) := by
  have hidle : idleLift o := .inl (by simp only [strayLift, htask])
  obtain ⟨b, hexec, -⟩ := exec_aborted h fun _ => hidle
  have hcurrent : ((craneSet f c (heldCrane s c o pos b) s).crane c).current =
    some { o.started with lifted := b } := held_current
  rw [hexec, abortOrder_travel hcurrent (started_task.1.trans htask), endOrder_held h.2.1]

/-- An abort with the hook loaded. -/
theorem abortedLoaded (h : s.orderReport f 5 c o pos true) {src : Source} {dst : Place}
    (htask : o.task = .carry src dst) (hidle : o.lifted = true ∨ src = .hook) :
    ∃ t, exec (.reportAborted f) s = .next t ∧ Stays s t f c o pos := by
  have hidle' : idleLift o := by
    rcases hidle with hlifted | rfl
    · exact idle_of_lifted htask hlifted
    · exact .inr (.inl ⟨dst, htask⟩)
  obtain ⟨b, hexec, -⟩ := exec_aborted h fun _ => hidle'
  rw [abortOrder_held htask] at hexec
  exact ⟨_, hexec, released_held.stays h.2.1⟩

/-- An abort with the hook unloaded: the piece is dealt with once the claim is released. -/
theorem abortedUnloaded (h : s.orderReport f 5 c o pos false) {src : Source} {dst : Place}
    (htask : o.task = .carry src dst) : ∃ v, Released s v f c o pos
      ∧ exec (.reportAborted f) s = .next (unnoted (endOrder c (settleAbort c o src false v))) := by
  obtain ⟨b, hexec, hb⟩ := exec_aborted h fun h => by cases h
  have hsame : { o with lifted := b } = o := by rw [hb rfl]
  rw [abortOrder_held htask, hsame] at hexec
  exact ⟨_, released_held, hexec⟩

end

/-- Settles O47. -/
theorem abortTaken : Obligations.AbortTaken := by
  unfold Obligations.AbortTaken
  intro s f c o pos loaded
  refine ⟨fun h => ?_, fun hrun hnone hsrc hclear tag hparse hother => ?_⟩
  · intro k left claims room atLarge stays
    refine ⟨fun p htask => abortedTravel h htask, fun src dst htask hidle hloaded => ?_,
      fun b dst htask hloaded => ?_, fun dst m htask hloaded hpiece => ?_, fun n dst htask hloaded => ?_⟩
    all_goals subst hloaded
    · exact abortedLoaded h htask hidle
    all_goals obtain ⟨v, hreleased, hexec⟩ := abortedUnloaded h htask
    · refine ⟨fun m hlifted hpiece => ?_, fun hlifted => ?_⟩
      · simp only [settleAbort, hpiece, hlifted, if_true, Bool.false_eq_true, if_false] at hexec
        exact ⟨_, hexec, hreleased.dropped h.2.1 m⟩
      · have hidle : settleAbort c o (.bed b) false v = v := by
          cases hpiece : o.piece <;> simp only [settleAbort, hpiece, hlifted, Bool.false_eq_true, if_false]
        rw [hidle] at hexec
        exact ⟨_, hexec, hreleased.stays h.2.1⟩
    · simp only [settleAbort, hpiece, Bool.false_eq_true, if_false] at hexec
      exact ⟨_, hexec, hreleased.dropped h.2.1 m⟩
    · refine ⟨fun hlifted hbinding => ?_, fun hbinding => ?_, fun m p hlifted hpiece hp => ?_⟩
      · have hidle : settleAbort c o (.slot n) false v = v := by
          cases hpiece : o.piece <;> simp [settleAbort, hpiece, hlifted, hbinding]
        rw [hidle] at hexec
        exact ⟨_, hexec, hreleased.stays h.2.1⟩
      · have hpiece : o.piece = none := by
          rcases hbinding with hbinding | hbinding <;> simp only [CraneOrder.piece, hbinding]
        simp only [settleAbort, hpiece, Bool.false_eq_true, if_false] at hexec
        exact ⟨_, hexec, hreleased.stays h.2.1⟩
      · have htaken : o.lifted = true ∨ o.binding.isSome = true :=
          hlifted.imp_right fun hbound => by rw [hbound]; rfl
        simp only [settleAbort, hpiece, htaken, if_true, Bool.false_eq_true, if_false] at hexec
        have hroom : v.slotRoom n = true ↔ room n := slotRoom_iff hreleased
        refine ⟨fun hfull => ?_, fun hfree => ?_⟩
        · rw [returnPiece, if_neg (fun h => hfull (hroom.1 h))] at hexec
          exact ⟨_, hexec, hreleased.dropped h.2.1 m⟩
        · rw [returnPiece, if_pos (hroom.2 hfree)] at hexec
          have hback := hreleased.putBack (n := n) h.2.1 hp
          exact ⟨_, hexec, hback⟩
  · have htag : (reportedAt f c pos s).hasTag c tag = false := by
      refine hasTag_other fun x hx => hother x ?_
      rw [← reportedAt_current (f := f) (pos := pos)]
      exact hx
    have hexec : exec (.reportAborted f) s = .next (unnoted (takeAborted c
        { kind := 5, position := pos, tag := tag, loaded := loaded } (reportedAt f c pos s))) :=
      exec_reportClear (act := takeAborted) hrun hnone hsrc hparse (not_overrun_of_keepsClear hclear)
        (takeAborted_waiting _)
    rw [hexec]
    simp only [takeAborted, htag, Bool.false_eq_true, if_false]
    exact congrArg _ (unnoted_settled hnone.2)

end Sys2Proof.AbortProofs
end

section
/-! HOOK_SCAN (O48). -/
namespace Sys2Proof.ScanProofs

open Sys2Proof Sys2Proof.Machine Sys2Proof.StepProofs Sys2Proof.RequestProofs Sys2Proof.FlagProofs
  Sys2Proof.LineProofs Sys2Proof.SettleProofs Sys2Proof.CraneRuleProofs Sys2Proof.ReportProofs
  Sys2Proof.LiftProofs

section
variable {s t : State} {f : Frame} {c : Fin 4} {o : CraneOrder} {m : Nat}

/-! ### Which scans act -/

theorem scan_unread (hpayload : f.payload = enc4 m) (hm : m < 4294967296)
    (h : m = 0 ∨ s.craneOfReader f.src = none) : takeScan f s = s := by
  simp only [takeScan, hpayload, enc4, dec4_enc hm]
  by_cases hzero : m = 0
  · exact if_pos hzero
  · simp only [if_neg hzero, h.resolve_left hzero]

theorem scan_read (hpayload : f.payload = enc4 m) (hm : m < 4294967296) (hpos : 0 < m)
    (hreader : s.craneOfReader f.src = some c) : takeScan f s = settle (scanCrane c m s) := by
  have hne : ¬m = 0 := by omega
  simp only [takeScan, hpayload, enc4, dec4_enc hm, if_neg hne, hreader]

/-- No ACTIVE CARRY is scanned. -/
theorem scanCrane_idle (h : ∀ o, (s.crane c).current = some o → o.state ≠ .active ∨ ∃ p, o.task = .travel p) :
    scanCrane c m s = s := by
  cases hcurrent : (s.crane c).current with
  | none => simp only [scanCrane, hcurrent]
  | some o =>
    cases htask : o.task with
    | travel p => simp only [scanCrane, hcurrent, htask]
    | carry src dst =>
      have hstate : ¬o.state = .active := (h o hcurrent).elim id fun ⟨p, hp⟩ => by rw [hp] at htask; cases htask
      simp only [scanCrane, hcurrent, htask, if_neg hstate]

theorem scanCrane_active {src : Source} {dst : Place} (hcurrent : (s.crane c).current = some o)
    (hstate : o.state = .active) (htask : o.task = .carry src dst) :
    scanCrane c m s = scanCarry c o src m (noteSeen c s) := by
  simp only [scanCrane, hcurrent, htask, if_pos hstate]

theorem step_scanCarry (src : Source) : CraneStep c s (scanCarry c o src m s) := by
  unfold scanCarry
  split
  · split
    · exact step_modCurrent _
    · exact raisedHalt_step _ _ _ _
  · split
    · exact step_modCurrent _
    · exact raisedHalt_step _ _ _ _
  · exact ((craneStep_lift c).bindMark o _ m s).trans (step_modCurrent _)
  · exact .refl c s

/-! ### The scan of an ACTIVE CARRY -/

/-- The crane whose order has been scanned. -/
def seenCrane (s : State) (c : Fin 4) (o : CraneOrder) : Crane :=
  { s.crane c with current := some { o with scanSeen := true } }

theorem noteSeen_handed (hcurrent : (s.crane c).current = some o) :
    noteSeen c (takeHanded f s) = craneSet f c (seenCrane s c o) s := by
  have hcrane : (takeHanded f s).crane c = s.crane c := rfl
  rw [noteSeen, modCurrent, modCrane, hcrane, hcurrent]
  rfl

theorem exec_scanned {src : Source} {dst : Place} (hrun : s.running = true) (hnone : s.noneWaiting)
    (hpayload : f.payload = enc4 m) (hm : m < 4294967296) (hpos : 0 < m)
    (hreader : s.craneOfReader f.src = some c) (hcurrent : (s.crane c).current = some o)
    (hstate : o.state = .active) (htask : o.task = .carry src dst) : exec (.hookScan f) s =
      .next (unnoted (scanCarry c o src m (craneSet f c (seenCrane s c o) s))) := by
  have hreader' : (takeHanded f s).craneOfReader f.src = some c := hreader
  have hcurrent' : ((takeHanded f s).crane c).current = some o := hcurrent
  have hexec : exec (.hookScan f) s = .next (takeScan f (takeHanded f s)) :=
    whenRunning_running s (fun v => takeScan f (takeHanded f v)) hrun
  have hstep : CraneStep c s (scanCarry c o src m (craneSet f c (seenCrane s c o) s)) :=
    craneSet_step.trans (step_scanCarry src)
  rw [hexec, scan_read hpayload hm hpos hreader', scanCrane_active hcurrent' hstate htask, noteSeen_handed hcurrent,
    hstep.settled hnone]

theorem scanCarry_fits (src : Source) (h : (o.binding = none ∧ o.mark = some m) ∨ o.binding = some (.bound m)) :
    scanCarry c o src m s = noteScanned c s := by
  rcases h with ⟨hbinding, hmark⟩ | hbinding
  · simp only [scanCarry, hbinding, if_pos hmark]
  · simp only [scanCarry, hbinding, if_pos]

theorem scanCarry_differs (src : Source)
    (h : (o.binding = none ∧ o.mark ≠ some m) ∨ ∃ b, o.binding = some (.bound b) ∧ b ≠ m) :
    scanCarry c o src m s = raise .hookMismatch (.crane c) (m : Int) (haltCrane c .hookMismatch s) := by
  rcases h with ⟨hbinding, hmark⟩ | ⟨b, hbinding, hb⟩
  · simp only [scanCarry, hbinding, if_neg hmark, scanMismatch, mismatch]
  · simp only [scanCarry, hbinding, if_neg hb, scanMismatch, mismatch]

theorem scanCarry_unbound (n : Fin 1024) (h : o.binding = some .unbound ∨ o.binding = some .failed) :
    scanCarry c o (.slot n) m s = noteIfBound c m (bindMark c o n m s) := by
  rcases h with h | h <;> simp only [scanCarry, h]

end

/-- Settles O48. -/
theorem hookScanJudged : Obligations.HookScanJudged := by
  unfold Obligations.HookScanJudged
  intro s f m hrun hnone hm hpayload
  have hexec : exec (.hookScan f) s = .next (takeScan f (takeHanded f s)) :=
    whenRunning_running s (fun v => takeScan f (takeHanded f v)) hrun
  have hnone' : (takeHanded f s).noneWaiting := hnone
  refine ⟨fun h => ?_, fun c hpos hreader => ⟨fun h => ?_, fun o src dst hcurrent hstate htask => ⟨fun h => ?_, fun h => ?_⟩,
    fun o n dst hcurrent hstate htask hbinding => ?_⟩⟩
  · rw [hexec, scan_unread (s := takeHanded f s) hpayload hm h]
  · have hreader' : (takeHanded f s).craneOfReader f.src = some c := hreader
    have hidle : scanCrane c m (takeHanded f s) = takeHanded f s := scanCrane_idle h
    rw [hexec, scan_read hpayload hm hpos hreader', hidle, settle_of_noneWaiting hnone']
  · rw [exec_scanned hrun hnone hpayload hm hpos hreader hcurrent hstate htask, scanCarry_fits src h, noteScanned,
      modCurrent_craneSet, unnoted_craneSet hnone]
    rfl
  · have hscan := exec_scanned hrun hnone hpayload hm hpos hreader hcurrent hstate htask
    rw [scanCarry_differs src h] at hscan
    have hset : CraneStep c s (craneSet f c (seenCrane s c o) s) := craneSet_step
    have hown : (craneSet f c (seenCrane s c o) s).crane c = seenCrane s c o := craneSet_own
    refine ⟨_, hscan, ?_, (hset.trans (raisedHalt_step _ _ _ _)).only hnone, raise_flagSet .., ?_, ?_⟩
    · rw [raisedHalt_own, hown]
      rfl
    · refine halted_sent (t := craneSet f c (seenCrane s c o) s) .hookMismatch .hookMismatch (.crane c) (m : Int)
        rfl rfl rfl rfl ?_
      rw [State.currentTag, State.currentTag, hown, hcurrent]
      rfl
    · apply state_eq <;> simp [unnoted, craneSet]
  · intro scan seen v
    rw [exec_scanned hrun hnone hpayload hm hpos hreader hcurrent hstate htask, scanCarry_unbound n hbinding]
    rfl

end Sys2Proof.ScanProofs
end

section
/-! SUPPORT. Answers, admissions and passes where the lanes have room (O42, O43, O49). -/
namespace Sys2Proof.PassProofs

open Sys2Proof Sys2Proof.Machine Sys2Proof.StepProofs Sys2Proof.RequestProofs Sys2Proof.FlagProofs
  Sys2Proof.LineProofs Sys2Proof.SettleProofs Sys2Proof.CraneRuleProofs

section
variable {s t u : State} {f : Frame} {c : Fin 4} {o x : CraneOrder} {pos n : Nat}

/-! ### Answers (8.4) -/

theorem answerTo_room (hroom : s.replyRoom) (head : Bytes) (a : Answer) : answerTo f head a s =
    withPlantFrame { dst := f.src, src := s.sup.station, kind := 0x07#8, seq := f.seq, flags := 0#8
                     payload := head ++ a.enc } s := by
  have hlane : s.laneRoom .pPort = true := decide_eq_true hroom
  rw [answerTo, offerNormal_room _ _ _ hlane]
  rfl

theorem answerOrder_room (hroom : s.replyRoom) (a : Answer) :
    answerOrder o a s = withPlantFrame (s.orderAnswer o.frame o.tag o.crane.val a) s :=
  answerTo_room hroom _ a

/-! ### Admission (R126) -/

/-- The opportunities an admission hands over: its claim's. -/
def claimCount (t : Task) : Nat := if t.destSlot = none then 0 else 1

/-- A count of opportunities set. -/
def withCount (n : Nat) (s : State) : State := { s with runway := { s.runway with opportunities := n } }

theorem unnoted_eq : unnoted s = withCount 0 s := rfl

theorem withCount_same (h : s.runway.opportunities = n) : withCount n s = s := by rw [withCount, ← h]

theorem admitOrder_eq (hpos : (s.crane o.crane).position = some pos) (hroom : s.replyRoom) (hring : s.ringRoom) :
    admitOrder o s = withCount (s.runway.opportunities + claimCount o.task) (s.afterAdmission o pos) := by
  have hclaimed : claimFor o.task (holdOrder o pos s) =
      withCount (s.runway.opportunities + claimCount o.task)
        { s with runway := (s.afterAdmission o pos).runway, stock := (s.afterAdmission o pos).stock } := by
    cases hdst : o.task.destSlot with
    | none =>
      simp only [claimFor, hdst, claimCount, if_true, State.afterAdmission]
      rfl
    | some n =>
      simp only [claimFor, hdst, claimCount, reduceCtorEq, if_false, State.afterAdmission]
      rfl
  have hlane : (claimFor o.task (holdOrder o pos s)).laneRoom .fPort = true := by
    rw [hclaimed]
    exact decide_eq_true hring
  rw [admitOrder, hpos, Option.getD_some, offerNormal_room _ _ _ hlane, hclaimed, answerOrder_room]
  · rfl
  · exact hroom

/-! ### A pass (R128) -/

theorem passOne_blocked {blocked : List (Fin 4)} (h : o.crane ∈ blocked) : passOne (blocked, s) o = (blocked, s) :=
  if_pos (by simpa using h)

theorem passOne_waits {blocked : List (Fin 4)} (h : o.crane ∉ blocked) (htrial : s.trial o = .wait) :
    passOne (blocked, s) o = (o.crane :: blocked, s) := by
  have hnot : ¬blocked.contains o.crane = true := by simpa using h
  simp only [passOne, if_neg hnot, htrial]

theorem passOne_refused {blocked : List (Fin 4)} {code : RefusalCode} (h : o.crane ∉ blocked)
    (htrial : s.trial o = .refused code) (hroom : s.replyRoom) : passOne (blocked, s) o = (blocked,
      withPlantFrame (s.orderAnswer o.frame o.tag o.crane.val (.refused code))
        (setWaiting (s.runway.waiting.erase o) s)) := by
  have hnot : ¬blocked.contains o.crane = true := by simpa using h
  have hanswer := answerOrder_room (s := unqueue o s) (o := o) hroom (.refused code)
  simp only [passOne, if_neg hnot, htrial, hanswer]
  rfl

theorem passOne_admitted {blocked : List (Fin 4)} (h : o.crane ∉ blocked) (htrial : s.trial o = .admitted)
    (hpos : (s.crane o.crane).position = some pos) (hroom : s.replyRoom) (hring : s.ringRoom) :
    passOne (blocked, s) o = (blocked, withCount (s.runway.opportunities + claimCount o.task)
      ((setWaiting (s.runway.waiting.erase o) s).afterAdmission o pos)) := by
  have hnot : ¬blocked.contains o.crane = true := by simpa using h
  have hadmission := admitOrder_eq (s := unqueue o s) (o := o) hpos hroom hring
  simp only [passOne, if_neg hnot, htrial, hadmission]
  rfl

/-- A pass in which every order waits, or stands behind one of its crane that waits. -/
theorem pass_waits (l : List CraneOrder) (blocked : List (Fin 4))
    (h : ∀ w ∈ l, s.trial w = .wait ∨ w.crane ∈ blocked) : (l.foldl passOne (blocked, s)).2 = s := by
  induction l generalizing blocked with
  | nil => rfl
  | cons w rest ih =>
    rw [List.foldl_cons]
    by_cases hb : w.crane ∈ blocked
    · rw [passOne_blocked hb]
      exact ih blocked fun y hy => h y (List.mem_cons_of_mem _ hy)
    · have hw : s.trial w = .wait := (h w List.mem_cons_self).resolve_right hb
      rw [passOne_waits hb hw]
      exact ih _ fun y hy => (h y (List.mem_cons_of_mem _ hy)).imp_right (List.mem_cons_of_mem _)

/-- A pass whose oldest order waits and whose others are of the same crane. -/
theorem pass_behind {rest : List CraneOrder} (hwait : s.trial o = .wait) (hrest : ∀ w ∈ rest, w.crane = o.crane) :
    ((o :: rest).foldl passOne ([], s)).2 = s := by
  rw [List.foldl_cons, passOne_waits (by simp) hwait]
  exact pass_waits rest _ fun w hw => .inr (by simp [hrest w hw])

/-! ### Opportunities taken -/

theorem settle_none (h : s.runway.opportunities = 0) : settle s = s := by
  have htake : ∀ n, takeOpportunities n s = s := by
    intro n
    cases n with
    | zero => rfl
    | succ n => rw [takeOpportunities, if_pos h]
  exact htake _

theorem takeOpportunity_one (h : s.runway.opportunities = 1) :
    takeOpportunity s = (s.runway.waiting.foldl passOne ([], unnoted s)).2 := by
  rw [takeOpportunity, h]
  rfl

theorem settle_one (h : s.runway.opportunities = 1) :
    settle s = takeOpportunities s.runway.waiting.length (takeOpportunity s) := by
  have hsome : ¬s.runway.opportunities = 0 := by omega
  rw [settle, h, Nat.add_comm, takeOpportunities, if_neg hsome]

/-- One opportunity whose pass leaves every order waiting. -/
theorem settle_passed (h : s.runway.opportunities = 1)
    (hpass : (s.runway.waiting.foldl passOne ([], unnoted s)).2 = unnoted s) : settle s = unnoted s := by
  rw [settle_one h, takeOpportunity_one h, hpass]
  cases s.runway.waiting.length with
  | zero => rfl
  | succ n => exact if_pos rfl

theorem settle_refused {code : RefusalCode} (h : s.runway.opportunities = 1) (hwaiting : s.runway.waiting = [o])
    (htrial : s.trial o = .refused code) (hroom : s.replyRoom) : settle s =
      withPlantFrame (s.orderAnswer o.frame o.tag o.crane.val (.refused code)) (setWaiting [] (unnoted s)) := by
  have hpass := passOne_refused (s := unnoted s) (o := o) (blocked := []) (by simp) htrial hroom
  have herase : (unnoted s).runway.waiting.erase o = [] := by
    have hsame : (unnoted s).runway.waiting = [o] := hwaiting
    rw [hsame, List.erase_cons_head]
  rw [herase] at hpass
  have htaken : takeOpportunity s = withPlantFrame (s.orderAnswer o.frame o.tag o.crane.val (.refused code))
      (setWaiting [] (unnoted s)) := by
    rw [takeOpportunity_one h, hwaiting, List.foldl_cons, hpass]
    rfl
  rw [settle_one h, htaken, takeOpportunities_idle _ rfl (Nat.zero_le _)]
  rfl

theorem settle_admitted (h : s.runway.opportunities = 1) (hwaiting : s.runway.waiting = [o])
    (htrial : s.trial o = .admitted) (hpos : (s.crane o.crane).position = some pos) (hroom : s.replyRoom)
    (hring : s.ringRoom) : settle s = (setWaiting [] (unnoted s)).afterAdmission o pos := by
  have hpass := passOne_admitted (s := unnoted s) (o := o) (blocked := []) (by simp) htrial hpos hroom hring
  have herase : (unnoted s).runway.waiting.erase o = [] := by
    have hsame : (unnoted s).runway.waiting = [o] := hwaiting
    rw [hsame, List.erase_cons_head]
  rw [herase] at hpass
  have htaken : takeOpportunity s = withCount ((unnoted s).runway.opportunities + claimCount o.task)
      ((setWaiting [] (unnoted s)).afterAdmission o pos) := by
    rw [takeOpportunity_one h, hwaiting, List.foldl_cons, hpass]
    rfl
  have hcount : (unnoted s).runway.opportunities + claimCount o.task ≤ 1 := by
    have hzero : (unnoted s).runway.opportunities = 0 := rfl
    rw [hzero, claimCount]
    split <;> omega
  rw [settle_one h, htaken, hwaiting, takeOpportunities_idle _ rfl hcount]
  rfl

end

end Sys2Proof.PassProofs
end

section
/-! The expiries of the runway unit (O49). -/
namespace Sys2Proof.ExpiryProofs

open Sys2Proof Sys2Proof.Machine Sys2Proof.StepProofs Sys2Proof.RequestProofs Sys2Proof.FlagProofs
  Sys2Proof.LineProofs Sys2Proof.SettleProofs Sys2Proof.CraneRuleProofs Sys2Proof.FinishProofs Sys2Proof.PassProofs

section
variable {s t u : State} {c : Fin 4} {o x : CraneOrder} {tag pos : Nat} {older younger : List CraneOrder}

/-! ### SILENCE_EXPIRY (R120) -/

theorem exec_silence (hrun : s.running = true) : exec (.silenceExpiry c) s = .next (settle (loseCrane c s)) :=
  whenRunning_running s (fun v => settle (loseCrane c v)) hrun

theorem silenceIdle (hrun : s.running = true) (hzero : s.runway.opportunities = 0)
    (h : (s.crane c).presence ≠ .reporting ∨ 0 < (s.crane c).silence) : exec (.silenceExpiry c) s = .next s := by
  have hnot : ¬((s.crane c).presence = .reporting ∧ (s.crane c).silence = 0) := by
    rintro ⟨hreporting, hsilence⟩
    exact h.elim (· hreporting) (by omega)
  rw [exec_silence hrun, loseCrane, if_neg hnot, settle_none hzero]

theorem craneLost (hrun : s.running = true) (hnone : s.noneWaiting) (hpresence : (s.crane c).presence = .reporting)
    (hsilence : (s.crane c).silence = 0) :
    ∃ t, exec (.silenceExpiry c) s = .next t
      ∧ t.crane c = { s.crane c with presence := .lost, silence := 0 } ∧ s.onlyCrane t c
      ∧ (t.cause .craneLost).flag = true
      ∧ t = { s with line := t.line, runway := t.runway, notice := t.notice } := by
  have hstep : CraneStep c s (loseCrane c s) := by
    rw [loseCrane, if_pos ⟨hpresence, hsilence⟩]
    exact ((step_modCrane _).trans (step_raise _ _ _)).trans step_noteOpportunity
  have hexec := exec_silence (c := c) hrun
  have honly := hstep.only hnone
  rw [hstep.settled hnone] at hexec
  rw [loseCrane, if_pos ⟨hpresence, hsilence⟩] at hexec honly
  refine ⟨_, hexec, ?_, honly, raise_flagSet .craneLost .., ?_⟩
  · have hcrane := modCrane_crane s c (fun k => { k with presence := .lost, silence := 0 }) c
    rw [if_pos rfl] at hcrane
    rw [← hcrane]
    exact crane_congr (s := modCrane c (fun k => { k with presence := .lost, silence := 0 }) s)
      (t := raise .craneLost (.crane c) (((s.crane c).position.getD 0 : Nat) : Int)
        (modCrane c (fun k => { k with presence := .lost, silence := 0 }) s)) (raise_keeps ..).2.2.2.2.2.2.1 c
  · apply state_eq <;> simp [unnoted]

/-! ### WAIT_EXPIRY (R128, R129) -/

theorem exec_wait (hrun : s.running = true) : exec (.waitExpiry c tag) s = .next (settle (expireWait c tag s)) :=
  whenRunning_running s (fun v => settle (expireWait c tag v)) hrun

theorem expireWait_unknown (h : ∀ o ∈ s.runway.waiting, o.crane ≠ c ∨ o.tag ≠ tag) : expireWait c tag s = s := by
  have hfind : (s.runway.waiting.find? fun w => w.crane = c && w.tag = tag) = none := by
    rw [List.find?_eq_none]
    intro w hw
    rcases h w hw with hne | hne <;> simp [hne]
  simp only [expireWait, hfind]

theorem find_waiting (h : s.runway.waiting = older ++ o :: younger) (hcrane : o.crane = c)
    (holder : ∀ w ∈ older, w.crane ≠ c ∨ w.tag ≠ o.tag) :
    (s.runway.waiting.find? fun w => w.crane = c && w.tag = o.tag) = some o := by
  have hnone : (older.find? fun w => w.crane = c && w.tag = o.tag) = none := by
    rw [List.find?_eq_none]
    intro w hw
    rcases holder w hw with hne | hne <;> simp [hne]
  rw [h, List.find?_append, hnone, Option.none_or, List.find?_cons_of_pos]
  simp [hcrane]

theorem erase_waiting (h : s.runway.waiting = older ++ o :: younger) (hcrane : o.crane = c)
    (holder : ∀ w ∈ older, w.crane ≠ c ∨ w.tag ≠ o.tag) : s.runway.waiting.erase o = older ++ younger := by
  have hnot : o ∉ older := fun hmem => (holder o hmem).elim (· hcrane) (· rfl)
  rw [h, List.erase_append_right _ hnot, List.erase_cons_head]

/-- The state of a waiting order refused WAIT_EXPIRED and removed, before its pass. -/
def expired (s : State) (o : CraneOrder) (left : List CraneOrder) : State :=
  withPlantFrame (s.orderAnswer o.frame o.tag o.crane.val (.refused .waitExpired)) (setWaiting left s)

theorem expireWait_found (h : s.runway.waiting = older ++ o :: younger) (hzero : s.runway.opportunities = 0)
    (hcrane : o.crane = c) (holder : ∀ w ∈ older, w.crane ≠ c ∨ w.tag ≠ o.tag) (htimer : o.waitTimer = 0)
    (hroom : s.replyRoom) : expireWait c o.tag s = withCount 1 (expired s o (older ++ younger)) := by
  have hanswer := answerOrder_room (s := unqueue o s) (o := o) hroom (.refused .waitExpired)
  have hunqueue : unqueue o s = setWaiting (older ++ younger) s := by
    rw [unqueue, erase_waiting h hcrane holder]
  simp only [expireWait, find_waiting h hcrane holder, if_pos htimer, hanswer]
  rw [hunqueue, noteOpportunity]
  have hcount : (withPlantFrame (s.orderAnswer o.frame o.tag o.crane.val (.refused .waitExpired))
      (setWaiting (older ++ younger) s)).runway.opportunities = 0 := hzero
  have horder : (setWaiting (older ++ younger) s).orderAnswer = s.orderAnswer := rfl
  rw [horder, hcount]
  rfl

theorem waitExpired (hrun : s.running = true) (h : s.runway.waiting = older ++ o :: younger)
    (hzero : s.runway.opportunities = 0) (hcrane : o.crane = c)
    (holder : ∀ w ∈ older, w.crane ≠ c ∨ w.tag ≠ o.tag) (htimer : o.waitTimer = 0) (hroom : s.replyRoom) :
    let u := expired s o (older ++ younger)
    exec (.waitExpiry c o.tag) s = .next (settle (withCount 1 u))
      ∧ ((∀ x ∈ older ++ younger, u.trial x = .wait) → exec (.waitExpiry c o.tag) s = .next u)
      ∧ (∀ x, older ++ younger = [x] → u.replyRoom →
          (∀ code, u.trial x = .refused code → exec (.waitExpiry c o.tag) s =
            .next (withPlantFrame (u.orderAnswer x.frame x.tag x.crane.val (.refused code)) (setWaiting [] u)))
          ∧ (∀ pos, u.trial x = .admitted → (u.crane x.crane).position = some pos → u.ringRoom →
              exec (.waitExpiry c o.tag) s = .next ((setWaiting [] u).afterAdmission x pos))) := by
  intro u
  have hexec : exec (.waitExpiry c o.tag) s = .next (settle (withCount 1 u)) := by
    rw [exec_wait hrun, expireWait_found h hzero hcrane holder htimer hroom]
  have hone : (withCount 1 u).runway.opportunities = 1 := rfl
  have hback : unnoted (withCount 1 u) = u := withCount_same (s := u) hzero
  have hleft : (withCount 1 u).runway.waiting = older ++ younger := rfl
  have hleft' : u.runway.waiting = older ++ younger := rfl
  have htrial : ∀ y, (withCount 1 u).trial y = u.trial y := fun _ => rfl
  have hcranes : ∀ d, (withCount 1 u).crane d = u.crane d := fun _ => rfl
  have hanswer : (withCount 1 u).orderAnswer = u.orderAnswer := rfl
  have hrooms : (withCount 1 u).replyRoom = u.replyRoom := rfl
  have hrings : (withCount 1 u).ringRoom = u.ringRoom := rfl
  clear_value u
  refine ⟨hexec, fun hwait => ?_, fun y hy hroom' => ⟨fun code hcode => ?_, fun at_ hgrant hpos hring => ?_⟩⟩
  · rw [hexec, settle_passed hone, hback]
    rw [hleft, hback]
    exact pass_waits _ _ fun w hw => .inl (hwait w hw)
  · rw [hexec, settle_refused hone (hleft.trans hy) ((htrial y).trans hcode) (hrooms ▸ hroom'), hback, hanswer]
  · rw [hexec, settle_admitted hone (hleft.trans hy) ((htrial y).trans hgrant) ((hcranes _).symm ▸ hpos)
      (hrooms ▸ hroom') (hrings ▸ hring), hback]

theorem waitRuns (hrun : s.running = true) (h : s.runway.waiting = older ++ o :: younger)
    (hzero : s.runway.opportunities = 0) (hcrane : o.crane = c)
    (holder : ∀ w ∈ older, w.crane ≠ c ∨ w.tag ≠ o.tag) (htimer : 0 < o.waitTimer) :
    exec (.waitExpiry c o.tag) s = .next s := by
  have hruns : ¬o.waitTimer = 0 := by omega
  rw [exec_wait hrun]
  simp only [expireWait, find_waiting h hcrane holder, if_neg hruns, settle_none hzero]

/-! ### ORDER_LAPSE (R129) -/

theorem exec_lapse (hrun : s.running = true) : exec (.orderLapse c) s = .next (settle (lapseOrder c s)) :=
  whenRunning_running s (fun v => settle (lapseOrder c v)) hrun

theorem lapseIdle (hrun : s.running = true) (hzero : s.runway.opportunities = 0)
    (h : ∀ o, (s.crane c).current = some o → o.state ≠ .admitted ∨ 0 < o.startTimer) :
    exec (.orderLapse c) s = .next s := by
  have hsame : lapseOrder c s = s := by
    cases hcurrent : (s.crane c).current with
    | none => simp only [lapseOrder, hcurrent]
    | some o =>
      have hnot : ¬(o.state = .admitted ∧ o.startTimer = 0) := fun ⟨hstate, htimer⟩ =>
        (h o hcurrent).elim (· hstate) (by omega)
      simp only [lapseOrder, hcurrent, if_neg hnot]
  rw [exec_lapse hrun, hsame, settle_none hzero]

/-- A frame in the lane of port P stays there when a cause is raised. -/
theorem mem_raise {f : Frame} (h : f ∈ s.line.portP.normal) (e : Cause) (v : Subject) (n : Int) :
    f ∈ (raise e v n s).line.portP.normal := by
  have hrecord : (recordCause e v n 0 s).line = s.line := (recordCause_keeps ..).1
  rw [raise, raise2]
  generalize recordCause e v n 0 s = w at *
  rw [← hrecord] at h
  unfold offerNotice
  split
  · split
    · exact h
    · exact List.mem_append_left _ h
  · exact h

theorem orderLapsed (hrun : s.running = true) (hnone : s.noneWaiting) (hcurrent : (s.crane c).current = some o)
    (hstate : o.state = .admitted) (htimer : o.startTimer = 0) (hroom : s.replyRoom) :
    ∃ t, exec (.orderLapse c) s = .next t
      ∧ t.crane c = (s.crane c).ended (s.crane c).hook ∧ s.onlyCrane t c
      ∧ (∀ n, t.slot n = if o.task.destSlot = some n then
            { s.slot n with claims := (s.slot n).claims - 1 } else s.slot n)
      ∧ t.stock = { s.stock with slots := t.stock.slots }
      ∧ s.orderAnswer o.frame o.tag o.crane.val .lapsed ∈ t.line.portP.normal
      ∧ (t.cause .orderLapsed).flag = true
      ∧ t = { s with line := t.line, stock := t.stock, runway := t.runway
                     notice := t.notice } := by
  have hslot := fun n => releaseFor_slot (s := s) o.task n
  have hcrane := releaseFor_crane (s := s) o.task c
  have hreleased : CraneStep c s (releaseFor o.task s) := step_releaseFor o.task
  obtain ⟨x, n, honly⟩ := releaseFor_only (s := s) o.task
  have hlapse : lapseOrder c s = raise .orderLapsed (.crane c) o.tag
      (answerOrder o .lapsed (endOrder c (releaseFor o.task s))) := by
    simp only [lapseOrder, hcurrent]
    exact if_pos ⟨hstate, htimer⟩
  have hline : (endOrder c (releaseFor o.task s)).line = s.line := by simp
  have hrest : ∃ r, endOrder c (releaseFor o.task s) = { s with stock := { s.stock with slots := x }, runway := r } :=
    ⟨_, by rw [honly, endOrder]; rfl⟩
  have hown := endOrder_own (s := releaseFor o.task s) (c := c)
  rw [hcrane] at hown
  have hslots : ∀ n, (endOrder c (releaseFor o.task s)).slot n = (releaseFor o.task s).slot n := fun _ => rfl
  have hstep : CraneStep c s (endOrder c (releaseFor o.task s)) := hreleased.trans step_endOrder
  have hanswered : (endOrder c (releaseFor o.task s)).orderAnswer = s.orderAnswer := by
    obtain ⟨r, hr⟩ := hrest
    rw [hr]
    rfl
  generalize endOrder c (releaseFor o.task s) = v at *
  have hroom' : v.replyRoom := by rw [State.replyRoom, hline]; exact hroom
  rw [answerOrder_room hroom', hanswered] at hlapse
  have hexec := exec_lapse (c := c) hrun
  have hstep' : CraneStep c s (lapseOrder c s) := by
    rw [hlapse]
    refine CraneStep.trans ?_ (step_raise _ _ _)
    exact hstep.trans (.of_runway rfl)
  have honlyCrane := hstep'.only hnone
  rw [hstep'.settled hnone] at hexec
  rw [hlapse] at hexec honlyCrane
  have hmem : s.orderAnswer o.frame o.tag o.crane.val .lapsed ∈
      (withPlantFrame (s.orderAnswer o.frame o.tag o.crane.val .lapsed) v).line.portP.normal :=
    List.mem_append_right _ List.mem_cons_self
  have hflag := raise_flagSet .orderLapsed (.crane c) (o.tag : Int)
    (withPlantFrame (s.orderAnswer o.frame o.tag o.crane.val .lapsed) v)
  have hkeeps := raise_keeps (withPlantFrame (s.orderAnswer o.frame o.tag o.crane.val .lapsed) v)
    .orderLapsed (.crane c) (o.tag : Int)
  have hraised := mem_raise hmem .orderLapsed (.crane c) (o.tag : Int)
  generalize raise .orderLapsed (.crane c) (o.tag : Int)
    (withPlantFrame (s.orderAnswer o.frame o.tag o.crane.val .lapsed) v) = w at *
  obtain ⟨hprobe, hcuring, hheat, hbed, hpiece, hstock, hrunway, hmgmt, hsup, hfree, hpending⟩ := hkeeps
  have hcranes : (unnoted w).crane c = v.crane c := crane_congr (s := v) (t := w) hrunway c
  have hslotsw : ∀ n, (unnoted w).slot n = v.slot n := fun n => by
    have hsame : (unnoted w).stock = v.stock := hstock
    rw [State.slot, State.slot, hsame]
  refine ⟨unnoted w, hexec, hcranes.trans hown, honlyCrane, fun n => ?_, ?_, hraised, hflag, ?_⟩
  · rw [hslotsw, hslots, hslot]
  all_goals obtain ⟨r, rfl⟩ := hrest
  · have hw : (unnoted w).stock = { s.stock with slots := x } := hstock
    rw [hw]
  · apply state_eq <;> simp [unnoted, hprobe, hcuring, hheat, hbed, hpiece, hmgmt, hsup, hfree, hpending, withPlantFrame]

end

/-- Settles O49. -/
theorem runwayExpiries : Obligations.RunwayExpiries := by
  unfold Obligations.RunwayExpiries
  intro s c hrun
  refine ⟨craneLost hrun, silenceIdle hrun, fun older o younger h hzero hcrane holder =>
    ⟨waitRuns hrun h hzero hcrane holder, fun htimer hroom => ?_⟩, fun tag hzero h => ?_,
    fun o hnone hcurrent hstate htimer hroom => orderLapsed hrun hnone hcurrent hstate htimer hroom,
    lapseIdle hrun⟩
  · intro u
    subst hcrane
    exact waitExpired hrun h hzero rfl holder htimer hroom
  · rw [exec_wait hrun, expireWait_unknown h, settle_none hzero]

end Sys2Proof.ExpiryProofs
end

section
/-! ORDER (O42). -/
namespace Sys2Proof.OrderProofs

open Sys2Proof Sys2Proof.Machine Sys2Proof.StepProofs Sys2Proof.RequestProofs Sys2Proof.FlagProofs
  Sys2Proof.LineProofs Sys2Proof.SettleProofs Sys2Proof.RunwayLawProofs Sys2Proof.CraneRuleProofs
  Sys2Proof.PassProofs

section
variable {s t u : State} {f : Frame} {c : Fin 4} {o : CraneOrder} {x : OrderFields} {task : Task}
  {ml : Option (Fin 16 × Fin 8)} {pos : Nat}

theorem exec_order (hrun : s.running = true) : exec (.order f) s = .next (settle (takeOrder f (takeHanded f s))) :=
  whenRunning_running s (fun v => settle (takeOrder f (takeHanded f v))) hrun

/-! ### Form checks (R124) -/

theorem refuseForm_room (hlength : 3 ≤ f.payload.length) (hroom : s.replyRoom) (code : RefusalCode) :
    refuseForm f code s = withPlantFrame
      { dst := f.src, src := s.sup.station, kind := 0x07#8, seq := f.seq, flags := 0#8
        payload := f.payload.take 3 ++ [3#8, code.code, 0#8] } s := by
  have hhead : answerHead f s = f.payload.take 3 := if_pos hlength
  have hfree : 3 - f.payload.length = 0 := by omega
  rw [refuseForm, hhead, answerTo_room hroom, hfree]
  rfl

theorem exec_refused (hrun : s.running = true) (hzero : s.runway.opportunities = 0) (hlength : 3 ≤ f.payload.length)
    (hroom : s.replyRoom) {code : RefusalCode} (h : takeOrder f (takeHanded f s) = refuseForm f code (takeHanded f s)) :
    exec (.order f) s = .next (withPlantFrame
      { dst := f.src, src := s.sup.station, kind := 0x07#8, seq := f.seq, flags := 0#8
        payload := f.payload.take 3 ++ [3#8, code.code, 0#8] } (takeHanded f s)) := by
  have hroom' : (takeHanded f s).replyRoom := hroom
  rw [exec_order hrun, h, refuseForm_room hlength hroom']
  exact congrArg _ (settle_none hzero)

theorem takeOrder_formed (hconfigured : s.mgmt.configured = true) (hparse : parseOrder f.payload = some x)
    (hform : s.formCheck x = some (task, ml)) (hcrane : s.orderCrane f x = some c) :
    takeOrder f (takeHanded f s) = takeFormed f x c task ml (takeHanded f s) := by
  have hconfigured' : (takeHanded f s).mgmt.configured = true := hconfigured
  have hform' : (takeHanded f s).formCheck x = some (task, ml) := hform
  have hcrane' : (takeHanded f s).orderCrane f x = some c := hcrane
  simp only [takeOrder, hconfigured', hparse, hform', hcrane', Bool.not_true, Bool.false_eq_true, if_false]

/-! ### The trial of a new order (R125, R127) -/

theorem exec_tried (hrun : s.running = true) (hconfigured : s.mgmt.configured = true)
    (hparse : parseOrder f.payload = some x) (hform : s.formCheck x = some (task, ml))
    (hcrane : s.orderCrane f x = some c) (hnew : s.liveOrder c x.tag = none) :
    exec (.order f) s = .next (settle (tryOrder
      { frame := f, crane := c, tag := x.tag, mark := if x.mark = 0 then none else some x.mark
        markLine := ml, task := task } (takeHanded f s))) := by
  have hnew' : (takeHanded f s).liveOrder c x.tag = none := hnew
  rw [exec_order hrun, takeOrder_formed hconfigured hparse hform hcrane]
  simp only [takeFormed, hnew']

theorem tryOrder_refused {code : RefusalCode} (h : s.trial o = .refused code) :
    tryOrder o s = answerOrder o (.refused code) s := by
  simp only [tryOrder, h]

theorem any_crane : (s.runway.waiting.any fun w => w.crane = o.crane) = true ↔
    s.runway.waiting.filter (fun w => w.crane = o.crane) ≠ [] := by
  simp only [List.any_eq_true, decide_eq_true_eq, ne_eq, List.filter_eq_nil_iff, not_forall, not_not, exists_prop]

theorem tryOrder_waits (h : s.trial o = .wait ∨
    (s.trial o = .admitted ∧ s.runway.waiting.filter (fun w => w.crane = o.crane) ≠ [])) :
    tryOrder o s = enqueueOrder o s := by
  rcases h with htrial | ⟨htrial, hmine⟩
  · simp only [tryOrder, htrial]
  · simp only [tryOrder, htrial, if_pos (any_crane.2 hmine)]

theorem tryOrder_admitted (htrial : s.trial o = .admitted)
    (hmine : s.runway.waiting.filter (fun w => w.crane = o.crane) = []) : tryOrder o s = admitOrder o s := by
  simp only [tryOrder, htrial, if_neg (fun h => any_crane.1 h hmine)]

theorem enqueue_full (h : 16 ≤ s.runway.waiting.length
    ∨ 4 ≤ (s.runway.waiting.filter fun w => w.crane = o.crane).length) :
    enqueueOrder o s = answerOrder o (.refused .queueFull) s := if_pos h

theorem enqueue_unlimited (h : ¬(16 ≤ s.runway.waiting.length
    ∨ 4 ≤ (s.runway.waiting.filter fun w => w.crane = o.crane).length)) (hlimit : s.runway.waitLimit = 0) :
    enqueueOrder o s = answerOrder o (.refused .waitExpired) s := (if_neg h).trans (if_pos hlimit)

theorem enqueue_waits (h : ¬(16 ≤ s.runway.waiting.length
    ∨ 4 ≤ (s.runway.waiting.filter fun w => w.crane = o.crane).length)) (hlimit : 0 < s.runway.waitLimit) :
    enqueueOrder o s = answerOrder o .waiting
      (setWaiting (s.runway.waiting ++ [{ o with waitTimer := s.runway.waitLimit }]) s) :=
  (if_neg h).trans (if_neg (by omega))

/-- A trial that admits finds the crane at a position. -/
theorem admitted_position (h : s.trial o = .admitted) : ∃ pos, (s.crane o.crane).position = some pos := by
  unfold State.trial at h
  dsimp only at h
  split at h
  · cases h
  · split at h
    · cases h
    · split at h
      · cases h
      · cases h
      · next pos hpos _ => exact ⟨pos, hpos⟩

/-- An order answered, and nothing left for a pass. -/
theorem answered_settled (hroom : s.replyRoom) (hzero : s.runway.opportunities = 0) (a : Answer) :
    settle (answerOrder o a s) = withPlantFrame (s.orderAnswer o.frame o.tag o.crane.val a) s := by
  rw [answerOrder_room hroom]
  exact settle_none (s := withPlantFrame (s.orderAnswer o.frame o.tag o.crane.val a) s) hzero

/-- An order admitted, with no order waiting or no claim taken. -/
theorem admitted_settled (hpos : (s.crane o.crane).position = some pos) (hroom : s.replyRoom) (hring : s.ringRoom)
    (hzero : s.runway.opportunities = 0) (hquiet : o.task.destSlot = none ∨ s.runway.waiting = []) :
    settle (admitOrder o s) = s.afterAdmission o pos := by
  rw [admitOrder_eq hpos hroom hring]
  have hsame : withCount 0 (s.afterAdmission o pos) = s.afterAdmission o pos :=
    withCount_same (s := s.afterAdmission o pos) hzero
  rcases hquiet with hdst | hnone
  · have hcount : s.runway.opportunities + claimCount o.task = 0 := by rw [hzero, claimCount, if_pos hdst]
    rw [hcount, hsame]
    exact settle_none (s := s.afterAdmission o pos) hzero
  · rw [settle_idle (s := withCount (s.runway.opportunities + claimCount o.task) (s.afterAdmission o pos)) hnone]
    exact hsame

theorem afterAdmission_slot (n : Fin 1024) : (s.afterAdmission o pos).slot n =
    if o.task.destSlot = some n then { s.slot n with claims := (s.slot n).claims + 1 } else s.slot n := by
  cases hdst : o.task.destSlot with
  | none =>
    have hstock : (s.afterAdmission o pos).stock = s.stock := by simp only [State.afterAdmission, hdst]
    rw [State.slot, State.slot, hstock, if_neg (by simp)]
  | some k =>
    have hstock : (s.afterAdmission o pos).stock = (modSlot k (fun x => { x with claims := x.claims + 1 }) s).stock := by
      simp only [State.afterAdmission, hdst] <;> rfl
    have hslot := modSlot_slot (s := s) k (fun x => { x with claims := x.claims + 1 }) n
    rw [State.slot, ← hstock, ← State.slot] at hslot
    simp only [hslot, Option.some.injEq]
    by_cases hn : n = k
    · rw [if_pos hn, if_pos hn.symm, hn]
    · rw [if_neg hn, if_neg (Ne.symm hn)]

theorem afterAdmission_stock :
    (s.afterAdmission o pos).stock = { s.stock with slots := (s.afterAdmission o pos).stock.slots } := by
  cases hdst : o.task.destSlot <;> simp only [State.afterAdmission, hdst]

theorem afterAdmission_crane (d : Fin 4) : (s.afterAdmission o pos).crane d =
    if d = o.crane then { s.crane o.crane with
      reservation := some (s.orderSpan o.crane pos o.task), control := .ordered
      current := some { o with
        state := .admitted, waitTimer := 0, startTimer := s.runway.startWindow
        span := some (s.orderSpan o.crane pos o.task), loadedSpan := s.orderLoaded o.crane pos o.task
        binding := if s.isCensus o.task = true then some .unbound else none
        stamp := (s.sup.station, nextGrant s.runway.grantNumber) } }
    else s.crane d :=
  tget_tset ..

end

/-- Settles O42. -/
theorem orderOutcomes : Obligations.OrderOutcomes := by
  unfold Obligations.OrderOutcomes
  intro s f hrun hzero hlength refused
  refine ⟨fun hroom => ⟨fun hconfigured => ?_, fun hconfigured => ⟨fun hparse => ?_, fun x hparse hform => ?_,
    fun x y hparse hform hcrane => ?_⟩⟩, fun x task ml c hconfigured hparse hform hcrane hnew hroom => ?_⟩
  · refine exec_refused hrun hzero hlength hroom (code := .notConfigured) ?_
    have hconfigured' : (takeHanded f s).mgmt.configured = false := hconfigured
    simp only [takeOrder, hconfigured', Bool.not_false, if_true]
  · refine exec_refused hrun hzero hlength hroom (code := .badOrder) ?_
    have hconfigured' : (takeHanded f s).mgmt.configured = true := hconfigured
    simp only [takeOrder, hconfigured', hparse, Bool.not_true, Bool.false_eq_true, if_false]
  · refine exec_refused hrun hzero hlength hroom (code := .badOrder) ?_
    have hconfigured' : (takeHanded f s).mgmt.configured = true := hconfigured
    have hform' : (takeHanded f s).formCheck x = none := hform
    simp only [takeOrder, hconfigured', hparse, hform', Bool.not_true, Bool.false_eq_true, if_false]
  · refine exec_refused hrun hzero hlength hroom (code := .unknownCrane) ?_
    have hconfigured' : (takeHanded f s).mgmt.configured = true := hconfigured
    have hform' : (takeHanded f s).formCheck x = some y := hform
    have hcrane' : (takeHanded f s).orderCrane f x = none := hcrane
    simp only [takeOrder, hconfigured', hparse, hform', hcrane', Bool.not_true, Bool.false_eq_true, if_false]
  · intro o answer mine full waits
    have hexec : exec (.order f) s = .next (settle (tryOrder o (takeHanded f s))) :=
      exec_tried hrun hconfigured hparse hform hcrane hnew
    have hroom' : (takeHanded f s).replyRoom := hroom
    have hzero' : (takeHanded f s).runway.opportunities = 0 := hzero
    have hwaits : waits → tryOrder o (takeHanded f s) = enqueueOrder o (takeHanded f s) :=
      fun h => tryOrder_waits (s := takeHanded f s) h
    refine ⟨fun code hcode => ?_, fun h hfull => ?_, fun h hfull hlimit => ?_, fun h hfull hlimit => ?_,
      fun htrial hmine hquiet hring => ?_⟩
    · rw [hexec, tryOrder_refused (s := takeHanded f s) hcode, answered_settled hroom' hzero']
      rfl
    · rw [hexec, hwaits h, enqueue_full (s := takeHanded f s) (o := o) hfull, answered_settled hroom' hzero']
      rfl
    · rw [hexec, hwaits h, enqueue_unlimited (s := takeHanded f s) (o := o) hfull hlimit, answered_settled hroom' hzero']
      rfl
    · rw [hexec, hwaits h, enqueue_waits (s := takeHanded f s) (o := o) hfull hlimit, answered_settled]
      · rfl
      · exact hroom'
      · exact hzero'
    · intro g
      have htrial' : (takeHanded f s).trial o = .admitted := htrial
      obtain ⟨pos, hpos⟩ := admitted_position htrial'
      have hmine' : (takeHanded f s).runway.waiting.filter (fun w => w.crane = o.crane) = [] := hmine
      rw [tryOrder_admitted htrial' hmine', admitted_settled hpos hroom' hring hzero' hquiet] at hexec
      have hcranes := fun d => afterAdmission_crane (s := takeHanded f s) (o := o) (pos := pos) d
      refine ⟨_, pos, hexec, hpos, ?_, fun d hd => ?_, rfl, fun n => ?_, afterAdmission_stock, rfl, rfl⟩
      · exact (hcranes c).trans (if_pos rfl)
      · exact (hcranes d).trans (if_neg hd)
      · exact afterAdmission_slot (s := takeHanded f s) (o := o) (pos := pos) n

end Sys2Proof.OrderProofs
end

section
/-! SUPPORT. The tests of a trial, each with what it says of the state (O43, R107, R108, R125). -/
namespace Sys2Proof.TrialProofs

open Sys2Proof Sys2Proof.Machine Sys2Proof.StepProofs Sys2Proof.TableProofs

section
variable {s : State} {o : CraneOrder} {src : Source} {dst : Place} {pos : Nat}

/-! ### What the tests ask of the state -/

/-- The order is a census order now (R113). -/
def Census (s : State) (o : CraneOrder) : Prop := ∃ n dst a, o.task = .carry (.slot n) dst
  ∧ s.areaOf n.val = some a ∧ (s.area a).inCensus = true

/-- The piece is known, in place and of no other crane, or a census looks for it (R125, step 5). -/
def PieceHere (s : State) (o : CraneOrder) (src : Source) : Prop :=
  (∀ p, o.mark.bind s.findPiece = some p → ¬s.namedByOrder p.mark
    ∧ (∀ c, c ≠ o.crane → (s.crane c).hook ≠ some p.mark)
    ∧ ∀ b, src = .bed b → p.state = .onBed ∧ p.location = .bed b)
  ∧ (o.mark.bind s.findPiece = none → Census s o)

/-- The bed of a CARRY from a bed is STRIPPING (R125, step 6). -/
def BedReady (s : State) (src : Source) : Prop := ∀ b, src = .bed b → (s.bedRec b).state = .stripping

/-- The piece may be picked from its slot, or is on the hook (R108; R125, steps 7 and 8). -/
def Picks (s : State) (o : CraneOrder) (src : Source) : Prop :=
  (∀ n, src = .slot n → Census s o ∨ ∃ m p v, o.mark = some m ∧ s.findPiece m = some p
    ∧ p.state = .inStock ∧ p.location = .slot n v ∧ (s.slot n).stack.getLast? = some m
    ∧ ¬s.namedByOrder m)
  ∧ (src = .hook → ∃ m, o.mark = some m ∧ (s.crane o.crane).hook = some m)

/-- The destination takes the piece (R107; R125, steps 9 and 10). -/
def Lands (s : State) (o : CraneOrder) (dst : Place) : Prop :=
  (∀ y, dst = .bay y → ∃ p, o.mark.bind s.findPiece = some p ∧ p.ready = true)
  ∧ (∀ n, dst = .slot n → ∃ a, s.areaOf n.val = some a ∧ s.inService (groupOf n) = true
      ∧ (s.area a).dispatchOnly = false ∧ (s.area a).classes.getLsbD (s.orderClass o).val = true
      ∧ (s.slot n).stack.length + (s.slot n).claims < (s.area a).heightLimit)

/-- The ground under the span is open (R125, step 4). -/
def OpenAt (s : State) (o : CraneOrder) (pos : Nat) : Prop :=
  ∀ r, (s.region r).enabled = true → (s.region r).kind = .closed →
    (s.orderSpan o.crane pos o.task).overlaps { lo := (s.region r).start, hi := (s.region r).stop } = false

/-- The crane is FREE and nothing stands in its way (R125, steps 11 to 13). -/
def ClearAt (s : State) (o : CraneOrder) (pos : Nat) : Prop :=
  (s.crane o.crane).control = .free
    ∧ (∀ c, c ≠ o.crane → ∀ i, (s.crane c).reservation = some i ∨ (s.crane c).envelope = some i →
        i.overlaps (s.orderSpan o.crane pos o.task) = false)
    ∧ (∀ l, s.orderLoaded o.crane pos o.task = some l →
        (∀ r, (s.region r).enabled = true → (s.region r).kind = .noLoad →
          l.overlaps { lo := (s.region r).start, hi := (s.region r).stop } = false)
        ∧ (∀ b, s.noLoadBed b = true → l.overlaps (s.bedSpan b) = false))

/-! ### The tests read as such -/

theorem namedLive_iff (m : Nat) : s.namedLive m = true ↔ s.namedByOrder m := by
  simp only [State.namedLive, List.any_eq_true, mem_indexes, true_and]
  refine exists_congr fun c => ?_
  cases (s.crane c).current with
  | none => simp
  | some x => simp [CraneOrder.concerns]

theorem hookElsewhere_iff (c : Fin 4) (m : Nat) :
    s.hookElsewhere c m = true ↔ ∃ d, d ≠ c ∧ (s.crane d).hook = some m := by
  simp [State.hookElsewhere, mem_indexes]

theorem isCensus_iff : s.isCensus o.task = true ↔ Census s o := by
  unfold Census
  cases htask : o.task with
  | travel p => simp [State.isCensus]
  | carry src dst =>
    cases src with
    | bed b => simp [State.isCensus]
    | hook => simp [State.isCensus]
    | slot n =>
      cases harea : s.areaOf n.val with
      | none => simp [State.isCensus, harea]
      | some a => simp [State.isCensus, harea]

theorem overRegion_iff (k : RegionKind) (i : Interval) : s.overRegion k i = false ↔
    ∀ r, (s.region r).enabled = true → (s.region r).kind = k →
      i.overlaps { lo := (s.region r).start, hi := (s.region r).stop } = false := by
  simp [State.overRegion, mem_indexes]

theorem overOtherCrane_iff (c : Fin 4) (i : Interval) : s.overOtherCrane c i = false ↔
    ∀ d, d ≠ c → ∀ x, (s.crane d).reservation = some x ∨ (s.crane d).envelope = some x → x.overlaps i = false := by
  have hopt : ∀ x : Option Interval, overlapsOpt x i = false ↔ ∀ y, x = some y → y.overlaps i = false := by
    intro x
    cases x <;> simp [overlapsOpt]
  simp only [State.overOtherCrane, List.any_eq_false, mem_indexes, forall_const, Bool.not_eq_true,
    Bool.and_eq_false_iff, decide_eq_false_iff_not, not_not, Bool.or_eq_false_iff, hopt]
  refine forall_congr' fun d => ?_
  constructor
  · rintro (rfl | ⟨hres, henv⟩) hd x hx
    · exact absurd rfl hd
    · exact hx.elim (hres x) (henv x)
  · intro h
    by_cases hd : d = c
    · exact .inl hd
    · exact .inr ⟨fun x hx => h hd x (.inl hx), fun x hx => h hd x (.inr hx)⟩

theorem overNoLoad_iff (l : Option Interval) : s.overNoLoad l = false ↔ ∀ i, l = some i →
    (∀ r, (s.region r).enabled = true → (s.region r).kind = .noLoad →
      i.overlaps { lo := (s.region r).start, hi := (s.region r).stop } = false)
    ∧ (∀ b, s.noLoadBed b = true → i.overlaps (s.bedSpan b) = false) := by
  cases l with
  | none => simp [State.overNoLoad]
  | some i =>
    have hbeds : s.overNoLoadBed i = false ↔ ∀ b, s.noLoadBed b = true → i.overlaps (s.bedSpan b) = false := by
      simp [State.overNoLoadBed, mem_indexes]
    simp only [State.overNoLoad, Bool.or_eq_false_iff, overRegion_iff, hbeds, Option.some.injEq, forall_eq']

theorem closed_iff : s.overRegion .closed (s.orderSpan o.crane pos o.task) = false ↔ OpenAt s o pos :=
  overRegion_iff ..

theorem clear_iff : ((s.crane o.crane).control = .free
      ∧ s.overOtherCrane o.crane (s.orderSpan o.crane pos o.task) = false
      ∧ s.overNoLoad (s.orderLoaded o.crane pos o.task) = false) ↔ ClearAt s o pos := by
  rw [overOtherCrane_iff, overNoLoad_iff, ClearAt]

/-! ### Steps 5 to 10 (R125) -/

theorem pieceTests_iff : s.pieceTests o src = none ↔ PieceHere s o src := by
  unfold PieceHere State.pieceTests
  cases hknown : o.mark.bind s.findPiece with
  | none =>
    simp only [reduceCtorEq, false_implies, forall_const, ← isCensus_iff]
    cases s.isCensus o.task <;> simp
  | some p =>
    simp only [Option.some.injEq, forall_eq', reduceCtorEq, false_implies, and_true, ← namedLive_iff]
    have hhook : (∀ c, c ≠ o.crane → (s.crane c).hook ≠ some p.mark) ↔ s.hookElsewhere o.crane p.mark = false := by
      rw [← Bool.not_eq_true, hookElsewhere_iff]
      simp
    rw [hhook]
    cases s.namedLive p.mark with
    | true => simp
    | false =>
      cases s.hookElsewhere o.crane p.mark with
      | true => simp
      | false => cases src <;> simp

theorem pieceTests_unknown (hknown : o.mark.bind s.findPiece = none) (hcensus : ¬Census s o) :
    s.pieceTests o src = some .pieceUnknown := by
  have hnot : ¬s.isCensus o.task = true := fun h => hcensus (isCensus_iff.1 h)
  simp only [State.pieceTests, hknown, if_neg hnot]

theorem pieceTests_notHere {p : Piece} (hknown : o.mark.bind s.findPiece = some p) (hnot : ¬PieceHere s o src) :
    s.pieceTests o src = some .pieceNotHere := by
  rw [← pieceTests_iff] at hnot
  unfold State.pieceTests at hnot ⊢
  simp only [hknown] at hnot ⊢
  split
  · rfl
  · next hfree =>
    rw [if_neg hfree] at hnot
    cases src with
    | bed b =>
      dsimp only at hnot ⊢
      split
      · next hhere => exact absurd (if_pos hhere) hnot
      · rfl
    | slot n => exact absurd rfl hnot
    | hook => exact absurd rfl hnot

theorem bedTest_iff : s.bedTest src = none ↔ BedReady s src := by
  cases src with
  | bed b => cases hstate : (s.bedRec b).state <;> simp [State.bedTest, BedReady, hstate]
  | slot n => simp [State.bedTest, BedReady]
  | hook => simp [State.bedTest, BedReady]

theorem bedTest_waits {b : Fin 24} (h : (s.bedRec b).state = .releasable ∨ (s.bedRec b).state = .releasing) :
    s.bedTest (.bed b) = some .wait := by
  rcases h with h | h <;> simp only [State.bedTest, h]

theorem bedTest_refused {b : Fin 24} (hreleasable : (s.bedRec b).state ≠ .releasable)
    (hreleasing : (s.bedRec b).state ≠ .releasing) (hstripping : (s.bedRec b).state ≠ .stripping) :
    s.bedTest (.bed b) = some (.refused .bedNotStripping) := by
  cases hstate : (s.bedRec b).state <;> simp_all [State.bedTest]

theorem pickCheck_iff (m : Nat) (n : Fin 1024) : s.pickCheck m n = true ↔ ∃ p v, s.findPiece m = some p
    ∧ p.state = .inStock ∧ p.location = .slot n v ∧ (s.slot n).stack.getLast? = some m ∧ ¬s.namedByOrder m := by
  rw [← namedLive_iff]
  cases hp : s.findPiece m with
  | none => simp [State.pickCheck, hp]
  | some p =>
    cases hlocation : p.location with
    | slot k v =>
      simp only [State.pickCheck, hp, hlocation, Bool.and_eq_true, decide_eq_true_eq, Bool.not_eq_true',
        Option.some.injEq, Bool.not_eq_true]
      constructor
      · rintro ⟨⟨⟨hstate, rfl⟩, htop⟩, hfree⟩
        exact ⟨p, v, rfl, hstate, hlocation, htop, hfree⟩
      · rintro ⟨q, w, rfl, hstate, hplace, htop, hfree⟩
        rw [hlocation] at hplace
        obtain ⟨rfl, -⟩ := Location.slot.inj hplace
        exact ⟨⟨⟨hstate, rfl⟩, htop⟩, hfree⟩
    | _ => simp [State.pickCheck, hp, hlocation]

theorem sourceTest_iff : s.sourceTest o src = none ↔ Picks s o src := by
  unfold Picks
  cases src with
  | bed b => simp [State.sourceTest]
  | slot n =>
    simp only [Source.slot.injEq, forall_eq', reduceCtorEq, false_implies, and_true, ← isCensus_iff]
    cases hcensus : s.isCensus o.task with
    | true => simp [State.sourceTest, hcensus]
    | false =>
      cases hmark : o.mark with
      | none => simp [State.sourceTest, hcensus, hmark]
      | some m =>
        have hpick := pickCheck_iff (s := s) m n
        cases hcheck : s.pickCheck m n with
        | true =>
          obtain ⟨p, v, h⟩ := hpick.1 hcheck
          have hnone : s.sourceTest o (.slot n) = none := by simp [State.sourceTest, hcensus, hmark, hcheck]
          exact iff_of_true hnone (.inr ⟨m, p, v, rfl, h⟩)
        | false =>
          have hsome : s.sourceTest o (.slot n) ≠ none := by simp [State.sourceTest, hcensus, hmark, hcheck]
          refine iff_of_false hsome ?_
          rintro (h | ⟨k, p, v, hk, h⟩)
          · cases h
          · cases hk
            rw [hpick.2 ⟨p, v, h⟩] at hcheck
            cases hcheck
  | hook =>
    simp only [reduceCtorEq, false_implies, forall_const, true_and]
    cases hmark : o.mark with
    | none => simp [State.sourceTest, hmark]
    | some m => simp [State.sourceTest, hmark]

theorem sourceTest_notHere (h : ¬Picks s o src) : s.sourceTest o src = some .pieceNotHere := by
  rw [← sourceTest_iff] at h
  cases src with
  | bed b => exact absurd rfl h
  | slot n =>
    unfold State.sourceTest at h ⊢
    dsimp only at h ⊢
    split
    · next hcensus => exact absurd (if_pos hcensus) h
    · next hcensus =>
      rw [if_neg hcensus] at h
      exact if_neg fun hyes => h (if_pos hyes)
  | hook => exact if_neg fun hyes => h (if_pos hyes)

theorem placementCheck_iff (cls : Fin 8) (n : Fin 1024) : s.placementCheck cls n = none ↔
    ∃ a, s.areaOf n.val = some a ∧ s.inService (groupOf n) = true ∧ (s.area a).dispatchOnly = false
      ∧ (s.area a).classes.getLsbD cls.val = true
      ∧ (s.slot n).stack.length + (s.slot n).claims < (s.area a).heightLimit := by
  cases harea : s.areaOf n.val with
  | none => simp [State.placementCheck, harea]
  | some a =>
    have hclass : (s.area a).classes.getLsbD cls.val = classIn (s.area a).classes cls := rfl
    simp only [State.placementCheck, harea, Option.some.injEq, exists_eq_left', Slot.load, hclass]
    cases s.inService (groupOf n) with
    | false => simp
    | true =>
      cases (s.area a).dispatchOnly with
      | true => simp
      | false =>
        cases classIn (s.area a).classes cls with
        | false => simp
        | true =>
          by_cases hfull : (s.area a).heightLimit ≤ (s.slot n).stack.length + (s.slot n).claims
          · simp [hfull]
          · simp [hfull, Nat.not_le.1 hfull]

theorem placeTest_iff : s.placeTest o dst = none ↔ Lands s o dst := by
  unfold Lands
  cases dst with
  | bay y =>
    cases hknown : o.mark.bind s.findPiece with
    | none => simp [State.placeTest, hknown]
    | some p => cases hready : p.ready <;> simp [State.placeTest, hknown, hready]
  | slot n =>
    simp only [State.placeTest, placementCheck_iff, reduceCtorEq, false_implies, forall_const, true_and,
      Place.slot.injEq, forall_eq']

theorem placeTest_bay {y : Fin 4} (h : ¬Lands s o (.bay y)) : s.placeTest o (.bay y) = some .notDispatchable := by
  rw [← placeTest_iff] at h
  unfold State.placeTest at h ⊢
  dsimp only at h ⊢
  split
  · next p hp =>
    rw [hp] at h
    exact if_neg fun hready => h (if_pos hready)
  · rfl

theorem carryTests_iff : s.carryTests o src dst = none ↔
    PieceHere s o src ∧ BedReady s src ∧ Picks s o src ∧ Lands s o dst := by
  rw [← pieceTests_iff, ← bedTest_iff, ← sourceTest_iff, ← placeTest_iff, State.carryTests]
  cases s.pieceTests o src with
  | some code => simp
  | none =>
    cases s.bedTest src with
    | some t => simp
    | none =>
      cases s.sourceTest o src with
      | some code => simp
      | none => cases s.placeTest o dst <;> simp

/-- Steps 5 to 10 of any order passed. -/
theorem taskTests_iff : s.taskTests o = none ↔ ∀ src dst, o.task = .carry src dst →
    PieceHere s o src ∧ BedReady s src ∧ Picks s o src ∧ Lands s o dst := by
  cases htask : o.task with
  | travel p => simp [State.taskTests, htask]
  | carry src dst => simp [State.taskTests, htask, carryTests_iff]

theorem carryTests_admitted : s.carryTests o src dst ≠ some .admitted := by
  unfold State.carryTests
  split
  · simp
  · split
    · next t ht =>
      intro h
      cases h
      cases src with
      | bed b => cases hstate : (s.bedRec b).state <;> simp [State.bedTest, hstate] at ht
      | slot n => cases ht
      | hook => cases ht
    · split
      · simp
      · split <;> simp

/-! ### The trial (R125) -/

theorem trial_at (hcontrol : (s.crane o.crane).control ≠ .halted)
    (hhook : fromHook o.task = true ∨ (s.crane o.crane).hook = none)
    (hpresence : (s.crane o.crane).presence ≠ .unknown) (hpos : (s.crane o.crane).position = some pos) :
    s.trial o = s.trialAt o pos := by
  have hfree : (!fromHook o.task && (s.crane o.crane).hook.isSome) = false := by
    rcases hhook with h | h <;> simp [h]
  unfold State.trial
  simp only [if_neg hcontrol, hfree, Bool.false_eq_true, if_false, hpos]

theorem trialAt_closed (h : ¬OpenAt s o pos) : s.trialAt o pos = .refused .closedRegion := by
  have hover : s.overRegion .closed (s.orderSpan o.crane pos o.task) = true := by
    rw [← closed_iff] at h
    simpa using h
  exact if_pos hover

theorem trialAt_tests (h : OpenAt s o pos) {t : Trial} (htests : s.taskTests o = some t) : s.trialAt o pos = t := by
  have hopen : ¬s.overRegion .closed (s.orderSpan o.crane pos o.task) = true := by
    rw [closed_iff.2 h]
    simp
  simp only [State.trialAt, if_neg hopen, htests]

theorem trialAt_clear (h : OpenAt s o pos) (htests : s.taskTests o = none) (hclear : ClearAt s o pos) :
    s.trialAt o pos = .admitted := by
  obtain ⟨hcontrol, hcranes, hground⟩ := clear_iff.2 hclear
  simp [State.trialAt, closed_iff.2 h, htests, hcontrol, hcranes, hground]

theorem trialAt_blocked (h : OpenAt s o pos) (htests : s.taskTests o = none) (hclear : ¬ClearAt s o pos) :
    s.trialAt o pos = .wait := by
  rw [← clear_iff] at hclear
  simp only [State.trialAt, closed_iff.2 h, htests, Bool.false_eq_true, if_false]
  split
  · rfl
  · next hcontrol =>
    split
    · rfl
    · next hcranes =>
      refine if_pos ?_
      by_contra hground
      exact hclear ⟨not_not.1 hcontrol, by simpa using hcranes, by simpa using hground⟩

end

end Sys2Proof.TrialProofs
end

section
/-! The trial, the admission pass and a repeated ORDER (O43). -/
namespace Sys2Proof.AdmissionProofs

open Sys2Proof Sys2Proof.Machine Sys2Proof.StepProofs Sys2Proof.RequestProofs Sys2Proof.LayoutProofs
  Sys2Proof.SettleProofs Sys2Proof.PassProofs Sys2Proof.OrderProofs Sys2Proof.TrialProofs

/-! ### The trial by the first test to fail (R125) -/

section
variable {s t : State} {o : CraneOrder} {src : Source} {dst : Place} {pos : Nat} {code : RefusalCode}

/-- The crane may be tried at a position: it is not HALTED, its hook allows the order, it has been heard from. -/
def Heard (s : State) (o : CraneOrder) (pos : Nat) : Prop :=
  (s.crane o.crane).control ≠ .halted ∧ (fromHook o.task = true ∨ (s.crane o.crane).hook = none)
    ∧ (s.crane o.crane).presence ≠ .unknown ∧ (s.crane o.crane).position = some pos

/-- Every test of a CARRY that concerns its piece, source and destination passes. -/
def Carried (s : State) (o : CraneOrder) : Prop := ∀ src dst, o.task = .carry src dst →
  PieceHere s o src ∧ BedReady s src ∧ Picks s o src ∧ Lands s o dst

theorem Heard.trial (h : Heard s o pos) : s.trial o = s.trialAt o pos := by
  obtain ⟨hcontrol, hhook, hpresence, hpos⟩ := h
  exact trial_at hcontrol hhook hpresence hpos

theorem trial_halted (h : (s.crane o.crane).control = .halted) : s.trial o = .refused .craneHalted := if_pos h

theorem trial_occupied (hcontrol : (s.crane o.crane).control ≠ .halted) (hfrom : fromHook o.task = false)
    (hhook : (s.crane o.crane).hook ≠ none) : s.trial o = .refused .hookOccupied := by
  have hsome : (!fromHook o.task && (s.crane o.crane).hook.isSome) = true := by
    rw [hfrom]
    exact Option.isSome_iff_ne_none.2 hhook
  exact (if_neg hcontrol).trans (if_pos hsome)

theorem trial_unheard (hcontrol : (s.crane o.crane).control ≠ .halted)
    (hhook : fromHook o.task = true ∨ (s.crane o.crane).hook = none)
    (h : (s.crane o.crane).presence = .unknown ∨ (s.crane o.crane).position = none) : s.trial o = .wait := by
  have hfree : (!fromHook o.task && (s.crane o.crane).hook.isSome) = false := by
    rcases hhook with h | h <;> simp [h]
  unfold State.trial
  simp only [if_neg hcontrol, hfree, Bool.false_eq_true, if_false]
  split
  · rfl
  · rfl
  · next pos hpos hknown =>
    rcases h with h | h
    · exact absurd h hknown
    · rw [h] at hpos
      cases hpos

theorem trial_admitted_iff :
    s.trial o = .admitted ↔ ∃ pos, Heard s o pos ∧ OpenAt s o pos ∧ Carried s o ∧ ClearAt s o pos := by
  constructor
  · intro h
    have hcontrol : (s.crane o.crane).control ≠ .halted := fun hhalted => by rw [trial_halted hhalted] at h; cases h
    have hhook : fromHook o.task = true ∨ (s.crane o.crane).hook = none := by
      by_contra hnot
      push Not at hnot
      rw [trial_occupied hcontrol (by simpa using hnot.1) hnot.2] at h
      cases h
    have hheard : (s.crane o.crane).presence ≠ .unknown ∧ (s.crane o.crane).position ≠ none := by
      by_contra hnot
      rw [trial_unheard hcontrol hhook (by tauto)] at h
      cases h
    obtain ⟨pos, hpos⟩ := Option.ne_none_iff_exists'.1 hheard.2
    refine ⟨pos, ⟨hcontrol, hhook, hheard.1, hpos⟩, ?_⟩
    rw [trial_at hcontrol hhook hheard.1 hpos] at h
    have hopen : OpenAt s o pos := by
      by_contra hnot
      rw [trialAt_closed hnot] at h
      cases h
    cases htests : s.taskTests o with
    | some t =>
      rw [trialAt_tests hopen htests] at h
      subst h
      cases htask : o.task with
      | travel p => simp [State.taskTests, htask] at htests
      | carry src dst =>
        simp only [State.taskTests, htask] at htests
        exact absurd htests carryTests_admitted
    | none =>
      refine ⟨hopen, taskTests_iff.1 htests, ?_⟩
      by_contra hnot
      rw [trialAt_blocked hopen htests hnot] at h
      cases h
  · rintro ⟨pos, hheard, hopen, hcarried, hclear⟩
    rw [hheard.trial, trialAt_clear hopen (taskTests_iff.2 hcarried) hclear]

/-- The outcome of the first test of a CARRY to fail. -/
theorem trial_carry (hheard : Heard s o pos) (hopen : OpenAt s o pos) (htask : o.task = .carry src dst) {t : Trial}
    (h : s.carryTests o src dst = some t) : s.trial o = t := by
  have htests : s.taskTests o = some t := by simp only [State.taskTests, htask, h]
  rw [hheard.trial, trialAt_tests hopen htests]

theorem carryTests_piece (h : s.pieceTests o src = some code) : s.carryTests o src dst = some (.refused code) := by
  simp only [State.carryTests, h]

theorem carryTests_bed (hpiece : PieceHere s o src) (h : s.bedTest src = some t') :
    s.carryTests o src dst = some t' := by
  simp only [State.carryTests, pieceTests_iff.2 hpiece, h]

theorem carryTests_source (hpiece : PieceHere s o src) (hbed : BedReady s src) (h : s.sourceTest o src = some code) :
    s.carryTests o src dst = some (.refused code) := by
  simp only [State.carryTests, pieceTests_iff.2 hpiece, bedTest_iff.2 hbed, h]

theorem carryTests_place (hpiece : PieceHere s o src) (hbed : BedReady s src) (hpicks : Picks s o src)
    (h : s.placeTest o dst = some code) : s.carryTests o src dst = some (.refused code) := by
  simp only [State.carryTests, pieceTests_iff.2 hpiece, bedTest_iff.2 hbed, sourceTest_iff.2 hpicks, h]

/-- Only a CARRY from a bed waits for one, so a failing pick check has its bed ready. -/
theorem bedReady_of_not_picks (h : ¬Picks s o src) : BedReady s src := by
  intro b hsrc
  refine absurd ⟨fun n hn => ?_, fun hhook => ?_⟩ h
  · rw [hsrc] at hn
    cases hn
  · rw [hsrc] at hhook
    cases hhook

/-! ### The placement check (R107) -/

section
variable {n : Fin 1024} {a : Fin 16}

theorem place_unknown (h : s.areaOf n.val = none) : s.placeTest o (.slot n) = some .slotUnknown := by
  simp only [State.placeTest, State.placementCheck, h]

theorem place_service (ha : s.areaOf n.val = some a) (h : s.inService (groupOf n) = false) :
    s.placeTest o (.slot n) = some .slotOutOfService := by
  simp only [State.placeTest, State.placementCheck, ha, h, Bool.not_false, if_true]

theorem place_dispatchOnly (ha : s.areaOf n.val = some a) (hservice : s.inService (groupOf n) = true)
    (h : (s.area a).dispatchOnly = true) : s.placeTest o (.slot n) = some .areaDispatchOnly := by
  simp only [State.placeTest, State.placementCheck, ha, hservice, h, Bool.not_true, Bool.false_eq_true, if_false, if_true]

theorem place_class (ha : s.areaOf n.val = some a) (hservice : s.inService (groupOf n) = true)
    (hdispatch : (s.area a).dispatchOnly = false) (h : (s.area a).classes.getLsbD (s.orderClass o).val = false) :
    s.placeTest o (.slot n) = some .classNotAccepted := by
  have hclass : classIn (s.area a).classes (s.orderClass o) = false := h
  simp only [State.placeTest, State.placementCheck, ha, hservice, hdispatch, hclass, Bool.not_true, Bool.not_false,
    Bool.false_eq_true, if_false, if_true]

theorem place_full (ha : s.areaOf n.val = some a) (hservice : s.inService (groupOf n) = true)
    (hdispatch : (s.area a).dispatchOnly = false) (hclass : (s.area a).classes.getLsbD (s.orderClass o).val = true)
    (h : ¬Lands s o (.slot n)) : s.placeTest o (.slot n) = some .stackFull := by
  have hclass' : classIn (s.area a).classes (s.orderClass o) = true := hclass
  have hfull : (s.area a).heightLimit ≤ (s.slot n).load := by
    by_contra hroom
    refine h ⟨fun y hy => (by cases hy), fun k hk => ?_⟩
    cases hk
    exact ⟨a, ha, hservice, hdispatch, hclass, Nat.not_le.1 hroom⟩
  simp only [State.placeTest, State.placementCheck, ha, hservice, hdispatch, hclass', Bool.not_true,
    Bool.false_eq_true, if_false, if_pos hfull]

end

end

/-! ### The pass at CRANE_RELEASE (R128, R136) -/

section
variable {s u w : State} {f : Frame} {c : Fin 4} {o : CraneOrder}

/-- The state of a released crane. -/
def released (c : Fin 4) (s : State) : State :=
  modCrane c (fun k => { k with control := if k.current = none then .free else .ordered }) s

theorem releaseCrane_eq (hzero : s.runway.opportunities = 0) :
    releaseCrane c (takeIntake f s) = withCount 1 (takeIntake f (released c s)) := by
  have hcontrol : (fun k : Crane => { k with control := if k.current.isSome then .ordered else .free }) =
      fun k : Crane => { k with control := if k.current = none then .free else .ordered } := by
    funext k
    cases k.current <;> rfl
  have hcount : (takeIntake f s).runway.opportunities = 0 := by rw [takeIntake_line]; exact hzero
  have hcomm : released c (takeIntake f s) = takeIntake f (released c s) :=
    takeIntake_comm (act := released c) fun _ _ => rfl
  have hnote : releaseCrane c (takeIntake f s) = noteOpportunity (released c (takeIntake f s)) := by
    rw [releaseCrane, hcontrol, released]
  have hcount' : (released c (takeIntake f s)).runway.opportunities = 0 := hcount
  rw [hnote, noteOpportunity, hcount', hcomm]
  rfl

theorem exec_released (hrun : s.running = true) (hzero : s.runway.opportunities = 0)
    (hpayload : f.payload = [0x1E#8, byteOf c.val]) (huse : (s.craneEntry c).station.isSome = true)
    (hhalted : (s.crane c).control = .halted)
    (h : settle (withCount 1 (takeIntake f (released c s))) = takeIntake f w) (hroom : w.replyRoom) :
    exec (.craneRelease f) s = .next (answered f 0x1E#8 .ok [] w) := by
  refine exec_request (act := craneRelease f) hrun ?_
  have huse' : (takeIntake f s).craneInUse c = true := by rw [takeIntake_line]; exact huse
  have hcrane : ((takeIntake f s).crane c).control = .halted := by rw [takeIntake_line]; exact hhalted
  simp only [craneRelease, hpayload, idx?_byteOf c (by decide), huse', Bool.not_true, Bool.false_eq_true, if_false,
    hcrane, ne_eq, not_true_eq_false, releaseCrane_eq hzero, h]
  exact reply_unchanged hroom

theorem takeIntake_trial : (takeIntake f u).trial = u.trial := by rw [takeIntake_line]; rfl

theorem withCount_back (hzero : u.runway.opportunities = 0) :
    unnoted (withCount 1 (takeIntake f u)) = takeIntake f u := by
  have hcount : (takeIntake f u).runway.opportunities = 0 := by rw [takeIntake_line]; exact hzero
  exact withCount_same (s := takeIntake f u) hcount

theorem settle_intake_waits (hzero : u.runway.opportunities = 0)
    (hpass : (u.runway.waiting.foldl passOne ([], takeIntake f u)).2 = takeIntake f u) :
    settle (withCount 1 (takeIntake f u)) = takeIntake f u := by
  have hwaiting : (withCount 1 (takeIntake f u)).runway.waiting = u.runway.waiting := by rw [takeIntake_line]; rfl
  rw [settle_passed rfl, withCount_back hzero]
  rw [hwaiting, withCount_back hzero]
  exact hpass

theorem settle_intake_refused {code : RefusalCode} (hzero : u.runway.opportunities = 0)
    (hwaiting : u.runway.waiting = [o]) (htrial : u.trial o = .refused code) (hroom : u.replyRoom) :
    settle (withCount 1 (takeIntake f u)) = takeIntake f (withPlantFrame
      (u.orderAnswer o.frame o.tag o.crane.val (.refused code)) (setWaiting [] u)) := by
  have hwaiting' : (withCount 1 (takeIntake f u)).runway.waiting = [o] := by rw [takeIntake_line]; exact hwaiting
  have htrial' : (withCount 1 (takeIntake f u)).trial o = .refused code := by rw [takeIntake_line]; exact htrial
  have hroom' : (withCount 1 (takeIntake f u)).replyRoom := by rw [takeIntake_line]; exact hroom
  rw [settle_refused rfl hwaiting' htrial' hroom', withCount_back hzero]
  simp only [takeIntake_line]
  rfl

theorem settle_intake_admitted {pos : Nat} (hzero : u.runway.opportunities = 0)
    (hwaiting : u.runway.waiting = [o]) (htrial : u.trial o = .admitted)
    (hpos : (u.crane o.crane).position = some pos) (hroom : u.replyRoom) (hring : u.ringRoom) :
    settle (withCount 1 (takeIntake f u)) = takeIntake f ((setWaiting [] u).afterAdmission o pos) := by
  have hwaiting' : (withCount 1 (takeIntake f u)).runway.waiting = [o] := by rw [takeIntake_line]; exact hwaiting
  have htrial' : (withCount 1 (takeIntake f u)).trial o = .admitted := by rw [takeIntake_line]; exact htrial
  have hroom' : (withCount 1 (takeIntake f u)).replyRoom := by rw [takeIntake_line]; exact hroom
  have hring' : (withCount 1 (takeIntake f u)).ringRoom := by rw [takeIntake_line]; exact hring
  have hpos' : ((withCount 1 (takeIntake f u)).crane o.crane).position = some pos := by
    rw [takeIntake_line]; exact hpos
  rw [settle_admitted rfl hwaiting' htrial' hpos' hroom' hring', withCount_back hzero]
  simp only [takeIntake_line]
  rfl

end

/-! ### A repeated ORDER (R124) -/

section
variable {s : State} {f : Frame} {c : Fin 4} {o : CraneOrder} {x : OrderFields} {task : Task}
  {ml : Option (Fin 16 × Fin 8)}

theorem liveOrder_some (htag : o.tag = x.tag) (h : (s.crane c).current = some o
    ∨ ((∀ k, (s.crane c).current = some k → k.tag ≠ x.tag) ∧ o ∈ s.runway.waiting
        ∧ ∀ w ∈ s.runway.waiting, w.crane = c ∧ w.tag = x.tag ↔ w = o)) : s.liveOrder c x.tag = some o := by
  rcases h with hcurrent | ⟨hother, hmem, honly⟩
  · simp only [State.liveOrder, hcurrent, if_pos htag]
  · have hfind : (s.runway.waiting.find? fun w => w.crane = c && w.tag = x.tag) = some o := by
      cases hw : s.runway.waiting.find? fun w => w.crane = c && w.tag = x.tag with
      | none =>
        have hnot := List.find?_eq_none.1 hw o hmem
        have hyes := (honly o hmem).2 rfl
        simp [hyes.1, hyes.2] at hnot
      | some w =>
        have hyes := List.find?_some hw
        simp only [Bool.and_eq_true, decide_eq_true_eq] at hyes
        rw [(honly w (List.mem_of_find?_eq_some hw)).1 hyes]
    cases hcurrent : (s.crane c).current with
    | none => simp only [State.liveOrder, hcurrent, hfind]
    | some k => simp only [State.liveOrder, hcurrent, if_neg (hother k hcurrent), hfind]

/-- An ORDER in form carries its tag and its crane in front. -/
theorem head_of_order (hparse : parseOrder f.payload = some x) (hcrane : s.orderCrane f x = some c) :
    3 ≤ f.payload.length ∧ f.payload.take 3 = enc2 x.tag ++ enc1 c.val := by
  unfold parseOrder at hparse
  split at hparse
  · next t1 t0 b k m3 m2 m1 m0 l sk s1 s0 dk d1 d0 g1 g2 hpayload =>
    cases hparse
    unfold State.orderCrane at hcrane
    dsimp only at hcrane
    split at hcrane
    · next d hd =>
      have hsame : d = c := by
        split at hcrane
        · exact Option.some.inj hcrane
        · cases hcrane
      have hval := idx?_eq_some hd
      rw [hsame] at hval
      rw [hpayload, enc2_dec2, hval, enc1_toNat]
      exact ⟨by simp, rfl⟩
    · cases hcrane
  · cases hparse

theorem isRepeat_iff : isRepeat f o = true ↔ o.frame.src = f.src ∧ o.frame.payload.take 15 = f.payload.take 15 := by
  simp [isRepeat]

theorem exec_live (hrun : s.running = true) (hconfigured : s.mgmt.configured = true)
    (hzero : s.runway.opportunities = 0) (hroom : s.replyRoom) (hparse : parseOrder f.payload = some x)
    (hform : s.formCheck x = some (task, ml)) (hcrane : s.orderCrane f x = some c)
    (hlive : s.liveOrder c x.tag = some o) : exec (.order f) s = .next (withPlantFrame (s.orderAnswer f x.tag c.val
      (if isRepeat f o then repeatAnswer o else .refused .badOrder)) (takeHanded f s)) := by
  obtain ⟨hlength, hhead⟩ := head_of_order hparse hcrane
  have hlive' : (takeHanded f s).liveOrder c x.tag = some o := hlive
  have hroom' : (takeHanded f s).replyRoom := hroom
  have hanswer : answerHead f (takeHanded f s) = enc2 x.tag ++ enc1 c.val := (if_pos hlength).trans hhead
  rw [exec_order hrun, takeOrder_formed hconfigured hparse hform hcrane]
  simp only [takeFormed, hlive']
  cases hrepeat : isRepeat f o with
  | true =>
    rw [if_pos rfl, if_pos rfl, answerTo_room hroom', hanswer]
    exact congrArg _ (settle_none hzero)
  | false =>
    rw [if_neg (by simp), if_neg (by simp), refuseForm_room hlength hroom', hhead]
    exact congrArg _ (settle_none hzero)

end

/-- Settles O43. -/
theorem admissionTests : Obligations.AdmissionTests := by
  unfold Obligations.AdmissionTests
  refine ⟨fun s o => ?_, fun s o blocked => ?_, fun s => rfl, fun s f c hrun hroom hzero hpayload huse hhalted => ?_,
    fun s f x task ml c o hrun hconfigured hroom hzero hparse hform hcrane htag hlive => ?_⟩
  · intro k known census cls heard open_ pieceHere bedReady picks lands carried clear
    refine ⟨trial_admitted_iff, trial_halted, trial_occupied, trial_unheard, fun pos hheard => ?_⟩
    have hheard' : Heard s o pos := hheard
    refine ⟨fun hclosed => ?_, fun hopen hcarried hblocked => ?_, fun src dst hopen htask =>
      ⟨fun hknown hcensus => ?_, fun p hknown hnot => ?_, fun hpiece => ⟨fun b hb => ⟨fun hstate => ?_, fun h1 h2 h3 => ?_⟩,
        fun hnot => ?_, fun hready hpicks => ⟨fun y hy hnot => ?_, fun n hn => ⟨fun harea => ?_, fun a harea =>
          ⟨fun hservice => ?_, fun hservice => ⟨fun hdispatch => ?_, fun hdispatch => ⟨fun hclass => ?_,
            fun hclass hnot => ?_⟩⟩⟩⟩⟩⟩⟩⟩
    · rw [hheard'.trial, trialAt_closed hclosed]
    · rw [hheard'.trial, trialAt_blocked hopen (taskTests_iff.2 hcarried) hblocked]
    all_goals refine trial_carry hheard' hopen htask ?_
    · exact carryTests_piece (pieceTests_unknown hknown hcensus)
    · exact carryTests_piece (pieceTests_notHere hknown hnot)
    · subst hb
      exact carryTests_bed hpiece (bedTest_waits hstate)
    · subst hb
      exact carryTests_bed hpiece (bedTest_refused h1 h2 h3)
    · exact carryTests_source hpiece (bedReady_of_not_picks hnot) (sourceTest_notHere hnot)
    · subst hy
      exact carryTests_place hpiece hready hpicks (placeTest_bay hnot)
    all_goals subst hn
    · exact carryTests_place hpiece hready hpicks (place_unknown harea)
    · exact carryTests_place hpiece hready hpicks (place_service harea hservice)
    · exact carryTests_place hpiece hready hpicks (place_dispatchOnly harea hservice hdispatch)
    · exact carryTests_place hpiece hready hpicks (place_class harea hservice hdispatch hclass)
    · exact carryTests_place hpiece hready hpicks (place_full harea hservice hdispatch hclass hnot)
  · intro left
    exact ⟨passOne_blocked, fun hfree => ⟨passOne_waits hfree, fun code hcode hroom => passOne_refused hfree hcode hroom,
      fun pos htrial hpos hroom hring => ⟨_, passOne_admitted hfree htrial hpos hroom hring⟩⟩⟩
  · intro u released
    have hzero' : u.runway.opportunities = 0 := hzero
    refine ⟨fun hwait => ?_, fun o rest hwaiting hwait hrest => ?_, fun o hwaiting hlane => ⟨fun code hcode => ?_,
      fun pos hgrant hpos hring => ?_⟩⟩
    · refine exec_released (w := u) hrun hzero hpayload huse hhalted (settle_intake_waits hzero' ?_) hroom
      refine pass_waits _ _ fun w hw => .inl ?_
      rw [takeIntake_trial]
      exact hwait w hw
    · refine exec_released (w := u) hrun hzero hpayload huse hhalted (settle_intake_waits hzero' ?_) hroom
      have hwaiting' : (AdmissionProofs.released c s).runway.waiting = o :: rest := hwaiting
      rw [hwaiting']
      exact pass_behind (by rw [takeIntake_trial]; exact hwait) hrest
    · have hlane' : (s.line.portP.normal ++
          [u.orderAnswer o.frame o.tag o.crane.val (.refused code)]).length < 16 := by simp; omega
      exact exec_released hrun hzero hpayload huse hhalted
        (settle_intake_refused (u := u) hzero' hwaiting hcode hroom) hlane'
    · have hlane' : ((setWaiting [] u).afterAdmission o pos).line.portP.normal.length < 16 := by
        simp [State.afterAdmission, setWaiting, u, modCrane]; omega
      exact exec_released hrun hzero hpayload huse hhalted
        (settle_intake_admitted (u := u) hzero' hwaiting hgrant hpos hroom hring) hlane'
  · intro answer same
    have hexec := exec_live hrun hconfigured hzero hroom hparse hform hcrane (liveOrder_some htag hlive)
    refine ⟨fun hsame hstate => ?_, fun hsame hstate => ?_, fun hdiffer => ?_⟩
    · rw [hexec, if_pos (isRepeat_iff.2 hsame)]
      simp only [repeatAnswer, hstate] <;> rfl
    · rw [hexec, if_pos (isRepeat_iff.2 hsame)]
      have hadmitted : repeatAnswer o = .admitted o.stamp.2 := by
        unfold repeatAnswer
        split
        · next hwait => exact absurd hwait hstate
        · rfl
      rw [hadmitted]
    · rw [hexec, if_neg fun h => hdiffer (isRepeat_iff.1 h)]

end Sys2Proof.AdmissionProofs
end

section
/-! SAMPLE, the probe-unit minute and PROBE_FORCE (O21). -/
namespace Sys2Proof.ProbeFeedProofs

open Sys2Proof Sys2Proof.Machine Sys2Proof.StepProofs Sys2Proof.RequestProofs Sys2Proof.TableProofs
  Sys2Proof.FlagProofs Sys2Proof.PanelActProofs

section
variable {s t : State} {f : Frame} {i : Fin 128}

/-! ### The readings of a payload (R24, 12.3) -/

theorem decS2_enc {v : Int} (hlow : -32768 ≤ v) (hhigh : v ≤ 32767) :
    decS2 (byteOf ((v % 65536).toNat / 256)) (byteOf (v % 65536).toNat) = v := by
  have hlt : (v % 65536).toNat < 65536 := by omega
  rw [decS2, dec2_enc hlt]
  split <;> omega

/-- The bytes of a reading. -/
def readingBytes (x : Fin 8 × Int) : Bytes := enc1 x.1.val ++ encS2 x.2

theorem parseReadings_bytes {l : List (Fin 8 × Int)} (h : ∀ x ∈ l, -32768 ≤ x.2 ∧ x.2 ≤ 32767) :
    parseReadings (l.flatMap readingBytes) = some (l.map fun x => (x.1.val, x.2)) := by
  induction l with
  | nil => rfl
  | cons x rest ih =>
    obtain ⟨hlow, hhigh⟩ := h x List.mem_cons_self
    have hchannel : (byteOf x.1.val).toNat = x.1.val := byteOf_toNat_of_lt (by omega)
    have hbytes : (x :: rest).flatMap readingBytes = byteOf x.1.val :: byteOf ((x.2 % 65536).toNat / 256) ::
        byteOf (x.2 % 65536).toNat :: rest.flatMap readingBytes := rfl
    rw [hbytes, parseReadings, ih fun y hy => h y (List.mem_cons_of_mem _ hy), hchannel, decS2_enc hlow hhigh]
    rfl

theorem parseReadings_length {bytes : Bytes} {l : List (Nat × Int)} (h : parseReadings bytes = some l) :
    bytes.length = 3 * l.length := by
  fun_induction parseReadings bytes generalizing l with
  | case1 => cases h; rfl
  | case2 ch hi lo rest ih =>
    cases hrest : parseReadings rest with
    | none => rw [hrest] at h; cases h
    | some k =>
      rw [hrest] at h
      cases h
      simp only [List.length_cons, ih hrest]
      omega
  | case3 => cases h

theorem parseSample_bytes {l : List (Fin 8 × Int)} (hpos : 1 ≤ l.length) (hmax : l.length ≤ 8)
    (h : ∀ x ∈ l, -32768 ≤ x.2 ∧ x.2 ≤ 32767) :
    parseSample (enc1 l.length ++ l.flatMap readingBytes) = some (l.map fun x => (x.1.val, x.2)) := by
  have hcount : (byteOf l.length).toNat = l.length := byteOf_toNat_of_lt (by omega)
  have hbytes : enc1 l.length ++ l.flatMap readingBytes = byteOf l.length :: l.flatMap readingBytes := rfl
  rw [hbytes, parseSample, parseReadings_bytes h]
  refine if_pos ?_
  rw [List.length_map, hcount]
  exact ⟨rfl, hpos, hmax⟩

theorem parseSample_malformed {n : Byte} {rest : Bytes}
    (h : n.toNat = 0 ∨ 8 < n.toNat ∨ rest.length ≠ 3 * n.toNat) : parseSample (n :: rest) = none := by
  unfold parseSample
  dsimp only
  split
  · next l hl =>
    refine if_neg fun hfit => ?_
    have hlength := parseReadings_length hl
    omega
  · rfl

/-! ### A frame's readings taken -/

theorem screenReading_map (v : Int) : (screenReading i v s).probeEntry = s.probeEntry := by
  have hraise : (raise .probeFault (.probe i) v s).probeEntry = s.probeEntry := by
    funext j
    rw [State.probeEntry, State.probeEntry, (raise_keeps ..).1]
  unfold screenReading
  dsimp only
  split
  · exact hraise
  · repeat' split
    all_goals rfl

theorem takeReading_map (st : Station) (x : Nat × Int) : (takeReading st x s).probeEntry = s.probeEntry := by
  unfold takeReading
  split
  · exact screenReading_map _
  · rfl

/-- The enabled entry of a station and a channel. -/
def entryOf (s : State) (st : Station) (ch : Fin 8) : Option (Fin 128) :=
  (indexes 128).find? fun i => (s.probeEntry i).enabled && (s.probeEntry i).station = st
    && (s.probeEntry i).channel = ch

theorem probeOf_channel (st : Station) (ch : Fin 8) : s.probeOf st ch.val = entryOf s st ch := by
  have hsame : ∀ j : Fin 8, decide (j.val = ch.val) = decide (j = ch) := fun j => by simp [Fin.ext_iff]
  simp only [State.probeOf, entryOf, hsame]

theorem takeReadings (st : Station) (l : List (Fin 8 × Int)) (hmap : t.probeEntry = s.probeEntry) :
    (l.map fun x => (x.1.val, x.2)).foldl (fun u reading => takeReading st reading u) t =
      l.foldl (fun u x => match entryOf s st x.1 with
        | some i => screenReading i x.2 u
        | none => u) t := by
  induction l generalizing t with
  | nil => rfl
  | cons x rest ih =>
    have hentry : t.probeOf st x.1.val = entryOf s st x.1 := by
      rw [probeOf_channel, entryOf, entryOf, hmap]
    have hnext := (takeReading_map (s := t) st (x.1.val, x.2)).trans hmap
    have htaken : takeReading st (x.1.val, x.2) t = match entryOf s st x.1 with
        | some i => screenReading i x.2 t
        | none => t := by
      unfold takeReading
      rw [hentry] <;> rfl
    rw [List.map_cons, List.foldl_cons, List.foldl_cons, ih hnext, htaken]

theorem sampleTaken (hrun : s.running = true) {l : List (Fin 8 × Int)} (hpos : 1 ≤ l.length) (hmax : l.length ≤ 8)
    (h : ∀ x ∈ l, -32768 ≤ x.2 ∧ x.2 ≤ 32767) (hpayload : f.payload = enc1 l.length ++ l.flatMap readingBytes) :
    exec (.sample f) s = .next (l.foldl (fun t x => match entryOf s f.src x.1 with
      | some i => screenReading i x.2 t
      | none => t) (takeHanded f s)) := by
  have hexec : exec (.sample f) s = .next (takeSample f (takeHanded f s)) :=
    whenRunning_running s (fun v => takeSample f (takeHanded f v)) hrun
  rw [hexec, takeSample, hpayload, parseSample_bytes hpos hmax h]
  exact congrArg _ (takeReadings f.src l rfl)

theorem sampleMalformed (hrun : s.running = true) {n : Byte} {rest : Bytes} (hpayload : f.payload = n :: rest)
    (h : n.toNat = 0 ∨ 8 < n.toNat ∨ rest.length ≠ 3 * n.toNat) :
    exec (.sample f) s = .next (countMalformed (takeHanded f s)) := by
  have hexec : exec (.sample f) s = .next (takeSample f (takeHanded f s)) :=
    whenRunning_running s (fun v => takeSample f (takeHanded f v)) hrun
  rw [hexec, takeSample, hpayload, parseSample_malformed h]

/-! ### The probe-unit minute (R27, R28) -/

/-- Only the records of the probe unit, the line and the notices have changed. -/
structure ProbesOnly (s t : State) : Prop where
  probe : t.probe = { s.probe with recs := t.probe.recs }
  only : t = { s with line := t.line, probe := t.probe, notice := t.notice }

theorem ProbesOnly.refl (s : State) : ProbesOnly s s := ⟨rfl, rfl⟩

theorem ProbesOnly.trans {u : State} (h : ProbesOnly s t) (g : ProbesOnly t u) : ProbesOnly s u :=
  ⟨by rw [g.probe, h.probe], by rw [g.only, h.only]⟩

theorem ProbesOnly.entry (h : ProbesOnly s t) (j : Fin 128) : t.probeEntry j = s.probeEntry j := by
  rw [State.probeEntry, State.probeEntry, h.probe]

theorem ProbesOnly.limit (h : ProbesOnly s t) : t.probe.staleLimit = s.probe.staleLimit := by rw [h.probe]

theorem probesOnly_raise (c : Cause) (v : Subject) (n : Int) : ProbesOnly s (raise c v n s) :=
  ⟨by simp, by apply state_eq <;> simp⟩

theorem probesOnly_modProbe (g : ProbeRec → ProbeRec) : ProbesOnly s (modProbe i g s) := ⟨rfl, rfl⟩

theorem probesOnly_raiseIfBlinded (u : State) (b : Fin 24) : ProbesOnly s (raiseIfBlinded u b s) := by
  unfold raiseIfBlinded
  split
  · exact probesOnly_raise ..
  · exact .refl s

/-- A record aged by one minute. -/
def aged (e : ProbeEntry) (r : ProbeRec) : ProbeRec := if e.enabled then { r with age := satInc 255 r.age } else r

/-- A record past the stale limit made STALE. -/
def staled (limit : Nat) (e : ProbeEntry) (r : ProbeRec) : ProbeRec :=
  if e.enabled && r.state = .fresh && decide (limit < r.age) then { r with state := .stale } else r

theorem ageProbe_only : ProbesOnly t
    (if (t.probeEntry i).enabled then modProbe i (fun r => { r with age := satInc 255 r.age }) t else t) := by
  split
  · exact probesOnly_modProbe _
  · exact .refl t

theorem ageProbe_rec (j : Fin 128) :
    (if (t.probeEntry i).enabled then modProbe i (fun r => { r with age := satInc 255 r.age }) t else t).probeRec j =
      if j = i then aged (t.probeEntry i) (t.probeRec i) else t.probeRec j := by
  unfold aged
  split
  · exact modProbe_probeRec t i (fun r => { r with age := satInc 255 r.age }) j
  · split
    · next h => rw [h]
    · rfl

theorem ageProbes_only : ProbesOnly s (ageProbes s) :=
  forEach_induction _ (ProbesOnly s) _ (fun _ _ h => h.trans ageProbe_only) (.refl s)

theorem ageProbes_rec (j : Fin 128) : (ageProbes s).probeRec j = aged (s.probeEntry j) (s.probeRec j) := by
  refine forEach_at (ProbesOnly s) State.probeRec _ (fun k => aged (s.probeEntry k)) (fun k t h => h.trans ageProbe_only)
    (fun k t h => ?_) (fun k t l hl => ?_) s (.refl s) j
  · rw [ageProbe_rec, if_pos rfl, h.entry]
  · rw [ageProbe_rec, if_neg hl]

/-- What a stale record leaves, before its bed is looked at. -/
theorem staleProbe_eq : staleProbe i t =
    if (t.probeEntry i).enabled && (t.probeRec i).state = .fresh && decide (t.probe.staleLimit < (t.probeRec i).age) then
      (match (t.probeEntry i).role, idx? 24 (t.probeEntry i).bed with
        | .bed, some b => raiseIfBlinded t b (raise .probeStale (.probe i) ((t.probeRec i).value.getD 0)
            (modProbe i (fun r => { r with state := .stale }) t))
        | _, _ => raise .probeStale (.probe i) ((t.probeRec i).value.getD 0)
            (modProbe i (fun r => { r with state := .stale }) t))
    else t := rfl

theorem staleProbe_only : ProbesOnly t (staleProbe i t) := by
  rw [staleProbe_eq]
  have hraised : ProbesOnly t (raise .probeStale (.probe i) ((t.probeRec i).value.getD 0)
      (modProbe i (fun r => { r with state := .stale }) t)) := (probesOnly_modProbe _).trans (probesOnly_raise ..)
  split
  · split
    · exact hraised.trans (probesOnly_raiseIfBlinded ..)
    · exact hraised
  · exact .refl t

theorem staleProbe_rec (j : Fin 128) : (staleProbe i t).probeRec j =
    if j = i then staled t.probe.staleLimit (t.probeEntry i) (t.probeRec i) else t.probeRec j := by
  have hrec : ∀ u : State, u.probe = (modProbe i (fun r => { r with state := .stale }) t).probe →
      u.probeRec j = if j = i then { t.probeRec i with state := .stale } else t.probeRec j := by
    intro u hu
    rw [State.probeRec, hu]
    exact modProbe_probeRec t i (fun r => { r with state := .stale }) j
  rw [staleProbe_eq, staled]
  split
  · split
    · exact hrec _ (by simp)
    · exact hrec _ (by simp)
  · split
    · next h => rw [h]
    · rfl

theorem staleProbe_flag (h : ((t.probeEntry i).enabled && (t.probeRec i).state = .fresh
    && decide (t.probe.staleLimit < (t.probeRec i).age)) = true) : flagSet .probeStale (staleProbe i t) := by
  have hraised : flagSet .probeStale (raise .probeStale (.probe i) ((t.probeRec i).value.getD 0)
      (modProbe i (fun r => { r with state := .stale }) t)) := raise_flagSet ..
  rw [staleProbe_eq, if_pos h]
  split
  · exact (flagSet_kept .probeStale).raiseIfBlinded _ _ hraised
  · exact hraised

/-- A record after the minute. -/
def minuteProbe (s : State) (i : Fin 128) : ProbeRec :=
  if (s.probeEntry i).enabled = true then
    { s.probeRec i with
      age := min 255 ((s.probeRec i).age + 1)
      state := if s.probe.staleLimit < min 255 ((s.probeRec i).age + 1) then .stale
               else (s.probeRec i).state }
  else s.probeRec i

theorem staled_aged : staled s.probe.staleLimit (s.probeEntry i) (aged (s.probeEntry i) (s.probeRec i)) = minuteProbe s i := by
  unfold staled aged minuteProbe
  cases (s.probeEntry i).enabled with
  | false => simp
  | true =>
    simp only [satInc, if_true, Bool.true_and]
    generalize min 255 ((s.probeRec i).age + 1) = n
    by_cases hlimit : s.probe.staleLimit < n
    · cases hstate : (s.probeRec i).state <;> simp [hlimit]
    · simp [hlimit]

theorem staleRun_only : ProbesOnly s (forEach staleProbe (ageProbes s)) :=
  forEach_induction _ (ProbesOnly s) _ (fun _ _ h => h.trans staleProbe_only) ageProbes_only

theorem staleRun_rec (j : Fin 128) : (forEach staleProbe (ageProbes s)).probeRec j = minuteProbe s j := by
  rw [← staled_aged, ← ageProbes_rec]
  refine forEach_at (ProbesOnly s) State.probeRec staleProbe
    (fun k => staled s.probe.staleLimit (s.probeEntry k)) (fun k t h => h.trans staleProbe_only)
    (fun k t h => ?_) (fun k t l hl => ?_) (ageProbes s) ageProbes_only j
  · rw [staleProbe_rec, if_pos rfl, h.entry, h.limit]
  · rw [staleProbe_rec, if_neg hl]

theorem staleRun_flag (henabled : (s.probeEntry i).enabled = true) (hfresh : (s.probeRec i).state = .fresh)
    (hlimit : s.probe.staleLimit < min 255 ((s.probeRec i).age + 1)) :
    flagSet .probeStale (forEach staleProbe (ageProbes s)) := by
  refine foldl_reaches (ProbesOnly s) (flagSet .probeStale) State.probeRec staleProbe
    (fun k t h => h.trans staleProbe_only) (fun k t _ j hj => by rw [staleProbe_rec, if_neg hj])
    (fun k t _ h => (flagSet_kept .probeStale).staleProbe k h) (indexes_nodup 128) ageProbes_only
    (mem_indexes i) (ageProbes_rec i) fun u hu hrec => staleProbe_flag ?_
  have hage : (aged (s.probeEntry i) (s.probeRec i)).age = min 255 ((s.probeRec i).age + 1)
      ∧ (aged (s.probeEntry i) (s.probeRec i)).state = .fresh := by
    unfold aged
    rw [if_pos henabled]
    exact ⟨rfl, hfresh⟩
  rw [hu.entry, hu.limit, hrec, henabled, hage.1, hage.2]
  simpa using hlimit

theorem survey_eq : (staleSurvey t).probe = { t.probe with survey := false }
    ∧ staleSurvey t = { t with line := (staleSurvey t).line, probe := (staleSurvey t).probe
                               notice := (staleSurvey t).notice } := by
  have hset : ∀ n, (raise .probeStale (.unit 2) n (setSurvey false t)).probe = { t.probe with survey := false } := by
    intro n
    rw [(raise_keeps ..).1]
    rfl
  refine ⟨?_, by apply state_eq <;> simp⟩
  unfold staleSurvey
  split
  · dsimp only
    split
    · rfl
    · exact hset _
  · next h =>
    have hset : t.probe.survey = false := by simpa using h
    rw [← hset]

theorem probeMinuteRun (hrun : s.running = true) : ∃ t, exec .probeMinute s = .next t
    ∧ (∀ i, t.probeRec i = minuteProbe s i)
    ∧ ((∃ i, (s.probeEntry i).enabled = true ∧ (s.probeRec i).state = .fresh
          ∧ s.probe.staleLimit < min 255 ((s.probeRec i).age + 1)) → (t.cause .probeStale).flag = true)
    ∧ t.probe = { s.probe with recs := t.probe.recs, survey := false }
    ∧ t = { s with line := t.line, probe := t.probe, notice := t.notice } := by
  have hexec : exec .probeMinute s = .next (staleSurvey (forEach staleProbe (ageProbes s))) :=
    whenRunning_running s (fun v => staleSurvey (forEach staleProbe (ageProbes v))) hrun
  have honly := staleRun_only (s := s)
  have hrec := fun j => staleRun_rec (s := s) j
  have hflag := fun i h1 h2 h3 => staleRun_flag (s := s) (i := i) h1 h2 h3
  generalize forEach staleProbe (ageProbes s) = w at *
  obtain ⟨hprobe, hrest⟩ := survey_eq (t := w)
  refine ⟨_, hexec, fun i => ?_, fun ⟨i, h1, h2, h3⟩ => (flagSet_kept .probeStale).staleSurvey (hflag i h1 h2 h3),
    ?_, ?_⟩
  · rw [State.probeRec, hprobe]
    exact hrec i
  · rw [hprobe, honly.probe]
  · rw [hrest, honly.only]

/-! ### PROBE_FORCE (R26) -/

theorem probeForced (hrun : s.running = true) (hroom : s.replyRoom) {b : Bool}
    (hpayload : f.payload = [0x32#8, byteOf i.val, if b then 1#8 else 0#8]) : exec (.probeForce f) s = .next
      (if (s.probeEntry i).enabled = true then
        answered f 0x32#8 .ok [] (modProbe i (fun r => { r with forced := b }) s)
       else answered f 0x32#8 .notFound [] s) := by
  refine exec_request (act := probeForce f) hrun ?_
  have hbool : bool? (if b then 1#8 else 0#8) = some b := by cases b <;> rfl
  have hentry : (takeIntake f s).probeEntry = s.probeEntry := by rw [takeIntake_line]; rfl
  simp only [probeForce, hpayload, idx?_byteOf i (by decide), hbool, hentry]
  split
  · exact reply_changed (act := modProbe i fun r => { r with forced := b }) (fun _ _ => rfl) hroom
  · exact reply_unchanged hroom

theorem probeForce_badArg (hrun : s.running = true) (hroom : s.replyRoom) {x y : Byte}
    (hpayload : f.payload = [0x32#8, x, y]) (hx : 128 ≤ x.toNat) :
    exec (.probeForce f) s = .next (answered f 0x32#8 .badArg [] s) := by
  refine exec_request (act := probeForce f) hrun ?_
  simp only [probeForce, hpayload, CuringRequestProofs.idx?_of_le hx]
  exact reply_unchanged hroom

end

/-- Settles O21. -/
theorem probesFedAndAged : Obligations.ProbesFedAndAged := by
  unfold Obligations.ProbesFedAndAged
  exact ⟨fun s f hrun => ⟨fun l hpos hmax hrange hpayload => sampleTaken hrun hpos hmax hrange hpayload,
    fun n rest hpayload h => sampleMalformed hrun hpayload h⟩, fun s hrun => probeMinuteRun hrun,
    fun s f i b hrun hroom hpayload => probeForced hrun hroom hpayload,
    fun s f x y hrun hroom hpayload hx => probeForce_badArg hrun hroom hpayload hx⟩

end Sys2Proof.ProbeFeedProofs
end

section
/-! SUPPORT. What the warm effects leave of each block, and that they leave it again (O51, R168). -/
namespace Sys2Proof.WarmProofs

open Sys2Proof Sys2Proof.Machine Sys2Proof.StepProofs Sys2Proof.RequestProofs Sys2Proof.TableProofs

/-! ### Tables -/

theorem table_ext {α : Type} {n : Nat} {v w : Vector α n} (h : ∀ i : Fin n, tget v i = tget w i) : v = w :=
  Vector.ext fun i hi => h ⟨i, hi⟩

/-- A table given entry by entry. -/
def tableFn {α : Type} {n : Nat} (f : Fin n → α) : Vector α n := Vector.ofFn f

theorem tget_tableFn {α : Type} {n : Nat} (f : Fin n → α) (i : Fin n) : tget (tableFn f) i = f i := by
  simp [tget, tableFn]

section
variable {s t u : State} {b : Fin 24}

/-! ### The blocks after a warm start -/

/-- A bed's thermal part after a warm start (R46, R73). -/
def warmThermalAt (s : State) (b : Fin 24) (x : Thermal) : Thermal :=
  let y := if s.curingBed b then resumeThermal (s.bedRec b).policy x else x
  if s.watched b then { y with margin := ((s.cureLines b).map fun l =>
    ((s.mix l.mix).estimate x.maturity : Int) - (s.required b l : Int)).min? } else y

/-- The state that the warm effects leave, the notices as they were. -/
def warmed (s : State) : State :=
  { s with
    runway := { s.runway with
      cranes := tmap warmCrane s.runway.cranes, waiting := [], strayReports := 0, opportunities := 0 }
    stock := { s.stock with slots := tmap (fun x => { x with claims := 0 }) s.stock.slots, buried := 0 }
    piece := { s.piece with recs := s.piece.recs.map (warmPiece s.hookPieces) }
    bed := { s.bed with recs := tmap warmBedRec s.bed.recs, duplicates := 0 }
    curing := { s.curing with thermal := tableFn fun b => warmThermalAt s b (s.thermal b) }
    heat := { s.heat with recs := tableFn fun b => warmHeatRec (s.curingBed b) (s.heatRec b), seq := 0, strayAcks := 0 }
    probe := { s.probe with recs := tmap warmProbeRec s.probe.recs, malformed := 0, survey := true } }

theorem recordCause_notice (c : Cause) (v : Subject) (n : Int) (m : Nat) (s : State) :
    recordCause c v n m s = { s with notice := (recordCause c v n m s).notice } := by
  apply state_eq <;> simp

theorem warmPieces_eq (hooks : List Nat) : ∃ x, warmPieces hooks s =
    { s with piece := { s.piece with recs := s.piece.recs.map (warmPiece hooks) }, notice := x } := by
  unfold warmPieces
  dsimp only
  split
  · exact ⟨s.notice, rfl⟩
  · exact ⟨_, recordCause_notice ..⟩

/-! ### The thermal parts -/

theorem resume_maturity (policy : ResumePolicy) (x : Thermal) : (resumeThermal policy x).maturity = x.maturity := by
  unfold resumeThermal
  split
  · rfl
  · rfl
  · split <;> rfl

/-- Only the thermal parts have changed. -/
def ThermalOnly (s t : State) : Prop := t = { s with curing := { s.curing with thermal := t.curing.thermal } }

theorem ThermalOnly.trans (h : ThermalOnly s t) (g : ThermalOnly t u) : ThermalOnly s u := by
  rw [ThermalOnly] at *
  rw [g, h]

theorem ThermalOnly.refl (s : State) : ThermalOnly s s := rfl

theorem thermalOnly_modThermal (g : Thermal → Thermal) : ThermalOnly t (modThermal b g t) := rfl

theorem warmCure_only : ThermalOnly t (warmCure b t) := by
  unfold warmCure
  dsimp only
  repeat' split
  all_goals rfl

theorem warmCure_thermal (h : ThermalOnly s t) (j : Fin 24) : (warmCure b t).thermal j =
    if j = b then warmThermalAt s b (t.thermal b) else t.thermal j := by
  have hcuring : t.curingBed b = s.curingBed b := by rw [h]; rfl
  have hwatched : t.watched b = s.watched b := by rw [h]; rfl
  have hpolicy : (t.bedRec b).policy = (s.bedRec b).policy := by rw [h]; rfl
  have hlines : t.cureLines b = s.cureLines b := by rw [h]; rfl
  have hmix : t.mix = s.mix := by rw [h]; rfl
  have hrequired : t.required b = s.required b := by rw [h]; rfl
  have hmargin : ∀ v : State, ThermalOnly t v → v.bedMargin b = ((s.cureLines b).map fun l =>
      ((s.mix l.mix).estimate (v.thermal b).maturity : Int) - (s.required b l : Int)).min? := by
    intro v hv
    have hlines' : v.cureLines b = t.cureLines b := by rw [hv]; rfl
    have hmix' : v.mix = t.mix := by rw [hv]; rfl
    have hrequired' : v.required b = t.required b := by rw [hv]; rfl
    rw [State.bedMargin, hlines', hlines, hmix', hmix, hrequired', hrequired]
  have hrefresh : ∀ v : State, ThermalOnly t v → s.watched b = true → (refreshMargin b v).thermal j =
      if j = b then { v.thermal b with margin := v.bedMargin b } else v.thermal j := by
    intro v hv hw
    have hwatched' : v.watched b = true := by
      have hsame : v.watched b = t.watched b := by rw [hv]; rfl
      rw [hsame, hwatched, hw]
    refine (modThermal_thermal (s := v) b (fun x => { x with margin := if v.watched b then v.bedMargin b else none }) j).trans ?_
    simp only [hwatched', if_true]
  have hresumed : ∀ i, (modThermal b (resumeThermal (t.bedRec b).policy) t).thermal i =
      if i = b then resumeThermal (s.bedRec b).policy (t.thermal b) else t.thermal i := by
    intro i
    rw [← hpolicy]
    exact modThermal_thermal (s := t) b _ i
  have hsame : (if j = b then t.thermal b else t.thermal j) = t.thermal j := by
    by_cases hj : j = b
    · rw [if_pos hj, hj]
    · rw [if_neg hj]
  unfold warmCure warmThermalAt
  simp only [hwatched, hcuring]
  cases s.curingBed b with
  | true =>
    cases hw : s.watched b with
    | true =>
      simp only [if_true]
      rw [hrefresh _ (thermalOnly_modThermal _) hw, hmargin _ (thermalOnly_modThermal _), hresumed, hresumed, if_pos rfl,
        resume_maturity]
      by_cases hj : j = b
      · rw [if_pos hj, if_pos hj, ← resume_maturity (s.bedRec b).policy (t.thermal b)]
      · rw [if_neg hj, if_neg hj, if_neg hj]
    | false =>
      simp only [if_true, Bool.false_eq_true, if_false]
      exact hresumed j
  | false =>
    cases hw : s.watched b with
    | true =>
      simp only [if_true, Bool.false_eq_true, if_false]
      rw [hrefresh t (.refl t) hw, hmargin t (.refl t)]
    | false =>
      simp only [Bool.false_eq_true, if_false]
      exact hsame.symm

theorem forEach_warmCure : forEach warmCure s =
    { s with curing := { s.curing with thermal := tableFn fun b => warmThermalAt s b (s.thermal b) } } := by
  have honly : ThermalOnly s (forEach warmCure s) :=
    forEach_induction s (ThermalOnly s) _ (fun _ _ h => h.trans warmCure_only) (.refl s)
  have hthermal : ∀ j, (forEach warmCure s).thermal j = warmThermalAt s j (s.thermal j) :=
    forEach_at (ThermalOnly s) State.thermal warmCure (fun b => warmThermalAt s b)
      (fun _ _ h => h.trans warmCure_only) (fun b t h => by rw [warmCure_thermal h, if_pos rfl])
      (fun b t j hj => by rw [warmCure_thermal (.refl t), if_neg hj]) s (.refl s)
  have htable : (forEach warmCure s).curing.thermal = tableFn fun b => warmThermalAt s b (s.thermal b) :=
    table_ext fun j => (hthermal j).trans (tget_tableFn (fun b => warmThermalAt s b (s.thermal b)) j).symm
  rw [honly, htable]

/-! ### The heat records -/

theorem forEach_warmHeatBed : forEach warmHeatBed s =
    { s with heat := { s.heat with recs := tableFn fun b => warmHeatRec (s.curingBed b) (s.heatRec b) } } := by
  have hinv : ∀ (b : Fin 24) (t : State), t = { s with heat := { s.heat with recs := t.heat.recs } } →
      warmHeatBed b t = { s with heat := { s.heat with recs := (warmHeatBed b t).heat.recs } } := by
    intro b t h
    have hstep : warmHeatBed b t = { t with heat := { t.heat with recs := (warmHeatBed b t).heat.recs } } := rfl
    rw [hstep, h]
  have honly := forEach_induction s (fun t => t = { s with heat := { s.heat with recs := t.heat.recs } }) warmHeatBed
    (fun b t h => hinv b t h) rfl
  have hread : ∀ (b : Fin 24) (t : State) (j : Fin 24), (warmHeatBed b t).heatRec j =
      if j = b then warmHeatRec (t.curingBed b) (t.heatRec b) else t.heatRec j :=
    fun b t j => modHeat_heatRec (s := t) b (warmHeatRec (t.curingBed b)) j
  have hrec : ∀ j, (forEach warmHeatBed s).heatRec j = warmHeatRec (s.curingBed j) (s.heatRec j) := by
    refine forEach_at (fun t => t = { s with heat := { s.heat with recs := t.heat.recs } }) State.heatRec warmHeatBed
      (fun b => warmHeatRec (s.curingBed b)) (fun b t h => hinv b t h) (fun b t h => ?_)
      (fun b t j hj => by rw [hread, if_neg hj]) s rfl
    have hcuring : t.curingBed b = s.curingBed b := by rw [h]; rfl
    rw [hread, if_pos rfl, hcuring]
  have htable : (forEach warmHeatBed s).heat.recs = tableFn fun b => warmHeatRec (s.curingBed b) (s.heatRec b) :=
    table_ext fun j => (hrec j).trans (tget_tableFn (fun b => warmHeatRec (s.curingBed b) (s.heatRec b)) j).symm
  rw [honly, htable]

/-! ### The warm effects together -/

theorem blindAtStart_notice : blindAtStart b t = { t with notice := (blindAtStart b t).notice } := by
  unfold blindAtStart
  split
  · exact recordCause_notice ..
  · rfl

theorem forEach_blindAtStart : forEach blindAtStart s = { s with notice := (forEach blindAtStart s).notice } :=
  forEach_induction s (fun t => t = { s with notice := t.notice }) blindAtStart
    (fun b t h => by rw [blindAtStart_notice, h]) rfl

theorem warmBedRec_curing (r : BedRec) : decide ((warmBedRec r).state = .curing) = decide (r.state = .curing) := by
  unfold warmBedRec
  cases r.state <;> rfl

theorem warmBedRec_watched (r : BedRec) : watchedState (warmBedRec r).state = watchedState r.state := by
  unfold warmBedRec
  cases r.state <;> rfl

/-- A state whose beds are those of a warm start. -/
def WarmBedsOf (s t : State) : Prop := (∀ b, t.bedRec b = warmBedRec (s.bedRec b)) ∧ t.curing = s.curing

theorem WarmBedsOf.curingBed (h : WarmBedsOf s t) (b : Fin 24) : t.curingBed b = s.curingBed b := by
  rw [State.curingBed, State.curingBed, h.1, warmBedRec_curing]

theorem WarmBedsOf.thermal (h : WarmBedsOf s t) (b : Fin 24) :
    warmThermalAt t b (t.thermal b) = warmThermalAt s b (s.thermal b) := by
  have hwatched : t.watched b = s.watched b := by rw [State.watched, State.watched, h.1, warmBedRec_watched]
  have hpolicy : (t.bedRec b).policy = (s.bedRec b).policy := by rw [h.1]; rfl
  have hlines : t.cureLines b = s.cureLines b := by rw [State.cureLines, State.cureLines, h.1]; rfl
  have hmix : t.mix = s.mix := by
    funext i
    rw [State.mix, State.mix, h.2]
  have hrequired : t.required b = s.required b := by
    funext l
    rw [State.required, State.required, h.1, hmix]
    rfl
  have hthermal : t.thermal b = s.thermal b := by rw [State.thermal, State.thermal, h.2]
  simp only [warmThermalAt, h.curingBed, hwatched, hpolicy, hlines, hmix, hrequired, hthermal]

theorem warmHeat_eq : warmHeat s = { s with heat := { s.heat with
    recs := tableFn fun b => warmHeatRec (s.curingBed b) (s.heatRec b), seq := 0, strayAcks := 0 } } := by
  rw [warmHeat, forEach_warmHeatBed]

theorem warmProbes_eq : warmProbes s = { s with
    probe := { s.probe with recs := tmap warmProbeRec s.probe.recs, malformed := 0, survey := true }
    notice := (warmProbes s).notice } :=
  forEach_blindAtStart

/-- The yard and the beds after their warm effects. -/
theorem warmYard_eq : ∃ x, warmBeds (warmPieces s.hookPieces (warmStock (warmRunway s))) = { s with
    runway := (warmed s).runway, stock := (warmed s).stock, piece := (warmed s).piece, bed := (warmed s).bed
    notice := x } := by
  obtain ⟨x, hpieces⟩ := warmPieces_eq (s := warmStock (warmRunway s)) s.hookPieces
  exact ⟨x, by rw [hpieces]; rfl⟩

theorem warmEffects_eq : warmEffects s = { warmed s with notice := (warmEffects s).notice } := by
  obtain ⟨x, hyard⟩ := warmYard_eq (s := s)
  have hunfold : warmEffects s = warmProbes (warmHeat (forEach warmCure
      (warmBeds (warmPieces s.hookPieces (warmStock (warmRunway s)))))) := rfl
  generalize warmBeds (warmPieces s.hookPieces (warmStock (warmRunway s))) = y at *
  have hbed : y.bed = (warmed s).bed := by rw [hyard]
  have hcuringUnit : y.curing = s.curing := by rw [hyard]
  have hheatUnit : y.heat = s.heat := by rw [hyard]
  have hbeds : WarmBedsOf s y := by
    refine ⟨fun b => ?_, hcuringUnit⟩
    rw [State.bedRec, hbed]
    exact tget_tmap ..
  have hcured : forEach warmCure y = { y with curing := (warmed s).curing } := by
    rw [forEach_warmCure]
    simp only [hbeds.thermal, hbeds.2]
    rfl
  have hcuring : ({ y with curing := (warmed s).curing } : State).curingBed = s.curingBed := funext hbeds.curingBed
  have hrecs : ({ y with curing := (warmed s).curing } : State).heatRec = s.heatRec := by
    funext b
    rw [State.heatRec, State.heatRec, hheatUnit]
  have hheat := warmHeat_eq (s := { y with curing := (warmed s).curing })
  rw [hcuring, hrecs] at hheat
  have hwarm : warmHeat { y with curing := (warmed s).curing } =
      { warmed s with probe := s.probe, notice := x } := by
    rw [hheat, hheatUnit, hyard]
    apply state_eq <;> rfl
  rw [hcured, hwarm] at hunfold
  rw [hunfold]
  exact warmProbes_eq.trans (by apply state_eq <;> rfl)

/-! ### What a warm start reads -/

/-- Two states of which a warm start leaves the same, but for the line unit, the notices and the supervisor. -/
def SameStart (s t : State) : Prop := warmed t = { warmed s with line := t.line, notice := t.notice, sup := t.sup }

theorem SameStart.trans (h : SameStart s t) (g : SameStart t u) : SameStart s u := by
  rw [SameStart] at *
  rw [g, h]

theorem tmap_tmap {α β γ : Type} {n : Nat} (f : α → β) (g : β → γ) (v : Vector α n) :
    tmap g (tmap f v) = tmap (fun x => g (f x)) v := table_ext fun i => by simp

theorem warmThermalAt_congr (hwatched : t.watched b = s.watched b) (hcuring : t.curingBed b = s.curingBed b)
    (hpolicy : (t.bedRec b).policy = (s.bedRec b).policy) (hlines : t.cureLines b = s.cureLines b)
    (hmix : t.mix = s.mix) (hrequired : t.required b = s.required b) : warmThermalAt t b = warmThermalAt s b := by
  funext x
  simp only [warmThermalAt, hwatched, hcuring, hpolicy, hlines, hmix, hrequired]

theorem sameStart_plain {line : LineUnit} {notice : NoticeUnit} {sup : Supervisor} :
    SameStart s { s with line := line, notice := notice, sup := sup } := by
  have hthermal : ∀ b, warmThermalAt { s with line := line, notice := notice, sup := sup } b = warmThermalAt s b :=
    fun b => warmThermalAt_congr rfl rfl rfl rfl rfl rfl
  apply state_eq
  case curing =>
    simp only [warmed, hthermal]
    rfl
  all_goals rfl

/-! ### A loss of power before a warm start (R165) -/

theorem lose_bedRec : (loseVolatile s).bedRec b = untimeBed (s.bedRec b) := tget_tmap ..

theorem lose_hook (c : Fin 4) : ((loseVolatile s).crane c).hook = (s.crane c).hook := by
  have hcrane : (loseVolatile s).crane c = untimeCrane (s.crane c) := tget_tmap ..
  rw [hcrane]
  rfl

theorem sameStart_lose : SameStart s (loseVolatile s) := by
  have hhooks : (loseVolatile s).hookPieces = s.hookPieces := by simp only [State.hookPieces, lose_hook]
  have hcuring : ∀ b, (loseVolatile s).curingBed b = s.curingBed b := fun b => by
    rw [State.curingBed, State.curingBed, lose_bedRec]
    rfl
  have hthermal : ∀ b, warmThermalAt (loseVolatile s) b = warmThermalAt s b := by
    intro b
    refine warmThermalAt_congr ?_ (hcuring b) ?_ ?_ rfl ?_
    · rw [State.watched, State.watched, lose_bedRec]
      rfl
    · rw [lose_bedRec]
      rfl
    · rw [State.cureLines, State.cureLines, lose_bedRec]
      rfl
    · funext l
      rw [State.required, State.required, lose_bedRec]
      rfl
  have hheat : ∀ b, (loseVolatile s).heatRec b = untimeHeat (s.heatRec b) := fun b => tget_tmap ..
  have huntimed : ∀ c h, warmHeatRec c (untimeHeat h) = warmHeatRec c h := fun _ _ => rfl
  apply state_eq
  case curing =>
    simp only [warmed, hthermal]
    rfl
  case heat =>
    simp only [warmed, hcuring, hheat, huntimed]
    rfl
  case piece =>
    simp only [warmed, hhooks]
    rfl
  case bed =>
    have hrecs : tmap warmBedRec (tmap untimeBed s.bed.recs) = tmap warmBedRec s.bed.recs := tmap_tmap ..
    have hbed : (warmed (loseVolatile s)).bed =
        { s.bed with recs := tmap warmBedRec (tmap untimeBed s.bed.recs), duplicates := 0 } := rfl
    rw [hbed, hrecs]
    rfl
  case runway =>
    have hcranes : tmap warmCrane (tmap untimeCrane s.runway.cranes) = tmap warmCrane s.runway.cranes := tmap_tmap ..
    have hrunway : (warmed (loseVolatile s)).runway = { s.runway with
        cranes := tmap warmCrane (tmap untimeCrane s.runway.cranes), waiting := [], strayReports := 0
        opportunities := 0 } := rfl
    rw [hrunway, hcranes]
    rfl
  all_goals rfl

/-! ### The warm effects taken again -/

theorem warmed_curing : (warmed s).curing =
    { s.curing with thermal := tableFn fun b => warmThermalAt s b (s.thermal b) } := rfl

theorem warmed_heat : (warmed s).heat = { s.heat with
    recs := tableFn fun b => warmHeatRec (s.curingBed b) (s.heatRec b), seq := 0, strayAcks := 0 } := rfl

theorem warmed_piece : (warmed s).piece = { s.piece with recs := s.piece.recs.map (warmPiece s.hookPieces) } := rfl

theorem warmed_bed : (warmed s).bed = { s.bed with recs := tmap warmBedRec s.bed.recs, duplicates := 0 } := rfl

theorem warmed_stock : (warmed s).stock = { s.stock with
    slots := tmap (fun x => { x with claims := 0 }) s.stock.slots, buried := 0 } := rfl

theorem warmed_runway : (warmed s).runway = { s.runway with
    cranes := tmap warmCrane s.runway.cranes, waiting := [], strayReports := 0, opportunities := 0 } := rfl

theorem warmed_probe : (warmed s).probe = { s.probe with
    recs := tmap warmProbeRec s.probe.recs, malformed := 0, survey := true } := rfl

theorem warmed_bedRec : (warmed s).bedRec b = warmBedRec (s.bedRec b) := tget_tmap ..

theorem warmed_thermal : (warmed s).thermal b = warmThermalAt s b (s.thermal b) :=
  tget_tableFn (fun b => warmThermalAt s b (s.thermal b)) b

theorem warmed_heatRec : (warmed s).heatRec b = warmHeatRec (s.curingBed b) (s.heatRec b) :=
  tget_tableFn (fun b => warmHeatRec (s.curingBed b) (s.heatRec b)) b

theorem warmed_curingBed : (warmed s).curingBed b = s.curingBed b := by
  rw [State.curingBed, State.curingBed, warmed_bedRec, warmBedRec_curing]

theorem warmed_hookPieces : (warmed s).hookPieces = [] := by
  have hhook : ∀ c, ((warmed s).crane c).hook = none := fun c => by
    have hcrane : (warmed s).crane c = {} := tget_tmap ..
    rw [hcrane]
  simp only [State.hookPieces, hhook, List.filterMap_none]

theorem warmPiece_again (hooks : List Nat) (p : Piece) : warmPiece [] (warmPiece hooks p) = warmPiece hooks p := by
  unfold warmPiece
  split
  · rfl
  · split
    · simp
    · simp

theorem warmBedRec_again (r : BedRec) : warmBedRec (warmBedRec r) = warmBedRec r := by
  unfold warmBedRec
  cases r.state <;> rfl

theorem warmHeatRec_again (c : Bool) (h : HeatRec) : warmHeatRec c (warmHeatRec c h) = warmHeatRec c h := by
  unfold warmHeatRec
  cases c with
  | true => rfl
  | false => cases h.state <;> rfl

theorem resumeThermal_again (policy : ResumePolicy) (x : Thermal) (m : Option Int) :
    resumeThermal policy { resumeThermal policy x with margin := m } = { resumeThermal policy x with margin := m } := by
  cases policy with
  | resume => rfl
  | hold => rfl
  | cool => cases h : x.phase <;> simp [resumeThermal, coolsAtStart, warmThermal, h]

theorem warmThermalAt_again : warmThermalAt (warmed s) b (warmThermalAt s b (s.thermal b)) =
    warmThermalAt s b (s.thermal b) := by
  have hsame : warmThermalAt (warmed s) b = warmThermalAt s b := by
    have hmix : (warmed s).mix = s.mix := by
      funext i
      rw [State.mix, warmed_curing, State.mix]
    refine warmThermalAt_congr ?_ warmed_curingBed ?_ ?_ hmix ?_
    · rw [State.watched, State.watched, warmed_bedRec, warmBedRec_watched]
    · rw [warmed_bedRec]
      rfl
    · rw [State.cureLines, State.cureLines, warmed_bedRec]
      rfl
    · funext l
      rw [State.required, State.required, warmed_bedRec, hmix]
      rfl
  rw [hsame]
  unfold warmThermalAt
  cases s.curingBed b with
  | true =>
    cases s.watched b with
    | true =>
      simp only [if_true, resumeThermal_again]
      simp only [resume_maturity]
    | false =>
      simp only [if_true, Bool.false_eq_true, if_false]
      exact resumeThermal_again _ _ (resumeThermal (s.bedRec b).policy (s.thermal b)).margin
  | false =>
    cases s.watched b with
    | true => simp only [if_true, Bool.false_eq_true, if_false]
    | false => simp only [Bool.false_eq_true, if_false]

theorem warmed_again : warmed (warmed s) = warmed s := by
  apply state_eq
  case curing =>
    have hthermal : (tableFn fun b => warmThermalAt (warmed s) b ((warmed s).thermal b)) =
        tableFn fun b => warmThermalAt s b (s.thermal b) :=
      congrArg tableFn (funext fun b => by rw [warmed_thermal, warmThermalAt_again])
    rw [warmed_curing, hthermal, warmed_curing]
  case heat =>
    have hrecs : (tableFn fun b => warmHeatRec ((warmed s).curingBed b) ((warmed s).heatRec b)) =
        tableFn fun b => warmHeatRec (s.curingBed b) (s.heatRec b) :=
      congrArg tableFn (funext fun b => by rw [warmed_curingBed, warmed_heatRec, warmHeatRec_again])
    rw [warmed_heat, hrecs, warmed_heat]
  case piece =>
    have hrecs : (s.piece.recs.map (warmPiece s.hookPieces)).map (warmPiece []) =
        s.piece.recs.map (warmPiece s.hookPieces) := by
      rw [List.map_map]
      exact List.map_congr_left fun p _ => warmPiece_again s.hookPieces p
    rw [warmed_piece, warmed_hookPieces, warmed_piece, hrecs]
  case bed =>
    have hrecs : tmap warmBedRec (tmap warmBedRec s.bed.recs) = tmap warmBedRec s.bed.recs := by
      rw [tmap_tmap]
      exact congrArg (tmap · s.bed.recs) (funext warmBedRec_again)
    rw [warmed_bed, warmed_bed, hrecs]
  case stock => rw [warmed_stock, warmed_stock, tmap_tmap]
  case runway =>
    rw [warmed_runway, warmed_runway, tmap_tmap]
    rfl
  case probe =>
    rw [warmed_probe, warmed_probe, tmap_tmap]
    rfl
  all_goals rfl

theorem sameStart_warmed : SameStart s (warmed s) := by
  rw [SameStart, warmed_again]

end

end Sys2Proof.WarmProofs
end

section
/-! SUPPORT. The notices of a start: which causes are flagged and which records are queued (O51, R156, R164, R168). -/
namespace Sys2Proof.StartNoticeProofs

open Sys2Proof Sys2Proof.Machine Sys2Proof.StepProofs Sys2Proof.RequestProofs Sys2Proof.TableProofs
  Sys2Proof.LineProofs Sys2Proof.WarmProofs

section
variable {s t u : State} {fl : Cause → Bool} {q : List Notice} {c : Cause} {sub : Subject} {v : Int}

/-- The record that a cause of `s` has in the queue, none where it is masked (R156). -/
def recorded (s : State) (c : Cause) (sub : Subject) (v : Int) : List Notice :=
  if (s.cause c).masked = true then [] else
    [{ cause := c, cls := (s.cause c).cls, subject := sub, value := v, second := 0, minute := s.sup.worksMinute }]

theorem length_recorded : (recorded s c sub v).length ≤ 1 := by
  unfold recorded
  split <;> simp

/-- The causes have the masks and classes of `s`, the flags `fl`, and the queue is `q`. -/
def Noted (s : State) (fl : Cause → Bool) (q : List Notice) (t : State) : Prop :=
  t.notice.queue = q ∧ (∀ c, t.cause c = { s.cause c with flag := fl c }) ∧ t.sup.worksMinute = s.sup.worksMinute

/-- The level of ATTN plays no part. -/
theorem Noted.level (h : Noted s fl q t) (hqueue : u.notice.queue = t.notice.queue)
    (hcauses : u.notice.causes = t.notice.causes) (hminute : u.sup.worksMinute = t.sup.worksMinute) :
    Noted s fl q u := by
  obtain ⟨hqueued, hflagged, hsame⟩ := h
  refine ⟨by rw [hqueue, hqueued], fun c => ?_, by rw [hminute, hsame]⟩
  rw [State.cause, hcauses]
  exact hflagged c

theorem Noted.congr (h : Noted s fl q t) (hnotice : u.notice = t.notice) (hsup : u.sup = t.sup) : Noted s fl q u :=
  h.level (by rw [hnotice]) (by rw [hnotice]) (by rw [hsup])

theorem Noted.flags {fl' : Cause → Bool} (h : Noted s fl q t) (hflags : ∀ d, fl d = fl' d) : Noted s fl' q t := by
  rwa [← funext hflags]

/-- The flags with one more set. -/
def flagging (fl : Cause → Bool) (c d : Cause) : Bool := fl d || decide (d = c)

theorem Noted.record (h : Noted s fl q t) (hc : c ≠ .noticeOverflow) (hroom : q.length < 32) :
    Noted s (flagging fl c) (q ++ recorded s c sub v) (recordCause c sub v 0 t) := by
  obtain ⟨hqueue, hcauses, hminute⟩ := h
  have hflags : ∀ d, (modCause c (fun k => { k with flag := true }) t).cause d =
      { s.cause d with flag := flagging fl c d } := by
    intro d
    rw [modCause_cause]
    split
    · next hd => simp [hcauses, hd, flagging]
    · next hd => simp [hcauses, hd, flagging]
  cases hmask : (t.cause c).masked with
  | true =>
    have hs : (s.cause c).masked = true := by rw [hcauses] at hmask; exact hmask
    rw [recordCause_unqueued (.inl hmask), recorded, if_pos hs, List.append_nil]
    exact ⟨hqueue, hflags, hminute⟩
  | false =>
    have hs : (s.cause c).masked = false := by rw [hcauses] at hmask; exact hmask
    rw [recordCause_queued hmask hc (by rw [hqueue]; exact hroom), recorded, if_neg (by simp [hs])]
    refine ⟨?_, hflags, hminute⟩
    have hcls : (t.cause c).cls = (s.cause c).cls := by rw [hcauses]
    simp [hqueue, NoticeQueueProofs.noticeOf, hcls, hminute]

/-! ### START (R164) -/

theorem cleared_cause (d : Cause) : (clearNotices s).cause d = { s.cause d with flag := false } := tget_tmap ..

theorem clearNotices_noted : Noted s (fun _ => false) [] (clearNotices s) :=
  ⟨rfl, cleared_cause, rfl⟩

theorem startNotices_noted (kind : StartKind) :
    Noted s (fun d => decide (d = .start)) (recorded s .start .part kind.code) (startNotices kind s) :=
  clearNotices_noted.record (by simp) (by simp)

theorem startNotices_only (kind : StartKind) : startNotices kind s = { s with notice := (startNotices kind s).notice } := by
  rw [startNotices, recordCause_only]
  rfl

/-! ### The beds blind at a start (R31, R34) -/

/-- The records of the beds of a list that are blind at a start. -/
def blindRecords (s : State) (l : List (Fin 24)) : List Notice :=
  (l.filter s.watched).flatMap fun b => recorded s .bedBlind (.bed b) 0

theorem watched_of_bed (h : t.bed = s.bed) : t.watched = s.watched := by
  funext b
  rw [State.watched, State.watched, State.bedRec, State.bedRec, h]

theorem blind_noted (l : List (Fin 24)) (h : Noted s fl q t) (hbed : t.watched = s.watched)
    (hroom : q.length + l.length ≤ 32) :
    Noted s (fun d => fl d || (decide (d = .bedBlind) && l.any s.watched)) (q ++ blindRecords s l)
      (l.foldl (fun t b => blindAtStart b t) t) := by
  induction l generalizing t fl q with
  | nil => simpa [blindRecords] using h
  | cons b l ih =>
    have hbedUnit : (blindAtStart b t).bed = t.bed := by rw [blindAtStart_notice]
    have hwatched : (blindAtStart b t).watched = s.watched := (watched_of_bed hbedUnit).trans hbed
    rw [List.length_cons] at hroom
    rw [List.foldl_cons]
    cases hw : s.watched b with
    | true =>
      have hstep : blindAtStart b t = recordCause .bedBlind (.bed b) 0 0 t := if_pos (by rw [hbed, hw])
      have hnoted : Noted s (flagging fl .bedBlind) (q ++ recorded s .bedBlind (.bed b) 0) (blindAtStart b t) := by
        rw [hstep]
        exact h.record (by simp) (by omega)
      have hlength : (q ++ recorded s .bedBlind (.bed b) 0).length + l.length ≤ 32 := by
        have hone := length_recorded (s := s) (c := .bedBlind) (sub := .bed b) (v := 0)
        rw [List.length_append]
        omega
      have hrecords : blindRecords s (b :: l) = recorded s .bedBlind (.bed b) 0 ++ blindRecords s l := by
        simp [blindRecords, hw]
      have hall := ih hnoted hwatched hlength
      rw [List.append_assoc, ← hrecords] at hall
      refine hall.flags fun d => ?_
      rw [flagging, List.any_cons, hw, Bool.true_or, Bool.and_true]
      cases decide (d = Cause.bedBlind) <;> simp
    | false =>
      have hstep : blindAtStart b t = t := if_neg (by rw [hbed, hw]; simp)
      have hrecords : blindRecords s (b :: l) = blindRecords s l := by simp [blindRecords, hw]
      have hall := ih h hbed (by omega)
      rw [hstep, hrecords, List.any_cons, hw, Bool.false_or]
      exact hall

/-! ### The notices of a warm start -/

/-- The records of a warm start that makes `n` pieces AT_LARGE (R168). -/
theorem warmQueue_eq (n : Nat) : s.warmQueue n = recorded s .start .part 1 ++
    (if n = 0 then [] else recorded s .pieceAtLarge (.unit 6) n) ++ blindRecords s (indexes 24) := rfl

/-- The number of records that a warm start of `s` makes AT_LARGE (R92). -/
def atLargeCount (s : State) : Nat :=
  s.piece.recs.countP fun p => (indexes 4).any fun c => (s.crane c).hook = some p.mark

theorem contains_hookPieces (m : Nat) : s.hookPieces.contains m = (indexes 4).any fun c => (s.crane c).hook = some m := by
  rw [Bool.eq_iff_iff]
  simp [State.hookPieces, mem_indexes]

theorem stranded_hookPieces : s.stranded s.hookPieces = atLargeCount s := by
  simp only [State.stranded, contains_hookPieces, atLargeCount]

/-- The flags of a warm start. -/
def warmFlag (s : State) (c : Cause) : Bool :=
  decide (c = .start ∨ (c = .bedBlind ∧ ∃ b, s.watched b = true) ∨ (c = .pieceAtLarge ∧ atLargeCount s ≠ 0))

theorem warmPieces_noted (h : Noted s fl q t) (hroom : q.length < 32) (hooks : List Nat) :
    Noted s (fun d => fl d || (decide (d = .pieceAtLarge) && decide (t.stranded hooks ≠ 0)))
      (q ++ if t.stranded hooks = 0 then [] else recorded s .pieceAtLarge (.unit 6) (t.stranded hooks))
      (warmPieces hooks t) := by
  have hset : Noted s fl q (setPieces (t.piece.recs.map (warmPiece hooks)) t) := h.congr rfl rfl
  unfold warmPieces
  dsimp only
  by_cases hn : t.stranded hooks = 0
  · rw [if_pos hn, if_pos hn]
    simpa [hn] using hset
  · rw [if_neg hn, if_neg hn]
    exact (hset.record (by simp) hroom).flags fun d => by simp [flagging, hn]

theorem warmHeat_notice : (warmHeat t).notice = t.notice ∧ (warmHeat t).sup = t.sup ∧ (warmHeat t).bed = t.bed := by
  rw [warmHeat_eq]
  exact ⟨rfl, rfl, rfl⟩

theorem warmCures_notice : (forEach warmCure t).notice = t.notice ∧ (forEach warmCure t).sup = t.sup
    ∧ (forEach warmCure t).bed = t.bed := by
  rw [forEach_warmCure]
  exact ⟨rfl, rfl, rfl⟩

/-- The warm effects add PIECE_AT_LARGE and BED_BLIND to the notices (R31, R101). -/
theorem warmEffects_noted (h : Noted s (fun d => decide (d = .start)) (recorded s .start .part 1) t)
    (hpiece : t.piece = s.piece) (hrunway : t.runway = s.runway) (hbed : t.bed = s.bed) :
    Noted s (warmFlag s) (s.warmQueue (atLargeCount s)) (warmEffects t) := by
  have hone := length_recorded (s := s) (c := .start) (sub := .part) (v := 1)
  have hhooks : t.hookPieces = s.hookPieces := by
    simp only [State.hookPieces, State.crane, hrunway]
  have hstranded : (warmStock (warmRunway t)).stranded t.hookPieces = atLargeCount s := by
    have hsame : (warmStock (warmRunway t)).stranded t.hookPieces = t.stranded t.hookPieces := rfl
    rw [hsame, hhooks, State.stranded, hpiece]
    exact stranded_hookPieces
  have hyard : Noted s (fun d => decide (d = .start)) (recorded s .start .part 1) (warmStock (warmRunway t)) :=
    h.congr rfl rfl
  have hpieces := warmPieces_noted hyard (by omega) t.hookPieces
  rw [hstranded] at hpieces
  obtain ⟨x, hpiecesOnly⟩ := warmPieces_eq (s := warmStock (warmRunway t)) t.hookPieces
  have hpiecesBed : (warmPieces t.hookPieces (warmStock (warmRunway t))).bed = s.bed := by
    rw [hpiecesOnly, ← hbed]
    rfl
  have hunfold : warmEffects t = warmProbes (warmHeat (forEach warmCure (warmBeds
      (warmPieces t.hookPieces (warmStock (warmRunway t)))))) := rfl
  rw [warmQueue_eq, hunfold]
  generalize warmPieces t.hookPieces (warmStock (warmRunway t)) = y at *
  obtain ⟨hcureNotice, hcureSup, hcureBed⟩ := warmCures_notice (t := warmBeds y)
  obtain ⟨hnotice, hsup, hheatBed⟩ := warmHeat_notice (t := forEach warmCure (warmBeds y))
  generalize warmHeat (forEach warmCure (warmBeds y)) = z at *
  have hwatched : z.watched = s.watched := by
    funext b
    have hrec : z.bedRec b = warmBedRec (s.bedRec b) := by
      rw [State.bedRec, hheatBed, hcureBed, State.bedRec, ← hpiecesBed]
      exact tget_tmap ..
    rw [State.watched, State.watched, hrec, warmBedRec_watched]
  have hblind := blind_noted (indexes 24)
    (t := { z with probe := { z.probe with recs := tmap warmProbeRec z.probe.recs, malformed := 0, survey := true } })
    (hpieces.congr (hnotice.trans hcureNotice) (hsup.trans hcureSup)) hwatched ?_
  · refine hblind.flags fun d => ?_
    have hany : (indexes 24).any s.watched = decide (∃ b, s.watched b = true) := by
      rw [Bool.eq_iff_iff]
      simp [mem_indexes]
    rw [hany, warmFlag]
    cases d <;> simp
  · have hatLarge : (if atLargeCount s = 0 then [] else
        recorded s .pieceAtLarge (.unit 6) (atLargeCount s)).length ≤ 1 := by
      split
      · simp
      · exact length_recorded
    have hbeds : (indexes 24).length = 24 := by decide
    rw [List.length_append, hbeds]
    omega

end

end Sys2Proof.StartNoticeProofs
end

section
/-! PROOF. O51: the starts of the part, and a start cut off (chapter 11). -/
namespace Sys2Proof.StartProofs

open Sys2Proof Sys2Proof.Machine Sys2Proof.StepProofs Sys2Proof.RequestProofs Sys2Proof.TableProofs
  Sys2Proof.LineProofs Sys2Proof.WarmProofs Sys2Proof.StartNoticeProofs

section
variable {s t u : State} {strap : Station} {k : Nat}

/-- The state in which a start's steps begin: the part on, and the strap read. -/
def strapped (strap : Station) (s : State) : State :=
  { s with sup := { s.sup with station := strap, powered := true, resetHeld := false } }

/-! ### A warm start's state (R167, R168) -/

/-- What a warm start leaves of a state, with the notices given. -/
def warmDone (strap : Station) (s : State) (x : NoticeUnit) : State :=
  { warmed s with
    line := s.line.started, notice := x
    sup := { s.sup with station := strap, kind := .warm, powered := true, resetHeld := false, minuteTimer := 0 } }

theorem warmThermalAt_margin (b : Fin 24) : (warmThermalAt s b (s.thermal b)).margin =
    if s.watched b = true then s.bedMargin b else (s.thermal b).margin := by
  have hmaturity : (if s.curingBed b then resumeThermal (s.bedRec b).policy (s.thermal b)
      else s.thermal b).maturity = (s.thermal b).maturity := by
    split
    · exact resume_maturity ..
    · rfl
  have hmargin : ∀ policy x, (resumeThermal policy x).margin = x.margin := by
    intro policy x
    cases policy with
    | resume => rfl
    | hold => rfl
    | cool => unfold resumeThermal; dsimp only; split <;> rfl
  cases hw : s.watched b with
  | true => simp only [warmThermalAt, hw, if_true, hmaturity, State.bedMargin]
  | false =>
    simp only [warmThermalAt, hw, Bool.false_eq_true, if_false]
    split
    · exact hmargin ..
    · rfl

theorem warmThermalAt_idle {b : Fin 24} (h : s.curingBed b = false) (x : Thermal) :
    warmThermalAt s b x = { x with margin := (warmThermalAt s b x).margin } := by
  simp only [warmThermalAt, h, Bool.false_eq_true, if_false]
  split <;> rfl

theorem warmThermalAt_curing {b : Fin 24} (h : s.curingBed b = true) (x : Thermal) : warmThermalAt s b x =
    { resumeThermal (s.bedRec b).policy x with margin := (warmThermalAt s b x).margin } := by
  simp only [warmThermalAt, h, if_true]
  split <;> rfl

theorem warmPiece_eq (p : Piece) : warmPiece s.hookPieces p =
    if ∃ c, (s.crane c).hook = some p.mark then
      { p with state := .atLarge, location := .none, ready := false }
    else if p.state = .inStock then { p with flags := { p.flags with outage := true } } else p := by
  have hhook : s.hookPieces.contains p.mark = true ↔ ∃ c, (s.crane c).hook = some p.mark := by
    rw [contains_hookPieces]
    simp [mem_indexes]
  simp only [warmPiece, hhook]

/-- The state of `warmDone` has what R168 and its rules say, when its notices do. -/
theorem warmDone_started {x : NoticeUnit} (hnoted : Noted s (warmFlag s) (s.warmQueue (atLargeCount s)) (warmDone strap s x))
    (hattn : x.attn = attnLevel x.causes) : warmStarted strap s (warmDone strap s x) := by
  obtain ⟨hqueue, hcauses, -⟩ := hnoted
  have hthermal : ∀ b, (warmDone strap s x).thermal b = warmThermalAt s b (s.thermal b) := fun b => warmed_thermal
  refine ⟨rfl, rfl, rfl, fun c => tget_tmap .., rfl, fun n => tget_tmap .., rfl, ?_, fun b => warmed_bedRec, rfl, ?_, ?_,
    ?_, rfl, ?_, rfl, fun i => tget_tmap .., rfl, hcauses, hqueue, hattn, rfl⟩
  · exact List.map_congr_left fun p _ => warmPiece_eq p
  · intro b
    rw [hthermal, warmThermalAt_margin]
  · intro b hb
    rw [hthermal]
    exact warmThermalAt_idle hb _
  · intro b o hb ho
    have hpolicy : (s.bedRec b).policy = o.policy := by rw [BedRec.policy, ho]
    rw [hthermal]
    refine (warmThermalAt_curing hb _).trans ?_
    rw [hpolicy]
    cases o.policy with
    | resume => rfl
    | hold => rfl
    | cool => cases hphase : (s.thermal b).phase <;> simp [resumeThermal, coolsAtStart, warmThermal, hphase]
  · exact fun b => warmed_heatRec

/-! ### The steps of a warm start -/

/-- The state that the warm effects find. -/
def warmFound (strap : Station) (s : State) : State := startNotices .warm (warmLine (strapped strap s))

theorem warmFound_eq : warmFound strap s =
    { s with line := s.line.started, notice := (warmFound strap s).notice, sup := (strapped strap s).sup } :=
  startNotices_only .warm

theorem warmFound_noted :
    Noted s (fun d => decide (d = .start)) (recorded s .start .part 1) (warmFound strap s) :=
  startNotices_noted (s := warmLine (strapped strap s)) .warm

/-- The state that the warm effects leave. -/
def warmLeft (strap : Station) (s : State) : State := warmEffects (warmFound strap s)

theorem warmLeft_eq : warmLeft strap s = { warmed s with
    line := s.line.started, notice := (warmLeft strap s).notice, sup := (strapped strap s).sup } := by
  have hfound : warmed (warmFound strap s) = { warmed s with
      line := s.line.started, notice := (warmFound strap s).notice, sup := (strapped strap s).sup } := by
    rw [warmFound_eq]
    exact sameStart_plain
  refine warmEffects_eq.trans ?_
  rw [hfound]
  rfl

theorem warmLeft_noted : Noted s (warmFlag s) (s.warmQueue (atLargeCount s)) (warmLeft strap s) := by
  have hpiece : (warmFound strap s).piece = s.piece := by rw [warmFound_eq]
  have hrunway : (warmFound strap s).runway = s.runway := by rw [warmFound_eq]
  have hbed : (warmFound strap s).bed = s.bed := by rw [warmFound_eq]
  exact warmEffects_noted warmFound_noted hpiece hrunway hbed

/-- The notices of a warm start. -/
def warmNotices (strap : Station) (s : State) : NoticeUnit :=
  { (warmLeft strap s).notice with attn := attnLevel (warmLeft strap s).notice.causes }

theorem recordStart_warmLeft (x : NoticeUnit) :
    recordStart .warm { warmed s with line := s.line.started, notice := x, sup := (strapped strap s).sup } =
      warmDone strap s { x with attn := attnLevel x.causes } := rfl

theorem inTurn_warmSteps : inTurn warmSteps (strapped strap s) = recordStart .warm (warmLeft strap s) := by
  rw [inTurn, warmSteps, warmLeft, warmFound]
  simp only [List.foldl_cons, List.foldl_nil, id]

theorem warmSteps_done : inTurn warmSteps (strapped strap s) = warmDone strap s (warmNotices strap s) := by
  have hleft := warmLeft_eq (strap := strap) (s := s)
  rw [inTurn_warmSteps, warmNotices]
  generalize warmLeft strap s = w at *
  rw [← recordStart_warmLeft]
  exact congrArg (recordStart .warm) hleft

theorem warmSteps_started : warmStarted strap s (inTurn warmSteps (strapped strap s)) := by
  have hnoted := warmLeft_noted (strap := strap) (s := s)
  rw [warmSteps_done, warmNotices]
  have hminute : (warmLeft strap s).sup.worksMinute = s.sup.worksMinute := hnoted.2.2
  generalize warmLeft strap s = w at *
  exact warmDone_started (hnoted.level rfl rfl hminute.symm) rfl

/-! ### A cold start's state (R167) -/

theorem defaultCauses_cleared (v : Vector CauseState 28) :
    tmap (fun k => { k with flag := false }) (defaultCauses v) = coldCauses := rfl

/-- START is the one notice of a cold start (R164). -/
theorem startNotices_cold {v : Vector CauseState 28} (hcauses : s.notice.causes = defaultCauses v)
    (hminute : s.sup.worksMinute = 0) : (startNotices .cold s).notice = State.reset.notice := by
  have hcleared : (clearNotices s).notice = { s.notice with causes := coldCauses, queue := [] } := by
    rw [clearNotices, hcauses, defaultCauses_cleared]
  have hcause : (clearNotices s).cause .start = { masked := false, cls := 2 } := by
    rw [State.cause, hcleared]
    rfl
  have hsup : (clearNotices s).sup.worksMinute = 0 := hminute
  unfold startNotices
  rw [recordCause_queued (by rw [hcause]) (by simp) (by rw [hcleared]; simp)]
  simp only [updateAttn, setNoticeQueue, modCause, NoticeQueueProofs.noticeOf, hcause, hcleared, hsup]
  decide

/-- The state after the first two steps of a cold start. -/
def coldFound (strap : Station) (s : State) : State := coldLine (coldMasks (strapped strap s))

theorem coldFound_notice : (startNotices .cold (coldFound strap s)).notice = State.reset.notice :=
  startNotices_cold rfl rfl

theorem coldNotices_eq : startNotices .cold (coldFound strap s) = { s with
    line := {}, notice := State.reset.notice
    sup := { s.sup with station := strap, powered := true, resetHeld := false, worksMinute := 0 } } := by
  rw [startNotices_only, coldFound_notice]
  rfl

theorem coldSteps_started : coldStarted strap s (inTurn coldSteps (strapped strap s)) := by
  have hsteps : inTurn coldSteps (strapped strap s) =
      recordStart .cold (clearLatch (coldBlocks (startNotices .cold (coldFound strap s)))) := rfl
  have hattn : attnLevel State.reset.notice.causes = true := by decide
  rw [hsteps, coldNotices_eq, coldStarted, recordStart, updateAttn]
  simp only [clearLatch, coldBlocks, hattn]
  rfl

/-! ### A start into pass-through (R166) -/

theorem passStart_started : passStarted strap s (passStart (strapped strap s)) :=
  ⟨rfl, rfl, rfl, rfl, rfl, rfl, rfl, rfl, rfl, rfl, rfl, rfl⟩

/-! ### A start cut off (R165, R167) -/

/-- ATTN of a part that stops within a start. -/
def stopLevel (s : State) : Bool := s.sup.kind != .passThrough && attnLevel s.notice.causes

theorem levelAtStop_eq : levelAtStop s = { s with notice := { s.notice with attn := stopLevel s } } := by
  unfold levelAtStop stopLevel
  split
  · next h => simp [h, releaseAttn]
  · next h => simp [h, updateAttn]

/-- The state that the steps of a start leave which a cut parts, `cold` where the start is cold. -/
def stepsLeft (cold : Bool) (strap : Station) (k : Nat) (s : State) : State :=
  inTurn ((if cold then coldSteps else warmSteps).take (min 4 k)) (strapped strap s)


theorem not_passStrap (hlow : 1 ≤ strap.toNat) (hhigh : strap.toNat ≤ 250) :
    ¬(strap.toNat = 0 ∨ 250 < strap.toNat) := by omega

/-- The supervisor within a start. -/
theorem strapped_sup : (strapped strap s).sup =
    { s.sup with station := strap, powered := true, resetHeld := false } := rfl

/-- A warm start cut off within its first three steps leaves every block but the line unit as it was. -/
theorem warm_reached_early {x : State} (hwarm : s.sup.backupLost = false) (hlow : 1 ≤ strap.toNat)
    (hhigh : strap.toNat ≤ 250) (hk : min 4 k < 4)
    (hx : x = { s with line := x.line, notice := x.notice, sup := (strapped strap s).sup })
    (hline : x.line = if min 4 k < 2 then s.line else s.line.started)
    (hnotice : min 4 k < 3 → x.notice = s.notice)
    (hstart : min 4 k = 3 → Noted s (fun d => decide (d = .start)) (recorded s .start .part 1) x) :
    startReached strap k s (levelAtStop x) := by
  have hsup : x.sup = (strapped strap s).sup := by rw [hx]
  refine ⟨fun h => absurd h (not_passStrap hlow hhigh), fun _ _ => ⟨?_, ?_, ?_, fun hearly => ⟨?_, fun c => ?_⟩, ?_, ?_, ?_, ?_, ?_⟩⟩
  all_goals rw [levelAtStop_eq]
  · simp [hsup, strapped_sup, hwarm]
  · simp [hline, hwarm]
  · simp [stopLevel, hsup, strapped_sup]
  · simp [hnotice hearly]
  · rw [hwarm, if_neg (by simp), State.cause, State.cause]
    simp [hnotice hearly]
  · intro _ hcold
    exact absurd (hwarm.symm.trans hcold) (by simp)
  · intro hthird _
    obtain ⟨hqueue, hcauses, -⟩ := hstart hthird
    have hrecords : (s.warmQueue 0).filter (fun n => n.cause = .start) = recorded s .start .part 1 := by
      rw [warmQueue_eq, if_pos rfl, List.append_nil, List.filter_append, List.filter_eq_self.2, List.filter_eq_nil_iff.2,
        List.append_nil]
      · intro n hn
        obtain ⟨b, -, hb⟩ := List.mem_flatMap.1 hn
        rw [recorded] at hb
        split at hb
        · exact absurd hb (by simp)
        · simp [List.mem_singleton.1 hb]
      · intro n hn
        rw [recorded] at hn
        split at hn
        · exact absurd hn (by simp)
        · simp [List.mem_singleton.1 hn]
    exact ⟨hqueue.trans hrecords.symm, hcauses⟩
  · intro _
    rw [hx]
  · intro hfourth
    omega
  · intro hfourth
    omega

/-- A warm start cut off after its fourth step. -/
theorem warm_reached_late (hwarm : s.sup.backupLost = false) (hlow : 1 ≤ strap.toNat) (hhigh : strap.toNat ≤ 250)
    (hk : min 4 k = 4) : startReached strap k s (levelAtStop (warmLeft strap s)) := by
  have hleft := warmLeft_eq (strap := strap) (s := s)
  have hsup : (warmLeft strap s).sup = (strapped strap s).sup := by rw [hleft]
  have hline : (warmLeft strap s).line = s.line.started := by rw [hleft]
  refine ⟨fun h => absurd h (not_passStrap hlow hhigh), fun _ _ => ⟨?_, ?_, ?_, ?_, ?_, ?_, ?_, ?_, fun _ _ =>
    ⟨inTurn warmSteps (strapped strap s), warmSteps_started, ?_⟩⟩⟩
  · simp [levelAtStop_eq, hsup, strapped_sup, hwarm]
  · simp [levelAtStop_eq, hline, hk, hwarm]
  · simp [levelAtStop_eq, hsup, stopLevel, strapped_sup]
  · omega
  · intro _ hcold
    exact absurd (hwarm.symm.trans hcold) (by simp)
  · omega
  · omega
  · intro _ hcold
    exact absurd (hwarm.symm.trans hcold) (by simp)
  · rw [warmSteps_done, warmNotices, warmDone, levelAtStop_eq]
    generalize warmLeft strap s = w at *
    rw [hleft]

/-- A warm start that is cut off (R167, R168). -/
theorem warm_reached (hwarm : s.sup.backupLost = false) (hlow : 1 ≤ strap.toNat) (hhigh : strap.toNat ≤ 250) :
    startReached strap k s (levelAtStop (stepsLeft false strap k s)) := by
  have hm : min 4 k = 0 ∨ min 4 k = 1 ∨ min 4 k = 2 ∨ min 4 k = 3 ∨ min 4 k = 4 := by omega
  obtain hm | hm | hm | hm | hm := hm
  · have hx : stepsLeft false strap k s = strapped strap s := by rw [stepsLeft, hm]; rfl
    rw [hx]
    exact warm_reached_early hwarm hlow hhigh (by omega) rfl (by rw [hm]; rfl) (fun _ => rfl) (by omega)
  · have hx : stepsLeft false strap k s = strapped strap s := by rw [stepsLeft, hm]; rfl
    rw [hx]
    exact warm_reached_early hwarm hlow hhigh (by omega) rfl (by rw [hm]; rfl) (fun _ => rfl) (by omega)
  · have hx : stepsLeft false strap k s = warmLine (strapped strap s) := by rw [stepsLeft, hm]; rfl
    rw [hx]
    exact warm_reached_early hwarm hlow hhigh (by omega) rfl (by rw [hm]; rfl) (fun _ => rfl) (by omega)
  · have hx : stepsLeft false strap k s = warmFound strap s := by rw [stepsLeft, hm]; rfl
    have hline : (warmFound strap s).line = s.line.started := by rw [warmFound_eq]
    rw [hx]
    exact warm_reached_early hwarm hlow hhigh (by omega)
      (by rw [hline]; exact warmFound_eq) (by rw [hm, hline]; rfl) (by omega) (fun _ => warmFound_noted)
  · have hx : stepsLeft false strap k s = warmLeft strap s := by
      rw [stepsLeft, hm, warmLeft, warmFound]
      simp only [warmSteps, inTurn, List.take_succ_cons, List.take_zero, List.foldl_cons, List.foldl_nil, id,
        Bool.false_eq_true, if_false]
    rw [hx]
    exact warm_reached_late hwarm hlow hhigh hm

/-- A cold start cut off within its first two steps. -/
theorem cold_reached_early {x : State} (hcold : s.sup.backupLost = true) (hlow : 1 ≤ strap.toNat)
    (hhigh : strap.toNat ≤ 250) (hk : min 4 k < 3)
    (hx : x = { s with line := x.line, notice := x.notice, sup := x.sup })
    (hsup : x.sup = { (strapped strap s).sup with worksMinute := if 1 ≤ min 4 k then 0 else s.sup.worksMinute })
    (hline : x.line = if min 4 k < 2 then s.line else {})
    (hnotice : x.notice = { s.notice with causes := if 1 ≤ min 4 k then defaultCauses s.notice.causes
                                                    else s.notice.causes }) :
    startReached strap k s (levelAtStop x) := by
  refine ⟨fun h => absurd h (not_passStrap hlow hhigh), fun _ _ => ⟨?_, ?_, ?_, fun _ => ⟨?_, fun c => ?_⟩, ?_, ?_, ?_, ?_, ?_⟩⟩
  all_goals rw [levelAtStop_eq]
  · simp [hsup, strapped_sup, hcold]
  · simp [hline, hcold]
  · simp [stopLevel, hsup, strapped_sup]
  · simp [hnotice]
  · rw [State.cause]
    simp only [hnotice, hcold, true_and]
    split
    · cases c <;> rfl
    · rfl
  · omega
  · omega
  · intro _
    rw [hx]
  · omega
  · omega

/-- A cold start cut off after START. -/
theorem cold_reached_late {x : State} (hcold : s.sup.backupLost = true) (hlow : 1 ≤ strap.toNat)
    (hhigh : strap.toNat ≤ 250) (hk : 3 ≤ min 4 k) (hline : x.line = {}) (hnotice : x.notice = State.reset.notice)
    (hsup : x.sup = { (strapped strap s).sup with worksMinute := 0 })
    (hthird : min 4 k = 3 → x = { s with line := x.line, notice := x.notice, sup := x.sup })
    (hfourth : min 4 k = 4 → x = { State.cold strap with
      notice := x.notice, sup := x.sup, freeCount := s.freeCount, pending := s.pending }) :
    startReached strap k s (levelAtStop x) := by
  refine ⟨fun h => absurd h (not_passStrap hlow hhigh), fun _ _ => ⟨?_, ?_, ?_, ?_, fun _ _ => ⟨?_, ?_⟩, ?_, ?_, ?_, ?_⟩⟩
  all_goals rw [levelAtStop_eq]
  · simp [hsup, strapped_sup, hcold]
    omega
  · rw [if_neg (by omega), hcold]
    exact hline
  · simp [stopLevel, hsup, strapped_sup]
  · omega
  · simp [hnotice]
  · simp [hnotice]
  · intro _ hwarm
    exact absurd (hcold.symm.trans hwarm) (by simp)
  · intro h
    rw [hthird (by omega)]
  · intro h _
    rw [hfourth h]
  · intro _ hwarm
    exact absurd (hcold.symm.trans hwarm) (by simp)

/-- A cold start that is cut off (R167). -/
theorem cold_reached (hcold : s.sup.backupLost = true) (hlow : 1 ≤ strap.toNat) (hhigh : strap.toNat ≤ 250) :
    startReached strap k s (levelAtStop (stepsLeft true strap k s)) := by
  have hm : min 4 k = 0 ∨ min 4 k = 1 ∨ min 4 k = 2 ∨ min 4 k = 3 ∨ min 4 k = 4 := by omega
  obtain hm | hm | hm | hm | hm := hm
  · have hx : stepsLeft true strap k s = strapped strap s := by rw [stepsLeft, hm]; rfl
    rw [hx]
    exact cold_reached_early hcold hlow hhigh (by omega) rfl (by rw [hm]; rfl) (by rw [hm]; rfl) (by rw [hm]; rfl)
  · have hx : stepsLeft true strap k s = coldMasks (strapped strap s) := by rw [stepsLeft, hm]; rfl
    rw [hx]
    exact cold_reached_early hcold hlow hhigh (by omega) rfl (by rw [hm]; rfl) (by rw [hm]; rfl) (by rw [hm]; rfl)
  · have hx : stepsLeft true strap k s = coldFound strap s := by rw [stepsLeft, hm]; rfl
    rw [hx]
    exact cold_reached_early hcold hlow hhigh (by omega) rfl (by rw [hm]; rfl) (by rw [hm]; rfl) (by rw [hm]; rfl)
  · have hx : stepsLeft true strap k s = startNotices .cold (coldFound strap s) := by rw [stepsLeft, hm]; rfl
    rw [hx, coldNotices_eq]
    exact cold_reached_late hcold hlow hhigh (by omega) rfl rfl rfl (fun _ => rfl) (by omega)
  · have hx : stepsLeft true strap k s = coldBlocks (startNotices .cold (coldFound strap s)) := by
      rw [stepsLeft, hm]; rfl
    rw [hx, coldNotices_eq]
    exact cold_reached_late hcold hlow hhigh (by omega) rfl rfl rfl (by omega) (fun _ => rfl)

/-! ### Starts (R166) -/

theorem validStation_of (hlow : 1 ≤ strap.toNat) (hhigh : strap.toNat ≤ 250) : validStation strap = true := by
  simp [validStation, hlow, hhigh]

theorem validStation_not (h : strap.toNat = 0 ∨ 250 < strap.toNat) : validStation strap = false := by
  simp only [validStation, decide_eq_false_iff_not]
  omega

theorem stopBy_powerLoss (h : s.sup.powered = true) : exec .powerLoss s = .next (stopBy .powerLoss s) := by
  have hexec : exec .powerLoss s = .next (if s.sup.powered then powerFalls s else s) := rfl
  rw [hexec, if_pos h]
  rfl

theorem stopBy_resetn : exec .resetnAssert s = .next (stopBy .resetn s) := rfl

theorem reached_powered (hreached : startReached strap k s u) : u.sup.powered = true := by
  obtain ⟨hpass, hsteps⟩ := hreached
  by_cases hvalid : strap.toNat = 0 ∨ 250 < strap.toNat
  · obtain ⟨-, hsup, -⟩ := hpass hvalid
    rw [hsup]
  · obtain ⟨hsup, -⟩ := hsteps (by omega) (by omega)
    rw [hsup]

theorem carryOut_cut (steps : List (State → State)) (c : StartCut) (s : State) : carryOut steps (some c) s =
    stopBy c.stop (levelAtStop (inTurn (steps.take (min 4 c.steps)) s)) := rfl

section
variable {pins : StartPins} {clear : Bool} {x : State} (hx : readStrap pins.strap clear x = strapped pins.strap s)
include hx

theorem startPart_pass (hvalid : pins.strap.toNat = 0 ∨ 250 < pins.strap.toNat) :
    startPart pins clear x = passThrough pins.cut (strapped pins.strap s) := by
  have hchosen : chooseStart pins.strap (strapped pins.strap s).sup.backupLost = .passThrough := by
    simp [chooseStart, validStation_not hvalid]
  simp only [startPart, hx, hchosen]

theorem startPart_cold (hlow : 1 ≤ pins.strap.toNat) (hhigh : pins.strap.toNat ≤ 250) (hlost : s.sup.backupLost = true) :
    startPart pins clear x = carryOut coldSteps pins.cut (strapped pins.strap s) := by
  have hchosen : chooseStart pins.strap (strapped pins.strap s).sup.backupLost = .cold := by
    simp [chooseStart, validStation_of hlow hhigh, strapped, hlost]
  simp only [startPart, hx, hchosen]

theorem startPart_warm (hlow : 1 ≤ pins.strap.toNat) (hhigh : pins.strap.toNat ≤ 250)
    (hlost : s.sup.backupLost = false) :
    startPart pins clear x = carryOut warmSteps pins.cut (strapped pins.strap s) := by
  have hchosen : chooseStart pins.strap (strapped pins.strap s).sup.backupLost = .warm := by
    simp [chooseStart, validStation_of hlow hhigh, strapped, hlost]
  simp only [startPart, hx, hchosen]

/-- A start that is cut off: the state its steps reach, and the stop. -/
theorem startPart_cut {stop : StopKind} (hcut : pins.cut = some { steps := k, stop := stop }) :
    ∃ u, startReached pins.strap k s u ∧ startPart pins clear x = stopBy stop u := by
  by_cases hvalid : pins.strap.toNat = 0 ∨ 250 < pins.strap.toNat
  · rw [startPart_pass hx hvalid, hcut]
    exact ⟨_, ⟨fun _ => passStart_started, fun _ _ => absurd hvalid (by omega)⟩, rfl⟩
  · have hlow : 1 ≤ pins.strap.toNat := by omega
    have hhigh : pins.strap.toNat ≤ 250 := by omega
    cases hlost : s.sup.backupLost with
    | true =>
      rw [startPart_cold hx hlow hhigh hlost, hcut]
      exact ⟨_, cold_reached hlost hlow hhigh, carryOut_cut ..⟩
    | false =>
      rw [startPart_warm hx hlow hhigh hlost, hcut]
      exact ⟨_, warm_reached hlost hlow hhigh, carryOut_cut ..⟩

/-- A start whose strap has been read is taken by the rows of R166. -/
theorem startPart_answered : startAnswered pins s (startPart pins clear x) := by
  refine ⟨fun hnone => ⟨fun hlow hhigh hlost => ?_, fun hlow hhigh hlost => ?_, fun hvalid => ?_⟩,
    fun k hk => ?_, fun k hk => ?_⟩
  · rw [startPart_cold hx hlow hhigh hlost, hnone]
    exact coldSteps_started
  · rw [startPart_warm hx hlow hhigh hlost, hnone]
    exact warmSteps_started
  · rw [startPart_pass hx hvalid, hnone]
    exact passStart_started
  · obtain ⟨u, hreached, hstop⟩ := startPart_cut hx hk
    exact ⟨u, hreached, hstop ▸ stopBy_powerLoss (reached_powered hreached)⟩
  · obtain ⟨u, hreached, hstop⟩ := startPart_cut hx hk
    exact ⟨u, hreached, hstop ▸ stopBy_resetn⟩

end

/-! ### A warm start taken again after a loss of power (R167) -/

theorem exec_powerUp (pins : StartPins) (s : State) : exec (.powerUp pins) s = .next (if s.sup.powered then s else
    if s.sup.resetHeld then setPowered true s else startPart pins false (setPowered true s)) := rfl

theorem exec_resetnRelease (pins : StartPins) (s : State) : exec (.resetnRelease pins) s = .next
    (if s.sup.resetHeld then
      if s.sup.powered then startPart pins false (setResetHeld false s) else setResetHeld false s
     else s) := rfl

theorem exec_powerUp_start {pins : StartPins} (hpower : s.sup.powered = false) (hheld : s.sup.resetHeld = false) :
    exec (.powerUp pins) s = .next (startPart pins false (setPowered true s)) := by
  rw [exec_powerUp, if_neg (by simp [hpower]), if_neg (by simp [hheld])]

theorem readStrap_powerUp (hheld : s.sup.resetHeld = false) :
    readStrap strap false (setPowered true s) = strapped strap s := by
  simp [readStrap, setPowered, strapped, hheld]

theorem readStrap_release (hpower : s.sup.powered = true) :
    readStrap strap false (setResetHeld false s) = strapped strap s := by
  simp [readStrap, setResetHeld, strapped, hpower]

theorem readStrap_restart (hpower : s.sup.powered = true) (hheld : s.sup.resetHeld = false) :
    readStrap strap false s = strapped strap s := by
  simp [readStrap, strapped, hpower, hheld]

theorem readStrap_clear (hpower : s.sup.powered = true) (hheld : s.sup.resetHeld = false) :
    readStrap strap true s = strapped strap { s with sup := { s.sup with backupLost := true } } := by
  simp [readStrap, strapped, hpower, hheld]

/-- A state that differs from `s` in nothing that a warm start reads or leaves, but for the notices. -/
def StartsAlike (s u : State) : Prop :=
  SameStart s u ∧ u.line.started = s.line.started ∧ u.sup.backupLost = s.sup.backupLost
    ∧ u.sup.worksMinute = s.sup.worksMinute

theorem StartsAlike.warmDone (h : StartsAlike s u) (x : NoticeUnit) : warmDone strap u x = warmDone strap s x := by
  obtain ⟨hsame, hline, hlost, hminute⟩ := h
  rw [StartProofs.warmDone, hsame, hline]
  simp only [hlost, hminute]
  rfl

theorem StartsAlike.trans (h : StartsAlike s t) (g : StartsAlike t u) : StartsAlike s u := by
  obtain ⟨hsame, hline, hlost, hminute⟩ := h
  obtain ⟨gsame, gline, glost, gminute⟩ := g
  exact ⟨hsame.trans gsame, gline.trans hline, glost.trans hlost, gminute.trans hminute⟩

theorem startsAlike_plain {line : LineUnit} {notice : NoticeUnit} {sup : Supervisor} (hline : line.started = s.line.started)
    (hlost : sup.backupLost = s.sup.backupLost) (hminute : sup.worksMinute = s.sup.worksMinute) :
    StartsAlike s { s with line := line, notice := notice, sup := sup } :=
  ⟨sameStart_plain, hline, hlost, hminute⟩

theorem startsAlike_lost : StartsAlike s (powerFalls s) := by
  have hlose : StartsAlike s (loseVolatile s) := ⟨sameStart_lose, rfl, rfl, rfl⟩
  exact hlose.trans (startsAlike_plain rfl rfl rfl)

theorem startsAlike_level : StartsAlike s (levelAtStop s) := by
  rw [levelAtStop_eq]
  exact startsAlike_plain rfl rfl rfl

theorem startsAlike_found : StartsAlike s (warmFound strap s) := by
  rw [warmFound_eq]
  exact startsAlike_plain rfl rfl rfl

theorem startsAlike_left : StartsAlike s (warmLeft strap s) := by
  have hwarmed : StartsAlike s (warmed s) := ⟨sameStart_warmed, rfl, rfl, rfl⟩
  rw [warmLeft_eq]
  exact hwarmed.trans (startsAlike_plain rfl rfl rfl)

/-- The steps of a warm start up to a cut. -/
theorem stepsLeft_warm (k : Nat) (strap : Station) (s : State) :
    stepsLeft false strap k s = strapped strap s ∨ stepsLeft false strap k s = warmLine (strapped strap s)
      ∨ stepsLeft false strap k s = warmFound strap s ∨ stepsLeft false strap k s = warmLeft strap s := by
  have hm : min 4 k = 0 ∨ min 4 k = 1 ∨ min 4 k = 2 ∨ min 4 k = 3 ∨ min 4 k = 4 := by omega
  rw [stepsLeft, warmLeft, warmFound]
  obtain hm | hm | hm | hm | hm := hm <;> simp [hm, warmSteps, inTurn]

theorem startsAlike_steps : StartsAlike s (stepsLeft false strap k s) := by
  obtain h | h | h | h := stepsLeft_warm k strap s
  · rw [h]
    exact startsAlike_plain rfl rfl rfl
  · rw [h]
    exact startsAlike_plain rfl rfl rfl
  · rw [h]
    exact startsAlike_found
  · rw [h]
    exact startsAlike_left

/-- A warm start of a part without power. -/
theorem exec_powerUp_warm (hpower : s.sup.powered = false) (hheld : s.sup.resetHeld = false)
    (hlost : s.sup.backupLost = false) (hlow : 1 ≤ strap.toNat) (hhigh : strap.toNat ≤ 250) (cut : Option StartCut) :
    exec (.powerUp { strap := strap, cut := cut }) s = .next (carryOut warmSteps cut (strapped strap s)) := by
  rw [exec_powerUp_start hpower hheld,
    startPart_warm (pins := { strap := strap, cut := cut }) (readStrap_powerUp hheld) hlow hhigh hlost]

/-- The warm start taken again leaves what the uncut one leaves (R167). -/
theorem warmStart_again {v : State} (hpower : s.sup.powered = false) (hheld : s.sup.resetHeld = false)
    (hlost : s.sup.backupLost = false) (hlow : 1 ≤ strap.toNat) (hhigh : strap.toNat ≤ 250)
    (ht : exec (.powerUp { strap := strap }) s = .next t)
    (hu : exec (.powerUp { strap := strap, cut := some { steps := k, stop := .powerLoss } }) s = .next u)
    (hv : exec (.powerUp { strap := strap }) u = .next v) : v = { t with notice := v.notice } := by
  rw [exec_powerUp_warm hpower hheld hlost hlow hhigh] at ht hu
  have hdone : t = warmDone strap s (warmNotices strap s) := (Host.Outcome.next.inj ht).symm.trans warmSteps_done
  have hstopped : u = powerFalls (levelAtStop (stepsLeft false strap k s)) := (Host.Outcome.next.inj hu).symm
  have halike : StartsAlike s u := by
    rw [hstopped]
    exact (startsAlike_steps.trans startsAlike_level).trans startsAlike_lost
  have hpowerless : u.sup.powered = false := by rw [hstopped]; rfl
  have hreleased : u.sup.resetHeld = false := by
    have hsteps : (stepsLeft false strap k s).sup.resetHeld = false := by
      obtain h | h | h | h := stepsLeft_warm k strap s
      · rw [h]; rfl
      · rw [h]; rfl
      · rw [h, warmFound_eq]; rfl
      · rw [h, warmLeft_eq]; rfl
    have hlevel : (levelAtStop (stepsLeft false strap k s)).sup.resetHeld = false := by
      rw [levelAtStop_eq]
      exact hsteps
    rw [hstopped]
    exact hlevel
  have hkept : u.sup.backupLost = false := halike.2.2.1.trans hlost
  rw [exec_powerUp_warm hpowerless hreleased hkept hlow hhigh] at hv
  have hagain : v = warmDone strap s (warmNotices strap u) :=
    ((Host.Outcome.next.inj hv).symm.trans warmSteps_done).trans (halike.warmDone _)
  rw [hagain, hdone]
  rfl

/-! ### The obligation -/

theorem running_supply (hrun : s.running = true) : s.sup.powered = true ∧ s.sup.resetHeld = false := by
  simp only [State.running, State.operating, Bool.and_eq_true, Bool.not_eq_true'] at hrun
  exact hrun.1

theorem restart_answered {pins : StartPins} {f : Frame} (hrun : s.running = true) (hf : f.payload = [0x46#8]) :
    ∃ t, exec (.restart f pins) s = .next t ∧ startAnswered pins (takeIntake f s) t := by
  obtain ⟨hpower, hheld⟩ := running_supply hrun
  have hact : bare f qRestart (startPart pins false) (takeIntake f s) = startPart pins false (takeIntake f s) :=
    bare_of_code hf
  refine ⟨_, exec_request hrun hact, startPart_answered (readStrap_restart ?_ ?_)⟩
  · simp [hpower]
  · simp [hheld]

theorem clearAll_answered {pins : StartPins} {f : Frame} (hrun : s.running = true) (hf : f.payload = [0x47#8]) :
    ∃ t, exec (.clearAll f pins) s = .next t
      ∧ startAnswered pins { takeIntake f s with sup := { s.sup with backupLost := true } } t := by
  obtain ⟨hpower, hheld⟩ := running_supply hrun
  have hact : bare f qClearAll (startPart pins true) (takeIntake f s) = startPart pins true (takeIntake f s) :=
    bare_of_code hf
  have hsup : (takeIntake f s).sup = s.sup := by simp
  refine ⟨_, exec_request hrun hact, startPart_answered ?_⟩
  rw [← hsup]
  exact readStrap_clear (by rw [hsup, hpower]) (by rw [hsup, hheld])

end

/-- Settles O51. -/
theorem startsTaken : Obligations.StartsTaken := by
  unfold Obligations.StartsTaken
  intro s pins
  refine ⟨fun hpower hheld => ⟨_, exec_powerUp_start hpower hheld, startPart_answered (readStrap_powerUp hheld)⟩,
    fun hpower hheld => ?_, fun hpower => ?_, fun hpower hheld => ⟨_, ?_, startPart_answered (readStrap_release hpower)⟩,
    fun hpower hheld => ?_, fun hheld => ?_, fun f => restart_answered, fun f => clearAll_answered,
    fun k t u v hpower hheld hlost hlow hhigh => warmStart_again hpower hheld hlost hlow hhigh⟩
  · rw [exec_powerUp, if_neg (by simp [hpower]), if_pos hheld]
    rfl
  · rw [exec_powerUp, if_pos hpower]
  · rw [exec_resetnRelease, if_pos hheld, if_pos hpower]
  · rw [exec_resetnRelease, if_pos hheld, if_neg (by simp [hpower])]
    rfl
  · rw [exec_resetnRelease, if_neg (by simp [hheld])]

end Sys2Proof.StartProofs
end

section
/-! SUPPORT. What the treatment of one bed at a curing minute leaves of the other beds, and of the part (O24, R53 to R55). -/
namespace Sys2Proof.CuringProofs

open Sys2Proof Sys2Proof.Machine Sys2Proof.StepProofs Sys2Proof.RequestProofs Sys2Proof.TableProofs
  Sys2Proof.HeatLawProofs Sys2Proof.AllocationProofs Sys2Proof.HeaterProofs Sys2Proof.FlagProofs Sys2Proof.LineProofs
  Sys2Proof.SettleProofs Sys2Proof.BudgetProofs Sys2Proof.EntryProofs Sys2Proof.HeatEntryProofs
  Sys2Proof.PanelReportProofs

section
variable {s t u : State} {b j : Fin 24}

/-! ### What a treatment changes at all -/

/-- The frames that the port F normal lane holds, oldest first. -/
def ringLane (s : State) : List Frame := s.line.portF.normal

/-- The port F normal lane is as it was, but for frames at its young end. -/
def LaneGrows (s t : State) : Prop := ringLane s <+: ringLane t

theorem LaneGrows.refl (s : State) : LaneGrows s s := List.prefix_rfl

theorem LaneGrows.trans (h : LaneGrows s t) (g : LaneGrows t u) : LaneGrows s u := List.IsPrefix.trans h g

theorem LaneGrows.of_eq (h : ringLane t = ringLane s) : LaneGrows s t := by
  rw [LaneGrows, h]

/-- What the treatment of a bed changes of the part: no record outside the beds' own, and frames only at the young
end of the port F normal lane. -/
structure MinuteOn (s t : State) : Prop where
  only : t = { s with line := t.line, curing := t.curing, heat := t.heat, bed := t.bed, stock := t.stock
                      runway := t.runway, notice := t.notice }
  curing : t.curing = { s.curing with thermal := t.curing.thermal }
  bed : t.bed = { s.bed with recs := t.bed.recs }
  lane : LaneGrows s t

theorem MinuteOn.refl (s : State) : MinuteOn s s := ⟨rfl, rfl, rfl, .refl s⟩

theorem MinuteOn.trans (h : MinuteOn s t) (g : MinuteOn t u) : MinuteOn s u where
  only := by
    rw [g.only, h.only]
  curing := by rw [g.curing, h.curing]
  bed := by rw [g.bed, h.bed]
  lane := h.lane.trans g.lane

/-- The treatment of another bed leaves a bed's record, its thermal part and its request, and, where the heater is
given nothing, its heat record but for the short indication. -/
structure Aside (b : Fin 24) (s t : State) : Prop where
  bedRec : t.bedRec b = s.bedRec b
  thermal : t.thermal b = s.thermal b
  request : (t.heatRec b).request = (s.heatRec b).request
  idle : (s.heatRec b).request = 0 → (s.heatRec b).grant = 0 → (s.heatRec b).duty = 0 →
    t.heatRec b = { s.heatRec b with short := (t.heatRec b).short }

theorem Aside.refl (b : Fin 24) (s : State) : Aside b s s := ⟨rfl, rfl, rfl, fun _ _ _ => rfl⟩

theorem Aside.trans (h : Aside b s t) (g : Aside b t u) : Aside b s u where
  bedRec := g.bedRec.trans h.bedRec
  thermal := g.thermal.trans h.thermal
  request := g.request.trans h.request
  idle hrequest hgrant hduty := by
    have hfirst := h.idle hrequest hgrant hduty
    have hnext := g.idle (by rw [hfirst, hrequest]) (by rw [hfirst, hgrant]) (by rw [hfirst, hduty])
    rw [hnext, hfirst]

/-- A change that leaves the beds' records, the curing unit and the heat supply unit. -/
theorem Aside.of_blocks (hbed : t.bed = s.bed) (hcuring : t.curing = s.curing) (hheat : t.heat = s.heat) :
    Aside b s t := by
  have hrec : t.heatRec b = s.heatRec b := by rw [State.heatRec, State.heatRec, hheat]
  refine ⟨bedRec_congr hbed b, by rw [State.thermal, State.thermal, hcuring], by rw [hrec], fun _ _ _ => by rw [hrec]⟩

/-! ### A cause raised, and a thermal part changed -/

theorem raise_on (c : Cause) (v : Subject) (x : Int) (s : State) : MinuteOn s (raise c v x s) where
  only := by apply state_eq <;> simp
  curing := by simp
  bed := by simp
  lane := .of_eq (by rw [ringLane, ringLane, raise_portF])

theorem raise_aside (c : Cause) (v : Subject) (x : Int) (s : State) : Aside b s (raise c v x s) :=
  .of_blocks (by simp) (by simp) (by simp)

theorem modThermal_on (b : Fin 24) (g : Thermal → Thermal) (s : State) : MinuteOn s (modThermal b g s) :=
  ⟨rfl, rfl, rfl, .refl s⟩

theorem modThermal_aside (hj : b ≠ j) (g : Thermal → Thermal) (s : State) : Aside b s (modThermal j g s) :=
  ⟨rfl, by rw [modThermal_thermal, if_neg hj], rfl, fun _ _ _ => rfl⟩

theorem accrueBed_on (b : Fin 24) (s : State) : MinuteOn s (accrueBed b s) := by
  unfold accrueBed
  split
  · exact (modThermal_on ..).trans (modThermal_on ..)
  · exact modThermal_on ..

theorem accrueBed_aside (hj : b ≠ j) (s : State) : Aside b s (accrueBed j s) := by
  unfold accrueBed
  split
  · exact (modThermal_aside hj ..).trans (modThermal_aside hj ..)
  · exact modThermal_aside hj ..

/-! ### The allocation -/

theorem recompute_on (s : State) : MinuteOn s (recompute s) where
  only := by apply state_eq <;> simp
  curing := by simp
  bed := by simp
  lane := by
    rw [LaneGrows, ringLane, ringLane, (recompute_sent s).portF, regrant_portF]
    exact List.prefix_append ..

theorem recompute_aside (s : State) : Aside b s (recompute s) where
  bedRec := bedRec_congr (by simp) b
  thermal := by simp [State.thermal]
  request := (recompute_grant s b).2.1
  idle hrequest hgrant hduty := recompute_idleRec hrequest hduty hgrant

theorem modHeat_on (b : Fin 24) (g : HeatRec → HeatRec) (s : State) : MinuteOn s (modHeat b g s) :=
  ⟨rfl, rfl, rfl, .refl s⟩

theorem modHeat_aside (hj : b ≠ j) (g : HeatRec → HeatRec) (s : State) : Aside b s (modHeat j g s) := by
  have hrec : (modHeat j g s).heatRec b = s.heatRec b := (modHeat_heatRec ..).trans (if_neg hj)
  exact ⟨rfl, rfl, by rw [hrec], fun _ _ _ => by rw [hrec]⟩

theorem handRequest_on (b : Fin 24) (n : Nat) (s : State) : MinuteOn s (handRequest b n s) := by
  unfold handRequest
  split
  · exact .refl s
  · exact (modHeat_on ..).trans (recompute_on _)

theorem handRequest_aside (hj : b ≠ j) (n : Nat) (s : State) : Aside b s (handRequest j n s) := by
  unfold handRequest
  split
  · exact .refl ..
  · exact (modHeat_aside hj ..).trans (recompute_aside _)

/-! ### A bed that passes to RELEASABLE -/

theorem offerNormal_lane (f : Frame) (s : State) : LaneGrows s (offerNormal .fPort f s) := by
  unfold offerNormal
  split
  · exact List.prefix_append ..
  · exact .of_eq (by rw [ringLane, raise_portF, ringLane])

theorem offerNormal_on (f : Frame) (s : State) : MinuteOn s (offerNormal .fPort f s) where
  only := by apply state_eq <;> simp
  curing := by simp
  bed := by simp
  lane := offerNormal_lane f s

theorem nextHeatSeq_on (s : State) : MinuteOn s (nextHeatSeq s) := ⟨rfl, rfl, rfl, .refl s⟩

theorem offerHeat_on (b : Fin 24) (duty : Nat) (s : State) : MinuteOn s (offerHeat b duty s) :=
  ((nextHeatSeq_on s).trans (modHeat_on ..)).trans (offerNormal_on ..)

theorem offerHeat_aside (hj : b ≠ j) (duty : Nat) (s : State) : Aside b s (offerHeat j duty s) := by
  have hnormal : ∀ (f : Frame) (x : State), Aside b x (offerNormal .fPort f x) :=
    fun f x => .of_blocks (by simp) (by simp) (by simp)
  have hseq : Aside b s (nextHeatSeq s) := ⟨rfl, rfl, rfl, fun _ _ _ => rfl⟩
  exact (hseq.trans (modHeat_aside hj ..)).trans (hnormal ..)

theorem stopHeat_on (b : Fin 24) (s : State) : MinuteOn s (stopHeat b s) :=
  ((modHeat_on ..).trans (recompute_on _)).trans (offerHeat_on ..)

theorem stopHeat_aside (hj : b ≠ j) (s : State) : Aside b s (stopHeat j s) :=
  ((modHeat_aside hj ..).trans (recompute_aside _)).trans (offerHeat_aside hj ..)

theorem modBedRec_on (b : Fin 24) (g : BedRec → BedRec) (s : State) : MinuteOn s (modBedRec b g s) :=
  ⟨rfl, rfl, rfl, .refl s⟩

theorem modBedRec_aside (hj : b ≠ j) (g : BedRec → BedRec) (s : State) : Aside b s (modBedRec j g s) :=
  ⟨by rw [modBedRec_bedRec, if_neg hj], rfl, rfl, fun _ _ _ => rfl⟩

theorem noteOpportunity_on (s : State) : MinuteOn s (noteOpportunity s) := ⟨rfl, rfl, rfl, .refl s⟩

theorem noteOpportunity_aside (s : State) : Aside b s (noteOpportunity s) := .of_blocks rfl rfl rfl

theorem stopEntry_on (b : Fin 24) (new : BedState) (s : State) : MinuteOn s (stopEntry b new s) :=
  (((modBedRec_on ..).trans (modThermal_on ..)).trans (modThermal_on ..)).trans (stopHeat_on ..)

theorem stopEntry_aside (hj : b ≠ j) (new : BedState) (s : State) : Aside b s (stopEntry j new s) :=
  (((modBedRec_aside hj ..).trans (modThermal_aside hj ..)).trans (modThermal_aside hj ..)).trans (stopHeat_aside hj ..)

/-! ### The admission passes -/

theorem answerOrder_lane (o : CraneOrder) (a : Answer) (s : State) : ringLane (answerOrder o a s) = ringLane s := by
  unfold answerOrder answerTo offerNormal
  split
  · rfl
  · rw [ringLane, raise_portF, ringLane]

theorem admitOrder_lane (o : CraneOrder) (s : State) : LaneGrows s (admitOrder o s) := by
  have hclaim : ∀ x, ringLane (claimFor o.task x) = ringLane x := by
    intro x
    unfold claimFor
    split <;> rfl
  unfold admitOrder
  refine .trans (.trans (.of_eq ?_) (offerNormal_lane _ _)) (.of_eq (answerOrder_lane ..))
  rw [hclaim]
  rfl

theorem passOne_lane (acc : List (Fin 4) × State) (o : CraneOrder) : LaneGrows acc.2 (passOne acc o).2 := by
  unfold passOne
  split
  · exact .refl _
  split
  · exact admitOrder_lane o (unqueue o acc.2)
  · exact .of_eq (answerOrder_lane o _ (unqueue o acc.2))
  · exact .refl _

theorem admissionPass_lane (s : State) : LaneGrows s (admissionPass s) :=
  List.foldlRecOn (motive := fun acc : List (Fin 4) × State => LaneGrows s acc.2) _ _ (.refl s)
    fun acc hacc o _ => hacc.trans (passOne_lane acc o)

theorem settle_lane (s : State) : LaneGrows s (settle s) := by
  unfold settle
  generalize s.runway.opportunities + s.runway.waiting.length = n
  induction n generalizing s with
  | zero => exact .refl s
  | succ n ih =>
    have hcount : LaneGrows s { s with runway := { s.runway with opportunities := s.runway.opportunities - 1 } } := .refl s
    unfold takeOpportunities
    split
    · exact .refl s
    · exact (hcount.trans (admissionPass_lane _)).trans (ih (takeOpportunity s))

theorem settle_on (s : State) : MinuteOn s (settle s) where
  only := by apply state_eq <;> simp
  curing := by simp
  bed := by simp
  lane := settle_lane s

theorem settle_aside (s : State) : Aside b s (settle s) := .of_blocks (by simp) (by simp) (by simp)

/-! ### The treatment of a bed -/

theorem releasableBed_eq (h : (s.bedRec b).state = .curing) : releasableBed b s =
    settle (raise .bedReleasable (.bed b) ((s.thermal b).margin.getD 0)
      (noteOpportunity (stopEntry b .releasable s))) := by
  rw [releasableBed, enterBed_stop (by simp) h]

theorem releasableBed_on (h : (s.bedRec b).state = .curing) : MinuteOn s (releasableBed b s) := by
  rw [releasableBed_eq h]
  exact (((stopEntry_on ..).trans (noteOpportunity_on _)).trans (raise_on ..)).trans (settle_on _)

theorem releasableBed_aside (hj : b ≠ j) (h : (s.bedRec j).state = .curing) : Aside b s (releasableBed j s) := by
  rw [releasableBed_eq h]
  exact (((stopEntry_aside hj ..).trans (noteOpportunity_aside _)).trans (raise_aside ..)).trans (settle_aside _)

theorem setThermal_on (b : Fin 24) (x : Thermal) (s : State) : MinuteOn s (setThermal b x s) := modThermal_on ..

theorem setThermal_aside (hj : b ≠ j) (x : Thermal) (s : State) : Aside b s (setThermal j x s) := modThermal_aside hj ..

theorem blindMinute_on (b : Fin 24) (x : Thermal) (s : State) : MinuteOn s (blindMinute b x s) := by
  unfold blindMinute
  dsimp only
  split
  · exact ((setThermal_on ..).trans (raise_on ..)).trans (handRequest_on ..)
  · exact (setThermal_on ..).trans (handRequest_on ..)

theorem blindMinute_aside (hj : b ≠ j) (x : Thermal) (s : State) : Aside b s (blindMinute j x s) := by
  unfold blindMinute
  dsimp only
  split
  · exact ((setThermal_aside hj ..).trans (raise_aside ..)).trans (handRequest_aside hj ..)
  · exact (setThermal_aside hj ..).trans (handRequest_aside hj ..)

theorem demandMinute_on (b : Fin 24) (hot : Int) (soak : Bool) (x : Thermal) (s : State) :
    MinuteOn s (demandMinute b hot soak x s) := by
  unfold demandMinute
  dsimp only
  split
  · exact ((setThermal_on ..).trans (raise_on ..)).trans (handRequest_on ..)
  · exact (setThermal_on ..).trans (handRequest_on ..)

theorem demandMinute_aside (hj : b ≠ j) (hot : Int) (soak : Bool) (x : Thermal) (s : State) :
    Aside b s (demandMinute j hot soak x s) := by
  unfold demandMinute
  dsimp only
  split
  · exact ((setThermal_aside hj ..).trans (raise_aside ..)).trans (handRequest_aside hj ..)
  · exact (setThermal_aside hj ..).trans (handRequest_aside hj ..)

theorem sightedMinute_on (hot : Int) (cooled : Bool) (x : Thermal) (h : (s.bedRec b).state = .curing) :
    MinuteOn s (sightedMinute b hot cooled x s) := by
  unfold sightedMinute
  dsimp only
  split
  · exact demandMinute_on ..
  split
  · exact (setThermal_on ..).trans (releasableBed_on h)
  split
  · exact ((setThermal_on ..).trans (raise_on ..)).trans (demandMinute_on ..)
  · exact (setThermal_on ..).trans (demandMinute_on ..)

theorem sightedMinute_aside (hj : b ≠ j) (hot : Int) (cooled : Bool) (x : Thermal)
    (h : (s.bedRec j).state = .curing) : Aside b s (sightedMinute j hot cooled x s) := by
  unfold sightedMinute
  dsimp only
  split
  · exact demandMinute_aside hj ..
  split
  · exact (setThermal_aside hj ..).trans (releasableBed_aside hj h)
  split
  · exact ((setThermal_aside hj ..).trans (raise_aside ..)).trans (demandMinute_aside hj ..)
  · exact (setThermal_aside hj ..).trans (demandMinute_aside hj ..)

theorem accrueBed_bedRec (j : Fin 24) : (accrueBed b s).bedRec j = s.bedRec j := bedRec_congr (by simp) j

theorem treatBed_on (b : Fin 24) (s : State) : MinuteOn s (treatBed b s) := by
  unfold treatBed
  split
  case h_1 hstate =>
    unfold treatCuring
    dsimp only
    split
    · exact (accrueBed_on ..).trans (blindMinute_on ..)
    · exact (accrueBed_on ..).trans (sightedMinute_on _ _ _ (by rw [accrueBed_bedRec, hstate]))
  case h_2 | h_3 | h_4 => exact accrueBed_on ..
  case h_5 | h_6 | h_7 => exact .refl s

theorem treatBed_aside (hj : b ≠ j) (s : State) : Aside b s (treatBed j s) := by
  unfold treatBed
  split
  case h_1 hstate =>
    unfold treatCuring
    dsimp only
    split
    · exact (accrueBed_aside hj _).trans (blindMinute_aside hj ..)
    · exact (accrueBed_aside hj _).trans (sightedMinute_aside hj _ _ _ (by rw [accrueBed_bedRec, hstate]))
  case h_2 | h_3 | h_4 => exact accrueBed_aside hj _
  case h_5 | h_6 | h_7 => exact .refl ..

end

end Sys2Proof.CuringProofs
end

section
/-! SUPPORT. What the treatment of a bed at a curing minute makes of it (O24, R54). -/
namespace Sys2Proof.CuringBedProofs

open Sys2Proof Sys2Proof.Machine Sys2Proof.StepProofs Sys2Proof.RequestProofs Sys2Proof.TableProofs
  Sys2Proof.HeatLawProofs Sys2Proof.AllocationProofs Sys2Proof.HeaterProofs Sys2Proof.FlagProofs Sys2Proof.LineProofs
  Sys2Proof.SettleProofs Sys2Proof.BudgetProofs Sys2Proof.EntryProofs Sys2Proof.HeatEntryProofs
  Sys2Proof.PanelReportProofs Sys2Proof.CuringProofs

section
variable {s t u w : State} {b : Fin 24} {hot : Int} {x : Thermal}

/-! ### The account and the margin (R36, R38, R45) -/

/-- A bed's account after the accrual step of a minute. -/
def accountAfter (s : State) (b : Fin 24) : Nat × Nat :=
  match s.coldTemp b, s.bedDatum b with
  | some temp, some datum => accrue temp datum (s.thermal b).maturity (s.thermal b).remainder
  | _, _ => ((s.thermal b).maturity, (s.thermal b).remainder)

/-- A bed's release margin at a maturity. -/
def marginAt (s : State) (b : Fin 24) (m : Nat) : Option Int :=
  ((s.cureLines b).map fun l => ((s.mix l.mix).estimate m : Int) - (s.required b l : Int)).min?

/-- A watched bed's thermal part after its first two steps. -/
def accrued (s : State) (b : Fin 24) : Thermal :=
  { s.thermal b with
    maturity := (accountAfter s b).1, remainder := (accountAfter s b).2, margin := marginAt s b (accountAfter s b).1 }

theorem refreshMargin_thermal (hw : s.watched b = true) :
    (refreshMargin b s).thermal b = { s.thermal b with margin := marginAt s b (s.thermal b).maturity } := by
  rw [refreshMargin, modThermal_thermal, if_pos rfl, hw, if_pos rfl]
  rfl

theorem accrueBed_thermal (hw : s.watched b = true) : (accrueBed b s).thermal b = accrued s b := by
  unfold accrueBed accrued accountAfter
  cases s.coldTemp b with
  | none => exact refreshMargin_thermal hw
  | some temp =>
    cases s.bedDatum b with
    | none => exact refreshMargin_thermal hw
    | some datum =>
      refine (refreshMargin_thermal (b := b) (s := modThermal b _ s) hw).trans ?_
      rw [modThermal_thermal, if_pos rfl]
      rfl

/-! ### What a bed's minute reads -/

/-- A state in which a bed's minute reads what it reads in `s`, but for its thermal part. -/
structure SameMinute (b : Fin 24) (s u : State) : Prop where
  on : MinuteOn s u
  bedRec : u.bedRec b = s.bedRec b

section
variable (h : SameMinute b s u)
include h

theorem SameMinute.bedEntry : u.bedEntry = s.bedEntry := by
  funext i
  rw [State.bedEntry, h.on.bed, State.bedEntry]

theorem SameMinute.values : u.bedValues = s.bedValues := by
  rw [h.on.only]
  rfl

theorem SameMinute.ambient : u.coolingAmbient b = s.coolingAmbient b := by
  have hyard : u.yardAmbient = s.yardAmbient := by
    rw [h.on.only]
    rfl
  have harea : u.areaAmbient = s.areaAmbient := by
    rw [h.on.only]
    rfl
  rw [State.coolingAmbient, h.bedEntry, harea, hyard, State.coolingAmbient]

theorem SameMinute.hotTemp : u.hotTemp b = s.hotTemp b := by rw [State.hotTemp, h.values, State.hotTemp]

theorem SameMinute.watched : u.watched b = s.watched b := by rw [State.watched, h.bedRec, State.watched]

theorem SameMinute.curing : u.curingBed b = s.curingBed b := by rw [State.curingBed, h.bedRec, State.curingBed]

theorem SameMinute.mix : u.mix = s.mix := by
  funext i
  rw [State.mix, h.on.curing, State.mix]

theorem SameMinute.lines : u.cureLines b = s.cureLines b := by rw [State.cureLines, h.bedRec, State.cureLines]

theorem SameMinute.margin : marginAt u b = marginAt s b := by
  funext m
  simp only [marginAt, h.lines, h.mix, State.required, h.bedRec]

theorem SameMinute.accrued (hthermal : u.thermal b = s.thermal b) : accrued u b = accrued s b := by
  have haccount : accountAfter u b = accountAfter s b := by
    simp only [accountAfter, State.coldTemp, h.values, State.bedDatum, h.lines, h.mix, hthermal]
  rw [CuringBedProofs.accrued, haccount, h.margin, hthermal, CuringBedProofs.accrued]

end

/-! ### The steps of a minute (R54) -/

/-- A CURING bed's thermal part after its pending requests (R56). -/
def pended (s : State) (b : Fin 24) : Thermal := pendingEffect (accrued s b)

/-- A CURING bed's thermal part at a sighted minute (R68). -/
def sighted (s : State) (b : Fin 24) : Thermal := sightThermal (pended s b)

/-- A sighted minute is a SOAK minute (R67). -/
def soaks (s : State) (b : Fin 24) : Bool := decide ((sighted s b).phase = .soak)

/-- The advance of a CURING bed's phase (R60 to R65). -/
def advanced (s : State) (b : Fin 24) (hot : Int) : Advance := advancePhase hot (s.coolingAmbient b) (sighted s b)

section
variable (h : SameMinute b s u) (hthermal : u.thermal b = s.thermal b)
include h hthermal

theorem SameMinute.pended : pended u b = pended s b := by
  rw [CuringBedProofs.pended, h.accrued hthermal, CuringBedProofs.pended]

theorem SameMinute.sighted : sighted u b = sighted s b := by
  rw [CuringBedProofs.sighted, h.pended hthermal, CuringBedProofs.sighted]

theorem SameMinute.soaks : soaks u b = soaks s b := by
  rw [CuringBedProofs.soaks, h.sighted hthermal, CuringBedProofs.soaks]

theorem SameMinute.advanced (hot : Int) : advanced u b hot = advanced s b hot := by
  rw [CuringBedProofs.advanced, h.sighted hthermal, h.ambient, CuringBedProofs.advanced]

end

/-! ### A bed that stays in CURING -/

/-- A bed with a thermal part, its record as it was, and its request handed over (R70). -/
structure Asked (s t : State) (b : Fin 24) (x : Thermal) : Prop where
  thermal : t.thermal b = x
  bedRec : t.bedRec b = s.bedRec b
  request : (t.heatRec b).request = (s.bedEntry b).ratedPower * x.demand / 1000

theorem handRequest_request (n : Nat) (s : State) : ((handRequest b n s).heatRec b).request = n := by
  unfold handRequest
  split
  · next h => exact h
  · rw [(recompute_grant _ b).2.1, modHeat_heatRec, if_pos rfl]

theorem handDemand_asked (hbed : t.bed = s.bed) (hthermal : t.thermal b = x) : Asked s (handDemand b t) b x where
  thermal := by
    rw [← hthermal]
    simp [handDemand, State.thermal]
  bedRec := (bedRec_congr (by simp [handDemand]) b).trans (bedRec_congr hbed b)
  request := by
    rw [handDemand, handRequest_request, State.requestOf, hthermal, State.bedEntry, hbed, State.bedEntry]

theorem raise_thermal (c : Cause) (v : Subject) (n : Int) (s : State) : (raise c v n s).thermal = s.thermal := by
  funext i
  simp [State.thermal]

theorem setThermal_bed (x : Thermal) (s : State) : (setThermal b x s).bed = s.bed := rfl

/-- A thermal part set, a cause raised where `c` says so, and the request handed over. -/
theorem raised_asked (c : Bool) (cause : Cause) (v : Subject) (n : Int) (hcuring : s.curingBed b = true)
    (hbed : t.bed = s.bed) :
    Asked s (handDemand b (if c then raise cause v n (setThermal b x t) else setThermal b x t)) b x
      ∧ (c = true → flagSet cause
          (handDemand b (if c then raise cause v n (setThermal b x t) else setThermal b x t))) := by
  have hset : (setThermal b x t).thermal b = x := setThermal_thermal b x
  cases c with
  | false => exact ⟨handDemand_asked hbed hset, by simp⟩
  | true =>
    have hraised : (raise cause v n (setThermal b x t)).bed = s.bed := by simpa using hbed
    refine ⟨handDemand_asked hraised (by rw [if_pos rfl, raise_thermal, hset]), fun _ => ?_⟩
    refine (flagSet_kept cause).handDemand b ?_ (raise_flagSet ..)
    rw [if_pos rfl, curingBed_congr hraised, hcuring]

theorem blindMinute_asked (hcuring : s.curingBed b = true) (hbed : t.bed = s.bed) (x : Thermal) :
    Asked s (blindMinute b x t) b (demandBlind x)
      ∧ ((demandBlind x).withheld = true → x.withheld = false → flagSet .heatWithheld (blindMinute b x t)) := by
  obtain ⟨hasked, hflag⟩ := raised_asked (x := demandBlind x) ((demandBlind x).withheld && !x.withheld) .heatWithheld
    (.bed b) 0 hcuring hbed
  exact ⟨hasked, fun hnow hbefore => hflag (by rw [hnow, hbefore]; rfl)⟩

theorem demandMinute_asked (hcuring : s.curingBed b = true) (hbed : t.bed = s.bed) (hot : Int) (soak : Bool)
    (x : Thermal) : Asked s (demandMinute b hot soak x t) b (demandSighted hot soak x)
      ∧ ((demandSighted hot soak x).overheat = true → x.overheat = false →
          flagSet .overheat (demandMinute b hot soak x t)) := by
  obtain ⟨hasked, hflag⟩ := raised_asked (x := demandSighted hot soak x)
    ((demandSighted hot soak x).overheat && !x.overheat) .overheat (.bed b) hot hcuring hbed
  exact ⟨hasked, fun hnow hbefore => hflag (by rw [hnow, hbefore]; rfl)⟩

/-! ### A bed that passes to RELEASABLE (R18, R71, R76) -/

/-- A thermal part at its leaving CURING (R71). -/
def leftCuring (x : Thermal) : Thermal :=
  { x with demand := 0, pause := .running, waiting := .none, coolPending := false, blindCount := 0, withheld := false
           overheat := false, stall := false, prevError := none }

/-- A bed that has passed to RELEASABLE with the thermal part its last advance left. -/
structure Released (s t : State) (b : Fin 24) (x : Thermal) : Prop where
  thermal : t.thermal b = leftCuring x
  bedRec : t.bedRec b = enterRec .releasable (s.bedRec b)
  flag : flagSet .bedReleasable t
  stopping : (t.heatRec b).state = .stopping
  request : (t.heatRec b).request = 0
  grant : (t.heatRec b).grant = 0
  duty : (t.heatRec b).duty = 0
  sent : s.stopSent t b

theorem stopSent_stopEntry : s.stopSent (stopEntry b .releasable s) b := by
  refine ⟨by rw [stopEntry_heatRec], fun hlength => ?_⟩
  obtain ⟨hwait, others, hnormal, -⟩ := stopEntry_stopped.1 hlength
  refine ⟨_, ?_, hwait⟩
  rw [hnormal, List.append_assoc, List.drop_left]
  exact List.mem_append_right _ (List.mem_singleton_self _)

/-- The final HEAT frame stays where later frames enter at the young end, its wait with it. -/
theorem stopSent_after (h : s.stopSent t b) (hlane : LaneGrows t u) (haside : Aside b t u)
    (hrequest : (t.heatRec b).request = 0) (hgrant : (t.heatRec b).grant = 0) (hduty : (t.heatRec b).duty = 0) :
    s.stopSent u b := by
  have hrec := haside.idle hrequest hgrant hduty
  obtain ⟨hrefresh, hsent⟩ := h
  obtain ⟨more, hmore⟩ := hlane
  refine ⟨by rw [hrec, hrefresh], fun hlength => ?_⟩
  have hnormal : u.line.portF.normal = t.line.portF.normal ++ more := hmore.symm
  rw [hnormal] at hlength ⊢
  rw [List.length_append] at hlength
  obtain ⟨seq, hmem, hwait⟩ := hsent (by omega)
  refine ⟨seq, ?_, by rw [hrec, hwait]⟩
  rw [List.drop_append]
  exact List.mem_append_left _ hmem

theorem stopSent_before (h : SameMinute b s u) (hsent : u.stopSent t b) : s.stopSent t b := by
  obtain ⟨hrefresh, hframe⟩ := hsent
  refine ⟨hrefresh, fun hlength => ?_⟩
  obtain ⟨seq, hmem, hwait⟩ := hframe hlength
  have hsame : u.stopFrame b seq = s.stopFrame b seq := by
    have hsup : u.sup = s.sup := by rw [h.on.only]
    rw [State.stopFrame, h.bedEntry, hsup, State.stopFrame]
  refine ⟨seq, ?_, hwait⟩
  rw [← hsame]
  exact List.drop_subset_drop_left _ h.on.lane.length_le hmem

/-- The margin at the leaving of CURING is the one that the minute left (R46). -/
theorem stopReady_left (hmargin : (s.thermal b).margin = marginAt s b (s.thermal b).maturity) :
    (stopReady b .releasable s).thermal b = leftCuring (s.thermal b) := by
  have hrecord : (leaveThermal b (modBedRec b (enterRec .releasable) s)).bedRec b =
      enterRec .releasable (s.bedRec b) := (modBedRec_bedRec ..).trans (if_pos rfl)
  have hwatched : (leaveThermal b (modBedRec b (enterRec .releasable) s)).watched b = true := by
    rw [State.watched, hrecord]
    rfl
  have hleft : (leaveThermal b (modBedRec b (enterRec .releasable) s)).thermal b = leftCuring (s.thermal b) := by
    rw [leaveThermal, modThermal_thermal, if_pos rfl]
    rfl
  have hsame : marginAt (leaveThermal b (modBedRec b (enterRec .releasable) s)) b = marginAt s b := by
    funext m
    simp only [marginAt, State.cureLines, State.required, hrecord]
    rfl
  have hkept : marginAt s b (leftCuring (s.thermal b)).maturity = (s.thermal b).margin := hmargin.symm
  rw [stopReady, refreshMargin_thermal hwatched, hleft, hsame, hkept]
  rfl

theorem Released.before (h : SameMinute b s u) (hreleased : Released u t b x) : Released s t b x where
  thermal := hreleased.thermal
  bedRec := by rw [hreleased.bedRec, h.bedRec]
  flag := hreleased.flag
  stopping := hreleased.stopping
  request := hreleased.request
  grant := hreleased.grant
  duty := hreleased.duty
  sent := stopSent_before h hreleased.sent

theorem Asked.before (h : SameMinute b s u) (hasked : Asked u t b x) : Asked s t b x where
  thermal := hasked.thermal
  bedRec := by rw [hasked.bedRec, h.bedRec]
  request := by rw [hasked.request, h.bedEntry]

/-- What the treatment of other beds leaves of a bed that has passed to RELEASABLE. -/
theorem Released.after (h : Released s t b x) (haside : Aside b t u) (hlane : LaneGrows t u)
    (hflag : flagSet .bedReleasable u) : Released s u b x := by
  have hrec := haside.idle h.request h.grant h.duty
  refine ⟨haside.thermal.trans h.thermal, haside.bedRec.trans h.bedRec, hflag, ?_, ?_, ?_, ?_,
    stopSent_after h.sent hlane haside h.request h.grant h.duty⟩
  · rw [hrec, h.stopping]
  · rw [hrec, h.request]
  · rw [hrec, h.grant]
  · rw [hrec, h.duty]

theorem Asked.after (h : Asked s t b x) (haside : Aside b t u) : Asked s u b x :=
  ⟨haside.thermal.trans h.thermal, haside.bedRec.trans h.bedRec, haside.request.trans h.request⟩

theorem releasableBed_released (hstate : (s.bedRec b).state = .curing)
    (hmargin : (s.thermal b).margin = marginAt s b (s.thermal b).maturity) :
    Released s (releasableBed b s) b (s.thermal b) := by
  rw [releasableBed_eq hstate]
  have hrec := stopEntry_heatRec (s := s) (b := b) (new := .releasable)
  have hlater : ∀ v : State, Aside b v (settle (raise .bedReleasable (.bed b) ((s.thermal b).margin.getD 0)
      (noteOpportunity v))) := fun v => ((noteOpportunity_aside v).trans (raise_aside ..)).trans (settle_aside _)
  have hgrows : ∀ v : State, LaneGrows v (settle (raise .bedReleasable (.bed b) ((s.thermal b).margin.getD 0)
      (noteOpportunity v))) := fun v => (((noteOpportunity_on v).trans (raise_on ..)).trans (settle_on _)).lane
  have hflag : ∀ v : State, flagSet .bedReleasable (settle (raise .bedReleasable (.bed b)
      ((s.thermal b).margin.getD 0) (noteOpportunity v))) := fun v => (flagSet_kept _).settle (raise_flagSet ..)
  have haside := hlater (stopEntry b .releasable s)
  have hsent := stopSent_after (s := s) (b := b) stopSent_stopEntry (hgrows (stopEntry b .releasable s)) haside
    (by rw [hrec]) (by rw [hrec]) (by rw [hrec])
  have hheat := haside.idle (by rw [hrec]) (by rw [hrec]) (by rw [hrec])
  have hthermal : (stopEntry b .releasable s).thermal b = leftCuring (s.thermal b) := stopEntry_thermal.trans (stopReady_left hmargin)
  have hbedRec := stopEntry_bedRec (s := s) (b := b) (new := .releasable)
  refine ⟨haside.thermal.trans hthermal, haside.bedRec.trans hbedRec, hflag _, ?_, ?_, ?_, ?_, hsent⟩
  all_goals rw [hheat, hrec]

end

end Sys2Proof.CuringBedProofs
end

section
/-! PROOF. O24: the curing minute, bed by bed (R53 to R70). -/
namespace Sys2Proof.CuringMinuteProofs

open Sys2Proof Sys2Proof.Machine Sys2Proof.StepProofs Sys2Proof.RequestProofs Sys2Proof.TableProofs
  Sys2Proof.HeatLawProofs Sys2Proof.AllocationProofs Sys2Proof.HeaterProofs Sys2Proof.FlagProofs Sys2Proof.LineProofs
  Sys2Proof.SettleProofs Sys2Proof.BudgetProofs Sys2Proof.EntryProofs Sys2Proof.HeatEntryProofs
  Sys2Proof.PanelReportProofs Sys2Proof.CuringProofs Sys2Proof.CuringBedProofs

section
variable {s t u : State} {b : Fin 24} {hot : Int} {x y z : Thermal}

/-! ### What the steps of a minute leave of the margin and the overheat indication -/

/-- A thermal part with its margin and its overheat indication as they were. -/
structure LimitsKept (x y : Thermal) : Prop where
  margin : y.margin = x.margin := by rfl
  overheat : y.overheat = x.overheat := by rfl

theorem LimitsKept.trans (h : LimitsKept x y) (g : LimitsKept y z) : LimitsKept x z :=
  ⟨g.margin.trans h.margin, g.overheat.trans h.overheat⟩

theorem pendingEffect_limits (x : Thermal) : LimitsKept x (pendingEffect x) := by
  unfold pendingEffect
  repeat' split
  all_goals exact {}

theorem enterRamp_limits (hot : Int) (x : Thermal) : LimitsKept x (enterRamp hot x) := by
  unfold enterRamp
  split <;> exact {}

theorem advancePreset_limits (hot : Int) (x : Thermal) : LimitsKept x (advancePreset hot x) := by
  unfold advancePreset
  dsimp only
  split
  · exact LimitsKept.trans (y := tickClock x) {} (enterRamp_limits hot _)
  · exact {}

theorem advanceRamp_limits (hot : Int) (x : Thermal) : LimitsKept x (advanceRamp hot x) := by
  unfold advanceRamp
  dsimp only
  split
  · exact {}
  · split <;> exact {}

theorem advanceHold_limits (x : Thermal) : LimitsKept x (advanceHold x) := by
  unfold advanceHold
  dsimp only
  split <;> exact {}

theorem advanceCool_limits (hot : Int) (ambient : Option Int) (x : Thermal) :
    LimitsKept x (advanceCool hot ambient x).thermal := by
  unfold advanceCool
  dsimp only
  repeat' split
  all_goals exact {}

theorem advancePhase_limits (hot : Int) (ambient : Option Int) (x : Thermal) :
    LimitsKept x (advancePhase hot ambient x).thermal := by
  unfold advancePhase
  split
  · exact advancePreset_limits hot x
  · exact advanceRamp_limits hot x
  · exact advanceHold_limits x
  · exact advanceCool_limits hot ambient x
  · exact {}

theorem sighted_limits : LimitsKept (accrued s b) (sighted s b) :=
  (pendingEffect_limits (accrued s b)).trans (y := pended s b) {}

theorem advanced_limits : LimitsKept (accrued s b) (advanced s b hot).thermal :=
  sighted_limits.trans (advancePhase_limits ..)

theorem pended_kept : CureKept (accrued s b) (pended s b) := pendingEffect_kept _

theorem sighted_kept : CureKept (accrued s b) (sighted s b) := pended_kept.trans {}

theorem advanced_kept : CureKept (accrued s b) (advanced s b hot).thermal := sighted_kept.trans (advancePhase_kept ..)

/-! ### A bed's minute -/

/-- A sighted minute of a bed that stays in CURING: the demand computed from `x`, OVERHEAT raised where it is new
(R66, R67, R69, R70). -/
structure SightedAsked (s t : State) (b : Fin 24) (hot : Int) (x : Thermal) : Prop where
  asked : Asked s t b (demandSighted hot (soaks s b) x)
  overheat : (demandSighted hot (soaks s b) x).overheat = true → (accrued s b).overheat = false → flagSet .overheat t

/-- A bed that a sighted minute leaves where it is in its schedule (R62). -/
def staysPut (s : State) (b : Fin 24) : Prop :=
  (sighted s b).pause = .paused ∨ (accrued s b).coolPending = true

/-- What a curing minute makes of a bed (R53 to R56, R62, R68). -/
structure BedMinute (s t : State) (b : Fin 24) : Prop where
  unwatched : s.watched b = false → t.thermal b = s.thermal b
  resting : s.curingBed b = false → t.bedRec b = s.bedRec b
  aged : s.watched b = true → s.curingBed b = false → t.thermal b = accrued s b
  blind : s.curingBed b = true → s.hotTemp b = none → Asked s t b (demandBlind (pended s b))
    ∧ ((demandBlind (pended s b)).withheld = true → (pended s b).withheld = false → flagSet .heatWithheld t)
  put : ∀ hot, s.curingBed b = true → s.hotTemp b = some hot → staysPut s b →
    SightedAsked s t b hot (sighted s b)
  advancing : ∀ hot, s.curingBed b = true → s.hotTemp b = some hot → ¬staysPut s b →
    (advanced s b hot).done = false → SightedAsked s t b hot (advanced s b hot).thermal
      ∧ ((advanced s b hot).thermal.stall = true → (sighted s b).stall = false → flagSet .rampStalled t)
  released : ∀ hot, s.curingBed b = true → s.hotTemp b = some hot → ¬staysPut s b →
    (advanced s b hot).done = true → Released s t b (advanced s b hot).thermal

theorem watched_of_curing (h : s.curingBed b = true) : s.watched b = true := by
  rw [State.watched, of_decide_eq_true h]
  rfl

/-- A bed that is not in CURING: aged where it is watched (R53, R55). -/
theorem treatBed_resting (h : s.curingBed b = false) :
    treatBed b s = if s.watched b then accrueBed b s else s := by
  rw [State.curingBed, decide_eq_false_iff_not] at h
  rw [treatBed, State.watched]
  cases hstate : (s.bedRec b).state with
  | curing => exact absurd hstate h
  | releasable | releasing | stripping => simp [watchedState]
  | vacant | stressed | clearing => simp [watchedState]

theorem bedMinute_resting (h : s.curingBed b = false) : BedMinute s (treatBed b s) b := by
  rw [treatBed_resting h]
  have hno : ¬s.curingBed b = true := by simp [h]
  refine ⟨fun hw => ?_, fun _ => ?_, fun hw _ => ?_, fun hc => absurd hc hno, fun _ hc => absurd hc hno,
    fun _ hc => absurd hc hno, fun _ hc => absurd hc hno⟩
  · rw [if_neg (by simp [hw])]
  · split
    · exact accrueBed_bedRec b
    · rfl
  · rw [if_pos hw]
    exact accrueBed_thermal hw

theorem accrueBed_same (b : Fin 24) (s : State) : SameMinute b s (accrueBed b s) := ⟨accrueBed_on b s, accrueBed_bedRec b⟩

section
variable (hcuring : s.curingBed b = true)
include hcuring

theorem treatBed_curing : treatBed b s = treatCuring b s := by
  have hstate : (s.bedRec b).state = .curing := of_decide_eq_true hcuring
  simp only [treatBed, hstate]

theorem treatBed_blind (hblind : s.hotTemp b = none) :
    treatBed b s = blindMinute b (pended s b) (accrueBed b s) := by
  rw [treatBed_curing hcuring]
  simp only [treatCuring, hblind, accrueBed_thermal (watched_of_curing hcuring), pended]

/-- A bed that stays where it is in its schedule. -/
theorem treatBed_put (hsight : s.hotTemp b = some hot) (hput : staysPut s b) :
    treatBed b s = demandMinute b hot (soaks s b) (sighted s b) (accrueBed b s) := by
  rw [treatBed_curing hcuring]
  simp only [treatCuring, hsight, accrueBed_thermal (watched_of_curing hcuring), sightedMinute]
  exact if_pos hput

/-- A bed whose phase advances. -/
theorem treatBed_advanced (hsight : s.hotTemp b = some hot) (hput : ¬staysPut s b) : treatBed b s =
    if (advanced s b hot).done then releasableBed b (setThermal b (advanced s b hot).thermal (accrueBed b s))
    else demandMinute b hot (soaks s b) (advanced s b hot).thermal
      (if (advanced s b hot).thermal.stall && !(sighted s b).stall then
        raise .rampStalled (.bed b) hot (setThermal b (advanced s b hot).thermal (accrueBed b s))
       else setThermal b (advanced s b hot).thermal (accrueBed b s)) := by
  rw [treatBed_curing hcuring]
  simp only [treatCuring, hsight, accrueBed_thermal (watched_of_curing hcuring), sightedMinute, (accrueBed_same b s).ambient]
  exact if_neg hput

theorem demandMinute_sighted (hkept : LimitsKept (accrued s b) x) (hbed : t.bed = s.bed) :
    SightedAsked s (demandMinute b hot (soaks s b) x t) b hot x := by
  obtain ⟨hasked, hflag⟩ := demandMinute_asked hcuring hbed hot (soaks s b) x
  exact ⟨hasked, fun hnow hbefore => hflag hnow (hkept.overheat.trans hbefore)⟩

theorem bedMinute_advancing (hsight : s.hotTemp b = some hot) (hput : ¬staysPut s b)
    (hdone : (advanced s b hot).done = false) : SightedAsked s (treatBed b s) b hot (advanced s b hot).thermal
      ∧ ((advanced s b hot).thermal.stall = true → (sighted s b).stall = false →
          flagSet .rampStalled (treatBed b s)) := by
  have hset : (setThermal b (advanced s b hot).thermal (accrueBed b s)).bed = s.bed :=
    (setThermal_bed ..).trans (by simp)
  have hthermal := setThermal_thermal (s := accrueBed b s) b (advanced s b hot).thermal
  rw [treatBed_advanced hcuring hsight hput, if_neg (by simp [hdone])]
  generalize setThermal b (advanced s b hot).thermal (accrueBed b s) = v at *
  have hraised : (raise .rampStalled (.bed b) hot v).bed = s.bed := by simpa using hset
  split
  · refine ⟨demandMinute_sighted hcuring advanced_limits hraised, fun _ _ => ?_⟩
    refine (flagSet_kept _).demandMinute b hot _ _ ?_ ?_ (raise_flagSet ..)
    · rw [curingBed_congr hraised, hcuring]
    · rw [raise_thermal, hthermal]
      exact {}
  · next hstall =>
    refine ⟨demandMinute_sighted hcuring advanced_limits hset, fun hnow hbefore => absurd ?_ hstall⟩
    rw [hnow, hbefore]
    rfl

theorem bedMinute_released (hsight : s.hotTemp b = some hot) (hput : ¬staysPut s b)
    (hdone : (advanced s b hot).done = true) : Released s (treatBed b s) b (advanced s b hot).thermal := by
  rw [treatBed_advanced hcuring hsight hput, if_pos hdone]
  have hsame : SameMinute b s (setThermal b (advanced s b hot).thermal (accrueBed b s)) :=
    ⟨(accrueBed_on b s).trans (setThermal_on ..), accrueBed_bedRec b⟩
  have hthermal := setThermal_thermal (s := accrueBed b s) b (advanced s b hot).thermal
  generalize setThermal b (advanced s b hot).thermal (accrueBed b s) = v at *
  have hstate : (v.bedRec b).state = .curing := by
    rw [hsame.bedRec]
    exact of_decide_eq_true hcuring
  have hmargin : (v.thermal b).margin = marginAt v b (v.thermal b).maturity := by
    rw [hthermal, hsame.margin, advanced_limits.margin, advanced_kept.maturity]
    rfl
  have hreleased := releasableBed_released hstate hmargin
  rw [hthermal] at hreleased
  exact hreleased.before hsame

theorem bedMinute_curing : BedMinute s (treatBed b s) b := by
  have hbed : (accrueBed b s).bed = s.bed := by simp
  have hno : ¬s.curingBed b = false := by simp [hcuring]
  refine ⟨fun hw => ?_, fun hc => absurd hc hno, fun _ hc => absurd hc hno, fun _ hblind => ?_,
    fun hot _ hsight hput => ?_, fun hot _ hsight hput hdone => bedMinute_advancing hcuring hsight hput hdone,
    fun hot _ hsight hput hdone => bedMinute_released hcuring hsight hput hdone⟩
  · exact absurd ((watched_of_curing hcuring).symm.trans hw) (by simp)
  · rw [treatBed_blind hcuring hblind]
    exact blindMinute_asked hcuring hbed _
  · rw [treatBed_put hcuring hsight hput]
    exact demandMinute_sighted hcuring sighted_limits hbed

end

theorem treatBed_minute (b : Fin 24) (s : State) : BedMinute s (treatBed b s) b := by
  cases hcuring : s.curingBed b with
  | true => exact bedMinute_curing hcuring
  | false => exact bedMinute_resting hcuring

/-! ### A bed's minute among those of the others -/

/-- The flags that stay set. -/
def FlagsStay (s t : State) : Prop := ∀ c, flagSet c s → flagSet c t

theorem SightedAsked.before (h : SameMinute b s u) (hthermal : u.thermal b = s.thermal b)
    (hasked : SightedAsked u t b hot x) : SightedAsked s t b hot x := by
  obtain ⟨hset, hover⟩ := hasked
  rw [h.soaks hthermal] at hset hover
  rw [h.accrued hthermal] at hover
  exact ⟨hset.before h, hover⟩

/-- A bed's minute, whatever beds have been treated before it. -/
theorem BedMinute.before (h : SameMinute b s u) (hthermal : u.thermal b = s.thermal b) (hminute : BedMinute u t b) :
    BedMinute s t b := by
  obtain ⟨hunwatched, hresting, haged, hblind, hput, hadvancing, hreleased⟩ := hminute
  have hstays : staysPut u b ↔ staysPut s b := by
    rw [staysPut, h.sighted hthermal, h.accrued hthermal, staysPut]
  simp only [h.watched, h.curing, h.hotTemp, h.accrued hthermal, h.pended hthermal, h.sighted hthermal,
    h.advanced hthermal, hstays, hthermal, h.bedRec] at hunwatched hresting haged hblind hput hadvancing hreleased
  exact ⟨hunwatched, hresting, haged, fun hc hb => ⟨(hblind hc hb).1.before h, (hblind hc hb).2⟩,
    fun hot hc hs hp => (hput hot hc hs hp).before h hthermal,
    fun hot hc hs hp hd => ⟨(hadvancing hot hc hs hp hd).1.before h hthermal, (hadvancing hot hc hs hp hd).2⟩,
    fun hot hc hs hp hd => (hreleased hot hc hs hp hd).before h⟩

theorem SightedAsked.after (h : SightedAsked s t b hot x) (haside : Aside b t u) (hflags : FlagsStay t u) :
    SightedAsked s u b hot x :=
  ⟨h.asked.after haside, fun hnow hbefore => hflags _ (h.overheat hnow hbefore)⟩

/-- A bed's minute, whatever beds are treated after it. -/
theorem BedMinute.after (h : BedMinute s t b) (haside : Aside b t u) (hlane : LaneGrows t u) (hflags : FlagsStay t u) :
    BedMinute s u b where
  unwatched hw := haside.thermal.trans (h.unwatched hw)
  resting hc := haside.bedRec.trans (h.resting hc)
  aged hw hc := haside.thermal.trans (h.aged hw hc)
  blind hc hb := by
    obtain ⟨hasked, hflag⟩ := h.blind hc hb
    exact ⟨hasked.after haside, fun hnow hbefore => hflags _ (hflag hnow hbefore)⟩
  put hot hc hs hp := (h.put hot hc hs hp).after haside hflags
  advancing hot hc hs hp hd := by
    obtain ⟨hasked, hflag⟩ := h.advancing hot hc hs hp hd
    exact ⟨hasked.after haside hflags, fun hnow hbefore => hflags _ (hflag hnow hbefore)⟩
  released hot hc hs hp hd := by
    have hreleased := h.released hot hc hs hp hd
    exact hreleased.after haside hlane (hflags _ hreleased.flag)

/-! ### The whole minute (R53) -/

/-- The beds of a list treated in turn. -/
def treatBeds (l : List (Fin 24)) (s : State) : State := l.foldl (fun t b => treatBed b t) s

theorem treatBeds_on (l : List (Fin 24)) (s : State) : MinuteOn s (treatBeds l s) :=
  List.foldlRecOn _ _ (.refl s) fun _ ht b _ => ht.trans (treatBed_on b _)

theorem treatBeds_aside {l : List (Fin 24)} (hb : b ∉ l) (s : State) : Aside b s (treatBeds l s) :=
  List.foldlRecOn _ _ (.refl b s) fun _ ht _ hj =>
    ht.trans (treatBed_aside (ne_of_mem_of_not_mem hj hb).symm _)

theorem treatBeds_flags (l : List (Fin 24)) (s : State) : FlagsStay s (treatBeds l s) := fun c hc =>
  List.foldlRecOn _ _ hc fun _ ht b _ => (flagSet_kept c).treatBed b ht

theorem treatBeds_minute {l : List (Fin 24)} (hnodup : l.Nodup) (hb : b ∈ l) (s : State) :
    BedMinute s (treatBeds l s) b := by
  obtain ⟨before, later, rfl⟩ := List.append_of_mem hb
  obtain ⟨-, htail, hdisjoint⟩ := List.nodup_append.1 hnodup
  have hbefore : b ∉ before := fun h => hdisjoint b h b (List.mem_cons_self ..) rfl
  have hlater : b ∉ later := (List.nodup_cons.1 htail).1
  have hsplit : treatBeds (before ++ b :: later) s = treatBeds later (treatBed b (treatBeds before s)) := by
    simp [treatBeds]
  have hfirst := treatBeds_aside hbefore s
  rw [hsplit]
  exact ((treatBed_minute b (treatBeds before s)).before ⟨treatBeds_on before s, hfirst.bedRec⟩ hfirst.thermal).after
    (treatBeds_aside hlater _) (treatBeds_on later _).lane (treatBeds_flags later _)

/-- What a curing minute makes of every bed. -/
theorem minute_taken (s : State) (b : Fin 24) : BedMinute s (forEach treatBed s) b :=
  treatBeds_minute (indexes_nodup 24) (mem_indexes b) s

end

end Sys2Proof.CuringMinuteProofs
end

section
/-! PROOF. O24: the curing minute of the part, the demand controller and the phases (R53 to R70). -/
namespace Sys2Proof.CuringTakenProofs

open Sys2Proof Sys2Proof.Machine Sys2Proof.StepProofs Sys2Proof.RequestProofs Sys2Proof.TableProofs
  Sys2Proof.HeatLawProofs Sys2Proof.AllocationProofs Sys2Proof.HeaterProofs Sys2Proof.FlagProofs Sys2Proof.LineProofs
  Sys2Proof.CuringProofs Sys2Proof.CuringBedProofs Sys2Proof.CuringMinuteProofs

section
variable {s t : State} {b : Fin 24} {hot : Int} {ambient : Option Int} {x : Thermal}

/-! ### The demand (R66, R67, R69) -/

theorem tdiv_signed (raw : Int) : raw.tdiv 64 = if 0 ≤ raw then raw / 64 else -((-raw) / 64) := by
  split
  · next h => exact Int.tdiv_eq_ediv_of_nonneg h
  · next h =>
    rw [← Int.tdiv_eq_ediv_of_nonneg (by omega), Int.neg_tdiv, Int.neg_neg]

theorem demandSighted_over (h : x.recipe.tmax + 50 < hot) (soak : Bool) :
    demandSighted hot soak x = { x with demand := 0, overheat := true } := by
  have hover : overLimit hot x = true := decide_eq_true h
  rw [demandSighted, if_pos hover]

theorem demandSighted_within (h : hot ≤ x.recipe.tmax + 50) (soak : Bool) : demandSighted hot soak x =
    if soak then { x with demand := 0, overheat := false } else controller hot { x with overheat := false } := by
  have hover : ¬overLimit hot x = true := by simpa [overLimit] using h
  rw [demandSighted, if_neg hover]

/-! ### The phases (R60 to R65) -/

theorem marginMet_iff (m : Option Int) : marginMet m = true ↔ ∀ v ∈ m, 0 ≤ v := by
  cases m with
  | none => simp [marginMet]
  | some v => simp [marginMet]

theorem advancePhase_preset (h : x.phase = .preset) :
    advancePhase hot ambient x = { thermal := advancePreset hot x } := by
  simp only [advancePhase, h]

theorem advancePhase_ramp (h : x.phase = .ramp) :
    advancePhase hot ambient x = { thermal := advanceRamp hot x } := by
  simp only [advancePhase, h]

theorem advancePhase_hold (h : x.phase = .hold) :
    advancePhase hot ambient x = { thermal := advanceHold x } := by
  simp only [advancePhase, h]

theorem advancePhase_cool (h : x.phase = .cool) : advancePhase hot ambient x = advanceCool hot ambient x := by
  simp only [advancePhase, h]

theorem advancePhase_soak (h : x.phase = .soak) : advancePhase hot ambient x = advanceSoak x := by
  simp only [advancePhase, h]

/-- The clock of a phase after its advance. -/
def nextClock (x : Thermal) : Nat := min 65535 (x.clock + 1)

/-- The target of a ramp after its advance. -/
def nextRamp (x : Thermal) (start : Int) : Int :=
  min x.recipe.tmax (start + (x.recipe.rampRate : Int) * nextClock x / 60)

theorem rampTarget_eq {start : Int} (hstart : x.rampStart = some start) (stall : Bool) :
    rampTarget (tickClock { x with stall := stall }) (tickClock { x with stall := stall }).clock = nextRamp x start := by
  simp [rampTarget, tickClock, satInc, hstart, nextRamp, nextClock]

theorem advanceRamp_moves {start : Int} (hstart : x.rampStart = some start) (h : x.target - x.recipe.lagLimit ≤ hot) :
    advanceRamp hot x =
      if nextRamp x start = x.recipe.tmax then enterHold (tickClock { x with stall := false })
      else { tickClock { x with stall := false } with target := nextRamp x start } := by
  have hmoves : ¬rampStalls hot x = true := by simpa [rampStalls] using h
  rw [advanceRamp, if_neg hmoves]
  simp only [rampTarget_eq hstart]
  rfl

/-- The target of COOL after an advance (R64). -/
def nextCool (x : Thermal) (ambient : Option Int) (start : Int) : Int :=
  min x.recipe.tmax (max (start - (x.recipe.coolRate * nextClock x / 60 : Nat)) (ambient.getD x.recipe.presetFloor))

/-- A COOL bed's thermal part after an advance that does not leave COOL. -/
def cooled (x : Thermal) (ambient : Option Int) (start : Int) : Thermal :=
  { x with clock := nextClock x, target := nextCool x ambient start }

/-- COOL ends (R64). -/
def coolOver (hot : Int) (ambient : Option Int) (x : Thermal) : Prop :=
  (∃ v ∈ ambient, hot - v ≤ x.recipe.stripDelta) ∨ x.recipe.coolMax ≤ nextClock x

theorem coolEnds_iff (start : Int) :
    coolEnds hot ambient (cooled x ambient start) = true ↔ coolOver hot ambient x := by
  unfold coolEnds coolOver
  rw [Bool.or_eq_true]
  refine or_congr ?_ decide_eq_true_iff
  cases ambient with
  | none => simp
  | some v => simp [cooled]

theorem advanceCool_eq {start : Int} (hstart : x.coolStart = some start) : advanceCool hot ambient x =
    if coolEnds hot ambient (cooled x ambient start) then
      if marginMet x.margin then { thermal := cooled x ambient start, done := true }
      else { thermal := { cooled x ambient start with phase := .soak, clock := 0, coolStart := none } }
    else { thermal := cooled x ambient start } := by
  have htarget : coolTarget (tickClock x) ambient (tickClock x).clock = nextCool x ambient start := by
    simp [coolTarget, tickClock, satInc, hstart, nextCool, nextClock]
  have hcooled : { tickClock x with target := nextCool x ambient start } = cooled x ambient start := rfl
  simp only [advanceCool, htarget, hcooled]
  rfl

/-! ### The minute of the part -/

theorem demandBlind_withheld (h : min 10 (x.blindCount + 1) = 10) (hbefore : x.blindCount ≠ 10) :
    (demandBlind x).withheld = true := by
  have hwithhold : satInc 10 x.blindCount = 10 ∧ x.blindCount ≠ 10 := ⟨h, hbefore⟩
  unfold demandBlind
  dsimp only
  rw [if_pos hwithhold]

theorem exec_curingMinute (hrun : s.running = true) : exec .curingMinute s = .next (forEach treatBed s) :=
  whenRunning_running _ _ hrun

theorem curing_of_same {r : BedRec} (hcuring : s.curingBed b = true) (h : r = s.bedRec b) : r.state = .curing := by
  rw [h]
  exact of_decide_eq_true hcuring

/-- A bed that the minute asks heat for: its state and its request. -/
theorem asked_stays (hcuring : s.curingBed b = true) (h : Asked s t b x) : (t.bedRec b).state = .curing ∧
    (t.heatRec b).request = (s.bedEntry b).ratedPower * (t.thermal b).demand / 1000 := by
  rw [h.thermal]
  exact ⟨curing_of_same hcuring h.bedRec, h.request⟩

theorem account_of_kept (h : CureKept (accrued s b) x) (hasked : t.thermal b = x) :
    ((t.thermal b).maturity, (t.thermal b).remainder) = accountAfter s b := by
  rw [hasked, h.maturity, h.remainder]
  rfl

/-- Every watched bed's account takes its accrual step, and nothing else (R36, R38). -/
theorem minute_account (h : BedMinute s t b) (hw : s.watched b = true) :
    ((t.thermal b).maturity, (t.thermal b).remainder) = accountAfter s b := by
  cases hcuring : s.curingBed b with
  | false => exact account_of_kept {} (h.aged hw hcuring)
  | true =>
    cases hhot : s.hotTemp b with
    | none => exact account_of_kept (pended_kept.trans (demandBlind_kept _)) (h.blind hcuring hhot).1.thermal
    | some hot =>
      by_cases hput : staysPut s b
      · exact account_of_kept (sighted_kept.trans (demandSighted_kept ..)) (h.put hot hcuring hhot hput).asked.thermal
      · cases hdone : (advanced s b hot).done with
        | false =>
          exact account_of_kept (advanced_kept.trans (demandSighted_kept ..))
            (h.advancing hot hcuring hhot hput hdone).1.asked.thermal
        | true =>
          have hleft : CureKept (advanced s b hot).thermal (leftCuring (advanced s b hot).thermal) :=
            { demand := fun _ => Nat.zero_le _ }
          exact account_of_kept (advanced_kept.trans hleft) (h.released hot hcuring hhot hput hdone).thermal

/-- A CURING bed keeps its record, or passes to RELEASABLE. -/
theorem minute_bedRec (h : BedMinute s t b) (hcuring : s.curingBed b = true) :
    t.bedRec b = s.bedRec b ∨ (t.bedRec b).state = .releasable ∧
      t.bedRec b = { s.bedRec b with state := .releasable, permit := 0 } := by
  cases hhot : s.hotTemp b with
  | none => exact .inl (h.blind hcuring hhot).1.bedRec
  | some hot =>
    by_cases hput : staysPut s b
    · exact .inl (h.put hot hcuring hhot hput).asked.bedRec
    · cases hdone : (advanced s b hot).done with
      | false => exact .inl (h.advancing hot hcuring hhot hput hdone).1.asked.bedRec
      | true =>
        have hrec := (h.released hot hcuring hhot hput hdone).bedRec
        exact .inr ⟨by rw [hrec]; rfl, hrec⟩

/-- OVERHEAT is raised where a sighted minute finds the bed newly over its limit (R69). -/
theorem minute_overheat (h : BedMinute s t b) (hcuring : s.curingBed b = true) (hhot : s.hotTemp b = some hot)
    (hnow : (t.thermal b).overheat = true) (hbefore : (accrued s b).overheat = false) : flagSet .overheat t := by
  by_cases hput : staysPut s b
  · have hasked := h.put hot hcuring hhot hput
    rw [hasked.asked.thermal] at hnow
    exact hasked.overheat hnow hbefore
  · cases hdone : (advanced s b hot).done with
    | false =>
      have hasked := (h.advancing hot hcuring hhot hput hdone).1
      rw [hasked.asked.thermal] at hnow
      exact hasked.overheat hnow hbefore
    | true =>
      rw [(h.released hot hcuring hhot hput hdone).thermal] at hnow
      exact absurd hnow (by simp [leftCuring])

theorem notPut (hpause : (sighted s b).pause = .running) (hcool : (accrued s b).coolPending = false) :
    ¬staysPut s b := by
  simp [staysPut, hpause, hcool]

/-- What a bed's minute makes of a CURING bed that is seen (R62, R70, R71). -/
theorem minute_sighted (h : BedMinute s t b) (hcuring : s.curingBed b = true) (hhot : s.hotTemp b = some hot) :
    let asked := (t.bedRec b).state = .curing ∧
      (t.heatRec b).request = (s.bedEntry b).ratedPower * (t.thermal b).demand / 1000
    let q := sighted s b
    let r := advanced s b hot
    (q.pause = .paused ∨ (accrued s b).coolPending = true →
        asked ∧ t.thermal b = demandSighted hot (soaks s b) q)
    ∧ (q.pause = .running → (accrued s b).coolPending = false →
        (r.done = false → asked ∧ t.thermal b = demandSighted hot (soaks s b) r.thermal
          ∧ (r.thermal.stall = true → q.stall = false → (t.cause .rampStalled).flag = true))
        ∧ (r.done = true → (t.bedRec b).state = .releasable
            ∧ t.thermal b = { r.thermal with
                demand := 0, pause := .running, waiting := .none, coolPending := false
                blindCount := 0, withheld := false, overheat := false, stall := false
                prevError := none }
            ∧ (t.cause .bedReleasable).flag = true
            ∧ (t.heatRec b).state = .stopping ∧ (t.heatRec b).request = 0
            ∧ (t.heatRec b).grant = 0 ∧ (t.heatRec b).duty = 0 ∧ s.stopSent t b))
    ∧ ((t.thermal b).overheat = true → (accrued s b).overheat = false → (t.cause .overheat).flag = true) := by
  intro asked q r
  refine ⟨fun hput => ?_, fun hpause hcool => ⟨fun hdone => ?_, fun hdone => ?_⟩, minute_overheat h hcuring hhot⟩
  · have hasked := (h.put hot hcuring hhot hput).asked
    exact ⟨asked_stays hcuring hasked, hasked.thermal⟩
  · obtain ⟨hasked, hstall⟩ := h.advancing hot hcuring hhot (notPut hpause hcool) hdone
    exact ⟨asked_stays hcuring hasked.asked, hasked.asked.thermal, hstall⟩
  · obtain ⟨hthermal, hrec, hflag, hstopping, hrequest, hgrant, hduty, hsent⟩ :=
      h.released hot hcuring hhot (notPut hpause hcool) hdone
    exact ⟨by rw [hrec]; rfl, hthermal, hflag, hstopping, hrequest, hgrant, hduty, hsent⟩

theorem minute_on (s : State) : MinuteOn s (forEach treatBed s) := treatBeds_on (indexes 24) s

/-- The controller is that of R66. -/
theorem controller_taken (hot : Int) (t : Thermal) :
    let e := max (-500) (min (t.target - hot) 500)
    let prev := match t.prevError with
      | some p => p
      | none => e
    let raw := (t.recipe.kp : Int) * (e - prev) + (t.recipe.ki : Int) * e
    let change := if 0 ≤ raw then raw / 64 else -((-raw) / 64)
    (controller hot t).prevError = some e
      ∧ ((controller hot t).demand : Int) = max 0 (min (t.demand + change) t.recipe.heatCap)
      ∧ controller hot t = { t with demand := (controller hot t).demand, prevError := some e } := by
  intro e prev raw change
  have hprev : t.prevError.getD e = prev := by
    simp only [prev]
    cases t.prevError <;> rfl
  refine ⟨rfl, ?_, rfl⟩
  have hchange : change = raw.tdiv 64 := (tdiv_signed raw).symm
  have hraw : raw = (t.recipe.kp : Int) * (e - t.prevError.getD e) + (t.recipe.ki : Int) * e := by rw [hprev]
  rw [hchange, hraw]
  exact Int.toNat_of_nonneg (le_max_left ..)

/-- The advance of RAMP is that of R61. -/
theorem ramp_taken (hot start : Int) (ambient : Option Int) (t : Thermal) (hphase : t.phase = .ramp)
    (hstart : t.rampStart = some start) :
    let n := min 65535 (t.clock + 1)
    let target := min t.recipe.tmax (start + (t.recipe.rampRate : Int) * n / 60)
    (hot < t.target - t.recipe.lagLimit → advancePhase hot ambient t = { thermal := { t with stall := true } })
    ∧ (t.target - t.recipe.lagLimit ≤ hot → target < t.recipe.tmax →
        advancePhase hot ambient t = { thermal := { t with clock := n, target := target, stall := false } })
    ∧ (t.target - t.recipe.lagLimit ≤ hot → target = t.recipe.tmax →
        advancePhase hot ambient t =
          { thermal := { t with phase := .hold, clock := 0, target := t.recipe.tmax
                                rampStart := none, stall := false } }) := by
  intro n target
  rw [advancePhase_ramp hphase]
  refine ⟨fun hlag => ?_, fun hlag htarget => ?_, fun hlag htarget => ?_⟩
  · have hstalls : rampStalls hot t = true := decide_eq_true hlag
    rw [advanceRamp, if_pos hstalls]
  · have hshort : ¬nextRamp t start = t.recipe.tmax := ne_of_lt htarget
    rw [advanceRamp_moves hstart hlag, if_neg hshort]
    rfl
  · have hfull : nextRamp t start = t.recipe.tmax := htarget
    rw [advanceRamp_moves hstart hlag, if_pos hfull]
    rfl

/-- The advance of PRESET is that of R60. -/
theorem preset_taken (hot : Int) (ambient : Option Int) (t : Thermal) (hphase : t.phase = .preset) :
    let n := min 65535 (t.clock + 1)
    (n < t.recipe.presetMinutes → advancePhase hot ambient t =
      { thermal := { t with clock := n, target := t.recipe.presetFloor } })
    ∧ (t.recipe.presetMinutes ≤ n → hot < t.recipe.tmax → advancePhase hot ambient t =
        { thermal := { t with phase := .ramp, clock := 0, rampStart := some hot
                              stall := false, target := hot } })
    ∧ (t.recipe.presetMinutes ≤ n → t.recipe.tmax ≤ hot → advancePhase hot ambient t =
        { thermal := { t with phase := .hold, clock := 0, target := t.recipe.tmax
                              rampStart := none, stall := false } }) := by
  intro n
  rw [advancePhase_preset hphase]
  refine ⟨fun hlast => ?_, fun hlast hbelow => ?_, fun hlast habove => ?_⟩
  · have hwaits : ¬(tickClock t).recipe.presetMinutes ≤ (tickClock t).clock := Nat.not_le.2 hlast
    rw [advancePreset, if_neg hwaits]
    rfl
  · have hends : (tickClock t).recipe.presetMinutes ≤ (tickClock t).clock := hlast
    have hcold : ¬(tickClock t).recipe.tmax ≤ hot := Int.not_le.2 hbelow
    rw [advancePreset, if_pos hends, enterRamp, if_neg hcold]
    rfl
  · have hends : (tickClock t).recipe.presetMinutes ≤ (tickClock t).clock := hlast
    have hwarm : (tickClock t).recipe.tmax ≤ hot := habove
    rw [advancePreset, if_pos hends, enterRamp, if_pos hwarm]
    rfl

/-- The advance of HOLD is that of R63. -/
theorem hold_taken (hot : Int) (ambient : Option Int) (t : Thermal) (hphase : t.phase = .hold) :
    let n := min 65535 (t.clock + 1)
    let met := ∀ x ∈ t.margin, 0 ≤ x
    (met ∨ t.recipe.holdMax ≤ n → advancePhase hot ambient t =
      { thermal := { t with phase := .cool, clock := 0, target := t.recipe.tmax
                            coolStart := some t.recipe.tmax } })
    ∧ (¬met → n < t.recipe.holdMax → advancePhase hot ambient t =
        { thermal := { t with clock := n, target := t.recipe.tmax } }) := by
  intro n met
  have hends : (marginMet (tickClock { t with target := t.recipe.tmax }).margin = true ∨
      (tickClock { t with target := t.recipe.tmax }).recipe.holdMax ≤ (tickClock { t with target := t.recipe.tmax }).clock)
      ↔ (met ∨ t.recipe.holdMax ≤ n) := or_congr (marginMet_iff _) Iff.rfl
  rw [advancePhase_hold hphase]
  refine ⟨fun hover => ?_, fun hnot hlast => ?_⟩
  · rw [advanceHold, if_pos (hends.2 hover)]
    rfl
  · rw [advanceHold, if_neg (fun h => (hends.1 h).elim hnot (Nat.not_le.2 hlast))]
    rfl

/-- The advance of COOL is that of R64. -/
theorem cool_taken (hot start : Int) (ambient : Option Int) (t : Thermal) (hphase : t.phase = .cool)
    (hstart : t.coolStart = some start) :
    let n := min 65535 (t.clock + 1)
    let met := ∀ x ∈ t.margin, 0 ≤ x
    let floor := match ambient with
      | some x => x
      | none => t.recipe.presetFloor
    let target := min t.recipe.tmax (max (start - (t.recipe.coolRate * n / 60 : Nat)) floor)
    let ends := (∃ x ∈ ambient, hot - x ≤ t.recipe.stripDelta) ∨ t.recipe.coolMax ≤ n
    let v := { t with clock := n, target := target }
    (¬ends → advancePhase hot ambient t = { thermal := v })
    ∧ (ends → met → advancePhase hot ambient t = { thermal := v, done := true })
    ∧ (ends → ¬met → advancePhase hot ambient t =
        { thermal := { v with phase := .soak, clock := 0, coolStart := none } }) := by
  intro n met floor target ends v
  have hfloor : floor = ambient.getD t.recipe.presetFloor := by
    simp only [floor]
    cases ambient <;> rfl
  have hv : v = cooled t ambient start := by
    simp only [v, target, hfloor]
    rfl
  have hends : coolEnds hot ambient (cooled t ambient start) = true ↔ ends := coolEnds_iff start
  have hmet : marginMet t.margin = true ↔ met := marginMet_iff _
  rw [advancePhase_cool hphase, advanceCool_eq hstart, hv]
  refine ⟨fun hgoes => ?_, fun hover hdone => ?_, fun hover hnot => ?_⟩
  · rw [if_neg (fun h => hgoes (hends.1 h))]
  · rw [if_pos (hends.2 hover), if_pos (hmet.2 hdone)]
  · rw [if_pos (hends.2 hover), if_neg (fun h => hnot (hmet.1 h))]

/-- The advance of SOAK is that of R65. -/
theorem soak_taken (hot : Int) (ambient : Option Int) (t : Thermal) (hphase : t.phase = .soak) :
    let n := min 65535 (t.clock + 1)
    let met := ∀ x ∈ t.margin, 0 ≤ x
    (met → advancePhase hot ambient t = { thermal := { t with clock := n }, done := true })
    ∧ (¬met → advancePhase hot ambient t = { thermal := { t with clock := n } }) := by
  intro n met
  have hmet : marginMet t.margin = true ↔ met := marginMet_iff _
  rw [advancePhase_soak hphase, advanceSoak]
  refine ⟨fun hdone => ?_, fun hnot => ?_⟩
  · rw [hmet.2 hdone]
    rfl
  · rw [Bool.eq_false_iff.2 (fun h => hnot (hmet.1 h))]
    rfl

/-- Settles O24. -/
theorem curingMinuteTaken : Obligations.CuringMinuteTaken := by
  unfold Obligations.CuringMinuteTaken
  refine ⟨fun s hrun => ⟨_, exec_curingMinute hrun, fun b hw => ?_, fun b hw temp datum htemp hdatum => ?_,
    fun b hw hnone => ?_, fun b hw => (minute_taken s b).unwatched hw, fun b hc => (minute_taken s b).resting hc,
    fun b hc => minute_bedRec (minute_taken s b) hc, ?_⟩, controller_taken, ?_, ?_, ?_⟩
  · have hminute := minute_taken s b
    intro lines acc a p n q ambient asked
    refine ⟨hminute.aged hw, fun hcuring hblind => ?_, fun hot hcuring hhot => minute_sighted hminute hcuring hhot⟩
    obtain ⟨hasked, hflag⟩ := hminute.blind hcuring hblind
    exact ⟨asked_stays hcuring hasked, hasked.thermal, fun hten hbefore => hflag (demandBlind_withheld hten hbefore)⟩
  · have haccount := minute_account (minute_taken s b) hw
    rw [haccount, accountAfter, htemp, hdatum]
  · have haccount := minute_account (minute_taken s b) hw
    have hsame : accountAfter s b = ((s.thermal b).maturity, (s.thermal b).remainder) := by
      unfold accountAfter
      obtain htemp | hdatum := hnone
      · rw [htemp]
      · rw [hdatum]
        cases s.coldTemp b <;> rfl
    rw [hsame] at haccount
    exact Prod.mk.inj haccount
  · have honly := (minute_on s).only
    generalize forEach treatBed s = t at *
    exact honly
  · intro hot soak t
    refine ⟨fun hover => demandSighted_over hover soak, fun hwithin => ⟨?_, ?_⟩⟩
    · rw [demandSighted_within hwithin, if_pos rfl]
    · rw [demandSighted_within hwithin, if_neg (by simp)]
  · exact fun hot start ambient t hphase hstart => ramp_taken hot start ambient t hphase hstart
  · exact fun hot ambient t => ⟨preset_taken hot ambient t, hold_taken hot ambient t,
      fun start hphase hstart => cool_taken hot start ambient t hphase hstart, soak_taken hot ambient t⟩

end

end Sys2Proof.CuringTakenProofs
end
